-- ==== Sys2Proof/Word.lean ====
section
/-!
DEFINITION. The words the manual treats as bits: bytes on the site link and in table images, raw
sample codes, part time, CRC check words and channel masks. Every other quantity of the manual is
an integer (spec/00_scope.md, "Ranges and quantities") and is a Nat or an Int here.
-/

namespace Sys2Proof

/-- One byte of a frame or of a table image. -/
abbrev Byte := BitVec 8

/-- A raw sample code or a CRC-16 check word. -/
abbrev Code := BitVec 16

/-- Part time: a 32-bit millisecond count that wraps (spec/00_scope.md). -/
abbrev PartTime := BitVec 32

/-- A set of cell channels 0..15, bit c standing for channel c: a bleed mask. -/
abbrev CellMask := BitVec 16

/-- A set of racks, bit k - 1 standing for rack k. -/
abbrev RackMask := BitVec 4

end Sys2Proof
end

