-- ==== Sys2Proof/Syntax.lean ====
section
/-!
DEFINITION. The commands of the Talbur C24: one constructor of Instr for each row of
spec/opcode_table.json, with the frames, names and arguments the commands carry.
-/

namespace Sys2Proof

/-! ## Names the manual enumerates -/

/-- Racks 1 to 4. -/
inductive Rack | r1 | r2 | r3 | r4
  deriving DecidableEq, Repr, Inhabited

/-- The two ring ends of spec/00_scope.md. -/
inductive RingEnd | a | b
  deriving DecidableEq, Repr, Inhabited

/-- The two contactors of a rack. -/
inductive Contactor | main | precharge
  deriving DecidableEq, Repr, Inhabited

/-- The eight plant outputs of section 5.1, in its order. -/
inductive Output | pump | fan1 | fan2 | fan3 | compressor1 | compressor2 | heater | exhaust
  deriving DecidableEq, Repr, Inhabited

/-- Detector lines 1 to 12. -/
inductive Line | l1 | l2 | l3 | l4 | l5 | l6 | l7 | l8 | l9 | l10 | l11 | l12
  deriving DecidableEq, Repr, Inhabited

/-- The four readings of a detector loop (section 6.1). -/
inductive LineClass | normal | active | opened | short
  deriving DecidableEq, Repr, Inhabited

/-- The ten loaded tables (R168), in its order. -/
inductive TableName | slot | cal | tconv | limit | rack | derate | ocv | cool | fire | grid
  deriving DecidableEq, Repr, Inhabited

/-- The two banks a TABLE_READ may name (R171). -/
inductive BankName | active | pending
  deriving DecidableEq, Repr, Inhabited

/-- Converter states of R161. -/
inductive ConverterState | stopped | standby | running | fault
  deriving DecidableEq, Repr, Inhabited

/-- Grid states of R161. -/
inductive GridState | normal | rideThrough | lost
  deriving DecidableEq, Repr, Inhabited

/-- The request set of a slot poll (R5): a CELL node's voltages with or without its temperatures, or the
fixed channels of a JUNCTION or PLANT node. -/
inductive RequestSet
  | cells (temperatures : Bool)
  | junction
  | plant
  deriving DecidableEq, Repr, Inhabited

/-- The argument of SET_MODE (R183): RUN, STANDBY or anything else. -/
inductive ModeArg | run | standby | other
  deriving DecidableEq, Repr, Inhabited

/-- The event kind of an event reply (R20): none, one of the table's six, or another kind code. -/
inductive NodeEventCode
  | nothing | nodeRestart | cellHwOv | cellHwUv | senseOpen | bleedHot | nodeFault
  | other (code : Nat)
  deriving DecidableEq, Repr, Inhabited

/-! ## Frames that arrive -/

/-- A token frame as it reaches a ring end (R8). `lengthOk` and `symbolsOk` are the physical
layer's reports that R13 takes as inputs. -/
structure TokenFrame where
  lengthOk : Bool
  symbolsOk : Bool
  echo : Nat
  crc : Code
  deriving DecidableEq, Repr

/-- A sample reply as it reaches a ring end (R12). -/
structure SampleFrame where
  lengthOk : Bool
  symbolsOk : Bool
  node : Nat
  echo : Nat
  codes : List Code
  eventPending : Bool
  nodeFault : Bool
  applied : CellMask
  crc : Code
  deriving DecidableEq, Repr

/-- An event reply as it reaches a ring end (R20). -/
structure EventFrame where
  lengthOk : Bool
  symbolsOk : Bool
  node : Nat
  echo : Nat
  eventPending : Bool
  nodeFault : Bool
  kind : NodeEventCode
  channel : Nat
  crc : Code
  deriving DecidableEq, Repr

/-- A state field of a converter status message as it arrives (R161): one of the states named, or another
code. -/
inductive StateField (α : Type)
  | named (state : α)
  | other (code : Nat)
  deriving DecidableEq, Repr

/-- A converter status message as it arrives (R161). `framingOk` is the receiver's report that check
1 takes as an input. -/
structure StatusFrame where
  framingOk : Bool
  voltage : Int
  current : Int
  converter : StateField ConverterState
  grid : StateField GridState
  crc : Code
  deriving DecidableEq, Repr

/-- A downward frame as it arrives (section 11.1): `malformed` is the line's report of a malformed
byte, `body` the frame kind and payload bytes that arrived between length and CRC-16. -/
structure DownFrame where
  marker : Byte
  malformed : Bool
  length : BitVec 16
  body : List Byte
  crc : Code
  deriving DecidableEq, Repr

/-! ## Requests (R179) -/

/-- What a TRACE_CLEAR names (R47). -/
inductive TraceTarget
  | one (node channel : Nat)
  | all
  deriving DecidableEq, Repr, Inhabited

/-- A request's kind and arguments. `unknown` is a request of an unknown kind or with arguments
malformed for its kind, with its kind byte (R179). -/
inductive Request
  | coolingFaultClear
  | fireAck
  | fireReset
  | connect (racks : RackMask)
  | disconnect (racks : RackMask)
  | clearFault (racks : RackMask)
  | clearTrip (racks : RackMask)
  | emergencyOpen
  | readTrips
  | clearTripHistory
  | tableWrite (table : Option TableName) (first count : Nat) (data : List Byte)
  | tableRead (table : Option TableName) (bank : Option BankName) (first count : Nat)
  | tableCommit (table : Option TableName) (digest : Code)
  | setMode (arg : ModeArg)
  | resetPart
  | readStatus
  | readRack (rack : Nat)
  | readCells (rack firstNode lastNode : Nat) (clear : Bool)
  | traceSet (node channel count : Nat)
  | traceClear (target : TraceTarget)
  | balanceEnable (racks : RackMask) (on : Bool)
  | budgetReload (racks : RackMask)
  | unknown (kind : Byte)
  deriving DecidableEq, Repr, Inhabited

/-! ## The commands -/

/-- The commands of the part: one constructor per row of spec/opcode_table.json, in its order. A
request's row is the step in which the request is taken from the FIFO (R179), with its tag. -/
inductive Instr
  | powerOnReset
  | pinReset
  | commandReset
  | cycleStart
  | loopToken (ringEnd : RingEnd) (frame : TokenFrame)
  | tokenPhaseEnd
  | pollSlotStart
  | sampleReply (ringEnd : RingEnd) (frame : SampleFrame)
  | pollSlotEnd
  | eventTurnStart
  | eventReply (ringEnd : RingEnd) (frame : EventFrame)
  | eventTurnEnd
  | blindTimerExpiry (rack : Rack)
  | oneSecondTimerExpiry
  | dailyReloadTimerExpiry
  | coolDownTimerExpiry (node : Nat)
  | controlIntervalExpiry
  | blindHoldTimerExpiry
  | outputFeedbackChange (output : Output) (on : Bool)
  | proofTimerExpiry (output : Output)
  | coolingFaultClear (tag : Byte)
  | lineReadingChange (line : Line) (reading : LineClass)
  | lineDebounceExpiry (line : Line)
  | hornPatternToggle
  | countdownExpiry
  | releasePulseEnd
  | feedbackWatchExpiry
  | fireAck (tag : Byte)
  | fireReset (tag : Byte)
  | connect (tag : Byte) (racks : RackMask)
  | disconnect (tag : Byte) (racks : RackMask)
  | clearFault (tag : Byte) (racks : RackMask)
  | contactorFeedbackChange (rack : Rack) (contactor : Contactor) (closed : Bool)
  | watchTimerExpiry (rack : Rack) (contactor : Contactor)
  | waitTimerExpiry (rack : Rack)
  | prechargeTimeout (rack : Rack)
  | closeProofExpiry (rack : Rack)
  | prechargeReleaseDelayEnd (rack : Rack)
  | drainTimerExpiry (rack : Rack)
  | openProofExpiry (rack : Rack)
  | clearTrip (tag : Byte) (racks : RackMask)
  | emergencyOpen (tag : Byte)
  | readTrips (tag : Byte)
  | clearTripHistory (tag : Byte)
  | limitPeriodExpiry
  | limitMessageSent
  | converterStatus (frame : StatusFrame)
  | silenceWatchExpiry
  | silentTripExpiry
  | breakerPulseEnd
  | breakerProofExpiry
  | breakerFeedbackChange (closed : Bool)
  | tableWrite (tag : Byte) (table : Option TableName) (first count : Nat) (data : List Byte)
  | tableRead (tag : Byte) (table : Option TableName) (bank : Option BankName) (first count : Nat)
  | tableCommit (tag : Byte) (table : Option TableName) (digest : Code)
  | downwardFrame (frame : DownFrame)
  | unknownRequest (tag : Byte) (kind : Byte)
  | upwardFrameSent
  | siteSilenceExpiry
  | setMode (tag : Byte) (arg : ModeArg)
  | resetPart (tag : Byte)
  | readStatus (tag : Byte)
  | readRack (tag : Byte) (rack : Nat)
  | readCells (tag : Byte) (rack firstNode lastNode : Nat) (clear : Bool)
  | traceSet (tag : Byte) (node channel count : Nat)
  | traceClear (tag : Byte) (target : TraceTarget)
  | balanceEnable (tag : Byte) (racks : RackMask) (on : Bool)
  | budgetReload (tag : Byte) (racks : RackMask)
  | prechargeAttemptExpiry (rack : Rack)
  deriving DecidableEq, Repr

end Sys2Proof
end

