-- ==== Sys2Proof/Decode.lean ====
section
/-!
DEFINITION. The command a word spells by the bits of spec/opcode_table.json. The table gives no row
any bits (every row's "fields" is empty and no row has "fixed"): the part's commands are events at
its interfaces, not words. So no word spells a command.
-/

namespace Sys2Proof

/-- No row of the table gives bits, so no word spells a command. -/
def decodeTableWord (_nbits _w : Nat) : Option Instr := none

end Sys2Proof
end

