-- ==== Sys2Proof/Config.lean ====
section
/-!
DEFINITION. What the manual leaves to the implementation or to a frame layout it does not give.
Every constant here is opaque: nothing in Lean can prove a value of it, so a theorem about the model
holds whatever the part does there. notes/assumptions names each one.
-/

namespace Sys2Proof.Config

/-- The free value behind every choice the manual leaves open ("in no order among them", "either
may be first"): the n-th such choice of a run. State counts them (DESIGN CHOICE, log entry 1). -/
opaque freeChoice : Nat → Nat

/-- The silicon revision of READ_STATUS, less one: the manual gives its range 1..255 (R186). -/
opaque siliconRevisionLessOne : Fin 255

/-- The frame-kind byte of a REQUEST: the layout of section 11.1 gives no code for it. -/
opaque requestFrameKind : Byte

/-- The request a request-kind byte and its argument bytes stand for. R179 names the kinds; the
manual gives neither their codes nor the layout of their arguments. -/
opaque parseRequest : Byte → List Byte → Request

/-- The bytes a token frame's CRC-16 covers (R8 gives the fields, not the layout). -/
opaque tokenBytes : (cycle : Nat) → List Byte

/-- The bytes a slot poll's CRC-16 covers (R10): node address, cycle counter, request set and bleed
mask, absent where the poll says "unchanged". -/
opaque pollBytes : (node cycle : Nat) → RequestSet → Option CellMask → List Byte

/-- The bytes an event poll's CRC-16 covers (R19). -/
opaque eventPollBytes : (node cycle : Nat) → List Byte

/-- The bytes a sample reply's CRC-16 covers (R12). -/
opaque sampleReplyBytes : (node echo : Nat) → List Code → (eventPending nodeFault : Bool) →
  CellMask → List Byte

/-- The bytes an event reply's CRC-16 covers (R20). -/
opaque eventReplyBytes : (node echo : Nat) → (eventPending nodeFault : Bool) → NodeEventCode →
  (channel : Nat) → List Byte

/-- The bytes a converter status message's CRC-16 covers (R161). -/
opaque statusBytes : Int → Int → StateField ConverterState → StateField GridState → List Byte

/-- The bytes a limit message's CRC-16 covers (R159): counter, charge limit, discharge limit,
connected racks, hold flag, stop flag. -/
opaque limitMessageBytes : (counter charge discharge racks : Nat) → (hold stop : Bool) → List Byte

/-- Bytes a READ_CELLS reply takes before its records, in a frame of at most 2048 (R44). -/
opaque cellsReplyHeaderBytes : Nat

/-- Bytes one record takes in a READ_CELLS reply, with levels or without, and with the contents of a
balancing record or without (R44, R84). -/
opaque cellsRecordBytes : (withLevels withBalance : Bool) → Nat

/-- The meaning of a code other than 0 and 1 in a yes-or-no field that no commit check reads
(release enabled of the FIRE record: R118 lists no check of it). -/
opaque unassignedYesNo : Nat → Bool

/-- The cool-down time, in seconds, of a node whose BLEED_HOT arrives while no RACK table is active:
R79 takes it from that table and states no other. -/
opaque coolDownUnloaded : Nat

/-- The silicon revision, 1..255 (R186). -/
def siliconRevision : Nat := siliconRevisionLessOne.val + 1

end Sys2Proof.Config
end

