-- ==== Sys2Proof/Machine/State.lean ====
section
/-!
DEFINITION. The state of the Talbur C24 as plain data: one structure per block of the manual's block
diagram (spec/00_scope.md), holding what its chapter says the block keeps, the faults and refusals,
and the state right after a power-on reset.
-/

namespace Sys2Proof.Machine

/-! ## Fixed-size families -/

/-- One value per rack. -/
structure PerRack (α : Type) where
  r1 : α
  r2 : α
  r3 : α
  r4 : α
  deriving DecidableEq, Repr

def PerRack.get {α : Type} (p : PerRack α) : Rack → α
  | .r1 => p.r1
  | .r2 => p.r2
  | .r3 => p.r3
  | .r4 => p.r4

def PerRack.set {α : Type} (p : PerRack α) (r : Rack) (x : α) : PerRack α :=
  match r with
  | .r1 => { p with r1 := x }
  | .r2 => { p with r2 := x }
  | .r3 => { p with r3 := x }
  | .r4 => { p with r4 := x }

def PerRack.fill {α : Type} (x : α) : PerRack α := ⟨x, x, x, x⟩

/-- One value per plant output. -/
structure PerOutput (α : Type) where
  pump : α
  fan1 : α
  fan2 : α
  fan3 : α
  compressor1 : α
  compressor2 : α
  heater : α
  exhaust : α
  deriving DecidableEq, Repr

def PerOutput.get {α : Type} (p : PerOutput α) : Output → α
  | .pump => p.pump
  | .fan1 => p.fan1
  | .fan2 => p.fan2
  | .fan3 => p.fan3
  | .compressor1 => p.compressor1
  | .compressor2 => p.compressor2
  | .heater => p.heater
  | .exhaust => p.exhaust

def PerOutput.set {α : Type} (p : PerOutput α) (o : Output) (x : α) : PerOutput α :=
  match o with
  | .pump => { p with pump := x }
  | .fan1 => { p with fan1 := x }
  | .fan2 => { p with fan2 := x }
  | .fan3 => { p with fan3 := x }
  | .compressor1 => { p with compressor1 := x }
  | .compressor2 => { p with compressor2 := x }
  | .heater => { p with heater := x }
  | .exhaust => { p with exhaust := x }

def PerOutput.fill {α : Type} (x : α) : PerOutput α := ⟨x, x, x, x, x, x, x, x⟩

/-- One value per detector line. -/
structure PerLine (α : Type) where
  l1 : α
  l2 : α
  l3 : α
  l4 : α
  l5 : α
  l6 : α
  l7 : α
  l8 : α
  l9 : α
  l10 : α
  l11 : α
  l12 : α
  deriving DecidableEq, Repr

def PerLine.get {α : Type} (p : PerLine α) : Line → α
  | .l1 => p.l1
  | .l2 => p.l2
  | .l3 => p.l3
  | .l4 => p.l4
  | .l5 => p.l5
  | .l6 => p.l6
  | .l7 => p.l7
  | .l8 => p.l8
  | .l9 => p.l9
  | .l10 => p.l10
  | .l11 => p.l11
  | .l12 => p.l12

def PerLine.set {α : Type} (p : PerLine α) (l : Line) (x : α) : PerLine α :=
  match l with
  | .l1 => { p with l1 := x }
  | .l2 => { p with l2 := x }
  | .l3 => { p with l3 := x }
  | .l4 => { p with l4 := x }
  | .l5 => { p with l5 := x }
  | .l6 => { p with l6 := x }
  | .l7 => { p with l7 := x }
  | .l8 => { p with l8 := x }
  | .l9 => { p with l9 := x }
  | .l10 => { p with l10 := x }
  | .l11 => { p with l11 := x }
  | .l12 => { p with l12 := x }

def PerLine.fill {α : Type} (x : α) : PerLine α := ⟨x, x, x, x, x, x, x, x, x, x, x, x⟩

/-- One value per loaded table. -/
structure PerTable (α : Type) where
  slot : α
  cal : α
  tconv : α
  limit : α
  rack : α
  derate : α
  ocv : α
  cool : α
  fire : α
  grid : α
  deriving DecidableEq, Repr

def PerTable.get {α : Type} (p : PerTable α) : TableName → α
  | .slot => p.slot
  | .cal => p.cal
  | .tconv => p.tconv
  | .limit => p.limit
  | .rack => p.rack
  | .derate => p.derate
  | .ocv => p.ocv
  | .cool => p.cool
  | .fire => p.fire
  | .grid => p.grid

def PerTable.set {α : Type} (p : PerTable α) (t : TableName) (x : α) : PerTable α :=
  match t with
  | .slot => { p with slot := x }
  | .cal => { p with cal := x }
  | .tconv => { p with tconv := x }
  | .limit => { p with limit := x }
  | .rack => { p with rack := x }
  | .derate => { p with derate := x }
  | .ocv => { p with ocv := x }
  | .cool => { p with cool := x }
  | .fire => { p with fire := x }
  | .grid => { p with grid := x }

def PerTable.fill {α : Type} (x : α) : PerTable α := ⟨x, x, x, x, x, x, x, x, x, x⟩

/-- One value per current direction. -/
structure PerDirection (α : Type) where
  charge : α
  discharge : α
  deriving DecidableEq, Repr

/-! ## Timers -/

/-- A timer: stopped, running since a part time, or stopped at its full value (in ms). -/
inductive Timer
  | stopped
  | running (since : PartTime)
  | full (ms : Nat)
  deriving DecidableEq, Repr

/-! ## Ring controller (chapter 1) -/

/-- The ring state of R9. -/
inductive RingState | closed | opened
  deriving DecidableEq, Repr

/-- The link state of R16. -/
inductive LinkState | online | retrying | stale
  deriving DecidableEq, Repr

/-- What a poll's reply must be: a sample reply of so many codes (R10), or an event reply (R19). -/
inductive Wanted
  | sample (codes : Nat)
  | event
  deriving DecidableEq, Repr

/-- The expectation of a ring end (R10, R13). `ended` says the slot or turn of the poll is over. -/
structure Expectation where
  node : Nat
  cycle : Nat
  wanted : Wanted
  ended : Bool
  deriving DecidableEq, Repr

/-- The six error kinds of a ring end (R13). -/
inductive RingError | framing | noise | crc | address | staleEcho | late
  deriving DecidableEq, Repr

/-- The six error counts of a ring end, 0..65535 each (R14). -/
structure RingErrors where
  framing : Nat
  noise : Nat
  crc : Nat
  address : Nat
  staleEcho : Nat
  late : Nat
  deriving DecidableEq, Repr

/-- The bleed mask of a poll: a set of channels or "unchanged" (R10, R11). -/
inductive PollMask
  | unchanged
  | mask (channels : CellMask)
  deriving DecidableEq, Repr

/-- A frame the ring controller sends outward (R8, R10, R19). -/
inductive RingFrame
  | token (cycle : Nat) (crc : Code)
  | poll (node cycle : Nat) (request : RequestSet) (mask : PollMask) (crc : Code)
  | eventPoll (node cycle : Nat) (crc : Code)
  deriving DecidableEq, Repr

/-- A ring end: its expectation, its error counts and the last frame sent from it. -/
structure EndState where
  expectation : Option Expectation
  errors : RingErrors
  sent : Option RingFrame
  deriving DecidableEq, Repr

/-- The ring controller's state of one enabled node (R11, R16, R17). -/
structure RingNode where
  node : Nat
  side : RingEnd
  miss : Nat
  sideMiss : Nat
  link : LinkState
  heard : Bool
  commanded : CellMask
  confirmed : Bool
  echoed : Option CellMask
  deriving DecidableEq, Repr

/-- Where the scan cycle stands (section 1.1). `due` waits for the first cycle to start (R3);
slots and turns are numbered from 0 here, and `betweenTurns` with every turn done is the quiet
remainder. -/
inductive Phase
  | idle
  | due
  | token
  | betweenSlots (done : Nat)
  | slot (index : Nat)
  | betweenTurns (done : Nat)
  | turn (index node : Nat)
  deriving DecidableEq, Repr

structure Ring where
  cycle : Nat
  phase : Phase
  cycleStart : PartTime
  cycleLength : Nat
  tokenReturned : Bool
  ringState : RingState
  returnedRun : Nat
  lostRun : Nat
  endA : EndState
  endB : EndState
  nodes : List RingNode
  pollList : List Nat
  deriving DecidableEq, Repr

/-! ## Sample processor (chapter 2) -/

/-- The quality of a record (R23). -/
inductive Quality | fresh | range | stale | invalid
  deriving DecidableEq, Repr

/-- The level of a record's side (R23). -/
inductive Level | normal | warn | trip
  deriving DecidableEq, Repr

/-- The run target of a side (R34). -/
inductive RunTarget | warn | trip
  deriving DecidableEq, Repr

/-- The four sides a level can be on (R33). -/
inductive LevelSide | ov | uv | ot | ut
  deriving DecidableEq, Repr

/-- One side of a record with levels (R23). -/
structure SideState where
  level : Level
  setCount : Nat
  target : RunTarget
  releaseCount : Nat
  acknowledged : Bool
  deriving DecidableEq, Repr

/-- What a record is kept for (R23). -/
inductive RecordKind | cellVoltage | cellTemperature | junction | plant
  deriving DecidableEq, Repr

/-- A channel record (R23): `high` and `low` are the OV and UV sides of a voltage record, the OT and
UT sides of a cell temperature record, absent otherwise. -/
structure Record where
  rack : Option Rack
  node : Nat
  channel : Nat
  kind : RecordKind
  value : Option Int
  stamp : Option PartTime
  quality : Quality
  minimum : Option Int
  maximum : Option Int
  high : Option SideState
  low : Option SideState
  deriving DecidableEq, Repr

/-- The sample processor's state of one enabled node (R23). `countsStale` is R26's judgement at the
node's last slot outcome. -/
structure SampleNode where
  node : Nat
  emptySlots : Nat
  faulted : Bool
  senseOpen : BitVec 20
  countsStale : Bool
  deriving DecidableEq, Repr

/-- A value with the channel it was found at (R40). -/
structure AtChannel where
  value : Int
  node : Nat
  channel : Nat
  deriving DecidableEq, Repr

/-- A junction record's value and quality in the aggregates (R40). -/
structure Reading where
  value : Int
  quality : Quality
  deriving DecidableEq, Repr

/-- The rack aggregates of R40. -/
structure Aggregates where
  vmax : Option AtChannel
  vmin : Option AtChannel
  n : Nat
  vsum : Option Int
  vmean : Option Int
  tmax : Option AtChannel
  tmin : Option AtChannel
  current : Option Reading
  rackVoltage : Option Reading
  busVoltage : Option Reading
  busbar : Option Reading
  staleCount : Nat
  invalidCount : Nat
  deriving DecidableEq, Repr

/-- The sample processor's state of one rack (R39 to R42). `junctionTaken` says the junction node's
slot of this cycle brought taken codes; `hadSet` that a rack set complete has come since the rack was
last reset or newly enabled (R129). -/
structure RackSamples where
  aggregates : Aggregates
  junctionTaken : Bool
  hadSet : Bool
  beyondRun : Nat
  withinRun : Nat
  mismatch : Bool
  blind : Bool
  blindTimer : Timer
  deriving DecidableEq, Repr

/-- A valid entry of the trace table (R45). -/
structure TraceEntry where
  node : Nat
  channel : Nat
  remaining : Nat
  deriving DecidableEq, Repr

structure Samples where
  records : List Record
  nodes : List SampleNode
  racks : PerRack RackSamples
  trace : List (Option TraceEntry)
  deriving DecidableEq, Repr

/-! ## Limit computer (chapter 3) -/

/-- The charge quality of R53. -/
inductive ChargeQuality | unknown | estimated | known
  deriving DecidableEq, Repr

/-- One direction's factors of the last evaluation, with the caps that applied, F and the target
(R63). -/
structure Factors where
  temperature : Nat
  voltage : Nat
  soc : Nat
  cooling : Nat
  alertCap : Option Nat
  blindCap : Option Nat
  autonomousCap : Option Nat
  zeroCap : Bool
  f : Nat
  target : Nat
  deriving DecidableEq, Repr

/-- The limit computer's state of one rack. `topDue` and `bottomDue` mark a count that a DERATE swap
left at or above a lowered anchor persistence (R58). -/
structure RackCharge where
  q : Nat
  r : Nat
  quality : ChargeQuality
  lastStamp : Option PartTime
  gap : Bool
  topCount : Nat
  bottomCount : Nat
  topDue : Bool
  bottomDue : Bool
  restStart : Option PartTime
  factors : Option (PerDirection Factors)
  limit : PerDirection Nat
  lastEvaluation : Option PartTime
  deriving DecidableEq, Repr

/-- The zero conditions of R66. -/
structure ZeroConditions where
  notConfigured : Bool
  noRack : Bool
  hold : Bool
  fire : Bool
  silent : Bool
  deriving DecidableEq, Repr

structure Limits where
  racks : PerRack RackCharge
  container : PerDirection Nat
  zeros : ZeroConditions
  deriving DecidableEq, Repr

/-! ## Balancing scheduler (chapter 4) -/

/-- The states of a balancing record (R71). -/
inductive BalanceState | idle | active | suspended | budgetSpent
  deriving DecidableEq, Repr

structure BalanceRecord where
  rack : Rack
  node : Nat
  channel : Nat
  state : BalanceState
  remaining : Nat
  commanded : Bool
  echoed : Bool
  counted : Bool
  deriving DecidableEq, Repr

/-- A running cool-down timer keeps the time it started with (R79). -/
structure CoolDown where
  since : PartTime
  seconds : Nat
  deriving DecidableEq, Repr

structure BalanceNode where
  node : Nat
  fault : Bool
  mismatches : Nat
  coolDown : Option CoolDown
  deriving DecidableEq, Repr

/-- The conditions of R74, in the order of its table. -/
inductive EligibilityCondition
  | enabled | mode | fireAndGas | latches | blind | current | spread
  deriving DecidableEq, Repr

/-- What READ_RACK shows of the rack's last set complete (R84). -/
inductive Eligibility
  | notYet
  | eligible
  | failed (first : EligibilityCondition)
  deriving DecidableEq, Repr

/-- The balancing scheduler's state of one rack. `firstSetDue` marks that R85's check of empty
budgets falls at the rack's next set complete. -/
structure RackBalance where
  enabled : Bool
  eligibility : Eligibility
  lastLimit : Option Nat
  firstSetDue : Bool
  deriving DecidableEq, Repr

structure Balance where
  records : List BalanceRecord
  nodes : List BalanceNode
  racks : PerRack RackBalance
  reloadPending : Bool
  dailySince : PartTime
  secondSince : PartTime
  deriving DecidableEq, Repr

/-! ## Cooling controller (chapter 5) -/

/-- The status of a plant output (R86). -/
inductive OutputStatus | normal | failed | stuckOn
  deriving DecidableEq, Repr

structure OutputState where
  command : Bool
  feedback : Bool
  status : OutputStatus
  proof : Option PartTime
  deriving DecidableEq, Repr

/-- The blind state of R91. -/
inductive BlindState | clear | holding | fallback
  deriving DecidableEq, Repr

/-- The ventilation mode of R99. -/
inductive Ventilation | recirculate | exhaust | sealedMode
  deriving DecidableEq, Repr

structure Cooling where
  level : Nat
  levelSince : PartTime
  interval : Option PartTime
  blind : BlindState
  blindHold : Option PartTime
  heaterDemand : Bool
  outputs : PerOutput OutputState
  ventilation : Ventilation
  factor : Nat
  allowance : Nat
  lossMark : Bool
  deriving DecidableEq, Repr

/-! ## Fire and gas unit (chapter 6) -/

/-- A candidate class with its debounce timer (R104). -/
structure Candidate where
  reading : LineClass
  since : PartTime
  deriving DecidableEq, Repr

structure LineState where
  reading : LineClass
  taken : LineClass
  candidate : Option Candidate
  faulted : Bool
  latch : Bool
  acknowledged : Bool
  deriving DecidableEq, Repr

/-- The kind of a detector line (R105), in its order. -/
inductive LineKind | smoke | heat | manual | abort | agentFeedback | unused
  deriving DecidableEq, Repr

/-- The fire stage of R110. -/
inductive FireStage | normal | preAlarm | alarm | countdown | released
  deriving DecidableEq, Repr

/-- The feedback watch of R115. -/
inductive WatchState | none | awaiting | confirmed | unconfirmed
  deriving DecidableEq, Repr

/-- The level of a gas channel (R116). -/
inductive GasLevel | clear | pre | alarm
  deriving DecidableEq, Repr

/-- The run target of a gas channel (R116). -/
inductive GasTarget | pre | alarm
  deriving DecidableEq, Repr

/-- The two gas channels. -/
inductive GasChannel | h2 | co
  deriving DecidableEq, Repr

/-- The gas state of R117. -/
inductive GasState | clear | gasPre | gasAlarm
  deriving DecidableEq, Repr

structure GasChannelState where
  level : GasLevel
  setCount : Nat
  target : GasTarget
  releaseCount : Nat
  lastStamp : Option PartTime
  deriving DecidableEq, Repr

structure Fire where
  lines : PerLine LineState
  stage : FireStage
  countdown : Option PartTime
  held : Bool
  release : Bool
  pulse : Option PartTime
  watch : WatchState
  watchSince : Option PartTime
  horn : Bool
  hornSince : PartTime
  h2 : GasChannelState
  co : GasChannelState
  gas : GasState
  gasFault : Bool
  deriving DecidableEq, Repr

/-! ## Rack sequencer (chapter 7) -/

/-- The rack states of R123. -/
inductive RackState
  | opened | queued | precharging | joining | connected | draining | opening | locked | fault
  deriving DecidableEq, Repr

/-- The fault kinds of section 7. -/
inductive FaultKind | failedToClose | welded | contactWear
  deriving DecidableEq, Repr

/-- The operation of a rack. -/
inductive Operation | none | connect | disconnect | protectiveImmediate | protectiveDeferred
  deriving DecidableEq, Repr

/-- What the operation timer of a rack times. The minimum precharge time and the precharge timeout
run from the same start; `limit` is the timeout there. -/
inductive OperationTimerKind | precharge | closeProof | releaseDelay | drain | openProof
  deriving DecidableEq, Repr

/-- The operation timer: what it times, since when, and its time in ms. -/
structure OperationTimer where
  kind : OperationTimerKind
  since : PartTime
  limit : Nat
  deriving DecidableEq, Repr

/-- The sequencer's state of one rack. `queuedAt` is the part time at which the present connect was
queued; `releaseCurrent` and `underLoad` are kept from a release for its completion report (R135). -/
structure RackSwitch where
  state : RackState
  faultKind : Option FaultKind
  operation : Operation
  prechargeUsed : Bool
  disconnectPending : Bool
  attempts : List PartTime
  hardBreaks : Nat
  timer : Option OperationTimer
  mainClosed : Bool
  prechargeClosed : Bool
  mainWatch : Timer
  prechargeWatch : Timer
  queuedAt : PartTime
  releaseCurrent : Option Int
  underLoad : Bool
  deriving DecidableEq, Repr

/-- An entry of the connect queue (R127). -/
structure QueueEntry where
  rack : Rack
  queuedAt : PartTime
  deriving DecidableEq, Repr

structure Sequencer where
  racks : PerRack RackSwitch
  queue : List QueueEntry
  slot : Option Rack
  hold : Bool
  deriving DecidableEq, Repr

/-! ## Trip unit (chapter 8) -/

/-- The trip kinds of R146. -/
inductive TripKind
  | cellOv | cellUv | cellOt | nodeHwOv | nodeHwUv | blind | overcurrent
  | coolingLoss | gas | fire | welded | converterSilent | emergency
  deriving DecidableEq, Repr

/-- The class of a protective action. -/
inductive TripClass | deferred | immediate
  deriving DecidableEq, Repr

/-- A latch with its acknowledged flag. -/
structure Latch where
  standing : Bool
  acknowledged : Bool
  deriving DecidableEq, Repr

/-- A node a NODE_HW latch awaits, with its heard state (R154). -/
structure Awaited where
  node : Nat
  heard : Bool
  deriving DecidableEq, Repr

/-- The seven rack latches, and the awaited sets of the two NODE_HW latches. -/
structure RackLatches where
  cellOv : Latch
  cellUv : Latch
  cellOt : Latch
  nodeHwOv : Latch
  nodeHwUv : Latch
  blind : Latch
  overcurrent : Latch
  ovAwaited : List Awaited
  uvAwaited : List Awaited
  overrunStart : Option PartTime
  deriving DecidableEq, Repr

/-- The six container latches. -/
structure ContainerLatches where
  coolingLoss : Latch
  gas : Latch
  fire : Latch
  welded : Latch
  converterSilent : Latch
  emergency : Latch
  deriving DecidableEq, Repr

/-- The direction of an excess current (R147). -/
inductive Direction | charge | discharge
  deriving DecidableEq, Repr

/-- What confirmed the fire, or otherwise moved the stage (R110). `quiet` is the model's own name for
the condition of the move from PRE_ALARM to NORMAL (DESIGN CHOICE, log entry 58). -/
inductive StageCause
  | zone (zone : Nat)
  | line (line : Line)
  | gas (state : GasState)
  | quiet
  | countdownExpiry
  | fireReset
  deriving DecidableEq, Repr

/-- What a cause carries, per kind (R146). -/
inductive CauseData
  | cell (node channel : Nat) (value : Int) (stamp : PartTime)
  | nodeHw (node channel : Nat) (stamp : PartTime)
  | blind (stale invalid : Nat)
  | overcurrent (direction : Direction) (current : Int) (limit : Nat) (stamp : PartTime)
  | coolingLoss (temperature : Int)
  | gas (channel : GasChannel) (value : Int) (stamp : PartTime)
  | fire (stage : FireStage) (cause : StageCause)
  | welded (rack : Rack) (contactor : Contactor)
  | converterSilent
  | emergency
  deriving DecidableEq, Repr

/-- The rack context of a trip record (R151): the state of the named rack, or the set of racks whose
main or precharge contactor was commanded closed. -/
inductive RackContext
  | rack (state : RackState)
  | container (closed : List Rack)
  deriving DecidableEq, Repr

/-- The completion of a trip record (R151). -/
structure Completion where
  current : Option Int
  underLoad : Bool
  deriving DecidableEq, Repr

/-- A trip record (R151). `rack` is the rack of a rack-scope kind; `reported` gathers the reports
that have come while the record is incomplete (R152). -/
structure TripRecord where
  number : BitVec 16
  kind : TripKind
  rack : Option Rack
  node : Option Nat
  channel : Option Nat
  value : Option Int
  stamp : PartTime
  cycle : Nat
  context : RackContext
  secondary : Bool
  awaited : List Rack
  reported : Completion
  completion : Option Completion
  deriving DecidableEq, Repr

structure Trips where
  racks : PerRack RackLatches
  container : ContainerLatches
  history : List TripRecord
  sequence : BitVec 16
  deriving DecidableEq, Repr

/-! ## Converter and breaker interface (chapter 9) -/

/-- A limit message (R159). -/
structure LimitMessage where
  counter : Nat
  charge : Nat
  discharge : Nat
  connected : Nat
  hold : Bool
  stop : Bool
  crc : Code
  deriving DecidableEq, Repr

/-- The last valid converter status, with the part time at which it arrived (R161). -/
structure ConverterStatus where
  voltage : Int
  current : Int
  converter : ConverterState
  grid : GridState
  arrived : PartTime
  deriving DecidableEq, Repr

/-- The pulse sequence states of R165. -/
inductive PulseState | idle | pulsing | proving | failed
  deriving DecidableEq, Repr

/-- The converter and breaker interface. `grid` is the grid state the part uses (R163); `holdFlag`
and `stopFlag` are the flags as they last stood; `limitsWorked` says the limit computer has worked
out the container limits since the reset (R159); `proofLimit` is the time of the running breaker
proof timer (R166). -/
structure Converter where
  counter : Nat
  periodSince : PartTime
  sending : Bool
  waiting : Bool
  lastMessage : Option LimitMessage
  holdFlag : Bool
  stopFlag : Bool
  limitsWorked : Bool
  status : Option ConverterStatus
  grid : GridState
  silenceWatch : Option PartTime
  silent : Bool
  silentTrip : Timer
  framingErrors : Nat
  crcErrors : Nat
  rangeErrors : Nat
  permit : Bool
  pulse : PulseState
  pulseNumber : Nat
  pulseSince : PartTime
  proofSince : PartTime
  proofLimit : Nat
  breakerClosed : Bool
  deriving DecidableEq, Repr

/-! ## Table store (chapter 10) -/

/-- An entry image, and a bank's images in index order (R168). -/
abbrev Image := List Byte

abbrev Bank := List Image

/-- The pending states of R169. -/
inductive PendingState | clean | edited | committed
  deriving DecidableEq, Repr

/-- One table: its banks (absent: empty), the pending state and the digest of the active bank. -/
structure TableState where
  active : Option Bank
  pending : Option Bank
  state : PendingState
  digest : Option Code
  deriving DecidableEq, Repr

structure Tables where
  tables : PerTable TableState
  requiredSet : Bool
  deriving DecidableEq, Repr

/-! ## Site link interface (chapter 11) -/

/-- The part modes of R183. -/
inductive Mode | unconfigured | run | standby
  deriving DecidableEq, Repr

/-- What changed the mode or AUTONOMOUS (R183, R185). -/
inductive ModeCause
  | requiredSet | setMode | fireStage | gasState | warn | siteSilence | siteResumed
  deriving DecidableEq, Repr

/-- The cause a RACK_STATE names. R125 lists a request, a timer, a feedback input and a trip kind. DESIGN
CHOICE (log entry 68): a change that none of these brings about names the rack set complete, the change
of fire stage or gas state, AUTONOMOUS, the table swap or the cleared latch that does. A watch timer and
a feedback input are named with the contactor they belong to. -/
inductive RackCause
  | connect | disconnect | clearFault
  | setComplete
  | watchTimer (contactor : Contactor)
  | waitTimer | prechargeTimeout | closeProof | releaseDelay | drainTimer | openProof
  | feedback (contactor : Contactor)
  | trip (kind : TripKind)
  | fireOrGas | siteSilence | tableSwap | latchCleared
  deriving DecidableEq, Repr

/-- The outcomes a CONNECT_RESULT names (R126). -/
inductive ConnectOutcome
  | connected | voltageMismatch | cancelled | abortedByTrip | prechargeTimeout | failedToClose
  deriving DecidableEq, Repr

/-- The anchor kinds of SOC_ANCHOR (R55, R57). -/
inductive AnchorKind | top | bottom | ocv
  deriving DecidableEq, Repr

/-- The contents of the events of R182. -/
inductive Event
  | limitState (rack : Option Rack) (node channel : Nat) (side : LevelSide) (before after : Level)
      (value : Option Int) (stamp : Option PartTime)
  | tripTaken (record : TripRecord) (data : CauseData)
  | tripCompleted (number : BitVec 16) (completion : Completion)
  | tripCleared (rack : Option Rack) (kind : TripKind)
  | rackState (rack : Rack) (before after : RackState) (fault : Option FaultKind)
      (cause : RackCause)
  | connectResult (rack : Rack) (outcome : ConnectOutcome) (queuedAt : PartTime)
  | fireStage (before after : FireStage) (cause : StageCause)
  | gasState (before after : GasState) (channel : GasChannel) (value : Int) (stamp : PartTime)
  | detector (line : Line) (kind : LineKind) (before after : LineClass) (latch : Bool)
  | releaseUnconfirmed (classes : List (Line × LineClass))
  | coolingOutput (output : Output) (status : OutputStatus) (command feedback : Bool)
  | coolingFallback (before after : Nat)
  | coolingRecovered (level : Nat) (temperature : Int)
  | ringState (state : RingState) (cycle : Nat)
  | nodeEvent (usable : Bool) (node : Nat) (rack : Option Rack) (kind : NodeEventCode)
      (channel : Option Nat) (stamp : PartTime) (cycle : Nat)
  | tableSwapped (table : TableName) (digest : Code) (cycle : Nat)
  | traceDone (node channel : Nat)
  | budgetSpent (rack : Rack) (node channel : Nat)
  | socAnchor (rack : Rack) (kind : AnchorKind) (qBefore qAfter : Nat)
      (qualityBefore : ChargeQuality) (socAfter : Option Nat) (stamp : PartTime)
  | breakerFailed (pulses : Nat)
  | modeChange (before after : Mode) (autonomous : Bool) (cause : ModeCause)
  deriving DecidableEq, Repr

/-- An event of the queue: its post number and the part time of posting (R182). -/
structure Posted where
  number : BitVec 16
  time : PartTime
  event : Event
  deriving DecidableEq, Repr

/-- A TRACE report (R46). -/
structure TraceReport where
  node : Nat
  channel : Nat
  raw : Code
  value : Option Int
  stamp : PartTime
  deriving DecidableEq, Repr

/-- A rack summary (R181): what chapters 2, 3, 4, 7 and 8 name for it. The charge state of R67 is taken
to be Q, r, SOC, the charge quality and CHARGE_GAP (DEDUCED, log entry 62). -/
structure RackSummary where
  rack : Rack
  aggregates : Aggregates
  mismatch : Bool
  blind : Bool
  q : Nat
  r : Nat
  soc : Option Nat
  chargeQuality : ChargeQuality
  gap : Bool
  limit : PerDirection Nat
  activeRecords : Nat
  suspendedNodes : Nat
  spentRecords : Nat
  state : RackState
  faultKind : Option FaultKind
  operation : Operation
  hardBreaks : Nat
  latches : List TripKind
  deriving DecidableEq, Repr

/-- A container summary (R181): what the chapters name for it. -/
structure ContainerSummary where
  mode : Mode
  autonomous : Bool
  eventLost : Bool
  ringState : RingState
  limits : PerDirection Nat
  zeros : ZeroConditions
  level : Nat
  ventilation : Ventilation
  coolingFactor : Nat
  allowance : Nat
  failedOutputs : Nat
  stuckOutputs : Nat
  stage : FireStage
  gas : GasState
  gasFault : Bool
  latchesSet : Nat
  faultedLines : Nat
  countdownLeft : Nat
  countdownHeld : Bool
  watch : WatchState
  connected : Nat
  hold : Bool
  latches : List TripKind
  status : Option ConverterStatus
  permit : Bool
  breakerClosed : Bool
  deriving DecidableEq, Repr

/-- The results of a reply (R179). -/
inductive Result
  | ok | busy | badRequest | badIndex | wrongMode | notConfigured | already | tripActive
  | fireActive | invalidTable | digestMismatch | commitPending | traceConflict | prechargeBudget
  deriving DecidableEq, Repr

/-- The reasons an INVALID_TABLE names (chapters 1 to 6). -/
inductive Reason
  | range | order | count | scheduleOverrun | duplicateAddress | selector | plantCount | rackNodes
  | junctionCount | pump | zone
  deriving DecidableEq, Repr

/-- What READ_STATUS carries of one node of the ring (R14). -/
structure NodeReport where
  node : Nat
  side : RingEnd
  link : LinkState
  miss : Nat
  heard : Bool
  deriving DecidableEq, Repr

/-- What READ_STATUS carries of one output (R102): `elapsed` is the proof timer's. -/
structure OutputReport where
  command : Bool
  feedback : Bool
  status : OutputStatus
  elapsed : Nat
  deriving DecidableEq, Repr

/-- What READ_STATUS carries of one detector line (R121). -/
structure LineReport where
  reading : LineClass
  taken : LineClass
  candidate : Option LineClass
  elapsed : Nat
  kind : LineKind
  faulted : Bool
  latch : Bool
  acknowledged : Bool
  deriving DecidableEq, Repr

/-- What READ_STATUS carries of one zone (R121). -/
structure ZoneReport where
  latched : Nat
  degraded : Bool
  deriving DecidableEq, Repr

/-- What READ_STATUS carries of one table (R177). -/
structure TableReport where
  holds : Bool
  pending : PendingState
  digest : Option Code
  deriving DecidableEq, Repr

/-- The link error flags of R178. -/
structure LinkErrors where
  framing : Bool
  length : Bool
  crc : Bool
  kind : Bool
  replyOverrun : Bool
  deriving DecidableEq, Repr

/-- The reply of READ_STATUS (R186), block by block. -/
structure StatusReport where
  partCode : String
  revision : Nat
  mode : Mode
  autonomous : Bool
  silenceElapsed : Option Nat
  eventLost : Bool
  postCounter : BitVec 16
  fifoFill : Nat
  replyFill : Nat
  eventFill : Nat
  traceFill : Nat
  linkErrors : LinkErrors
  errorsA : RingErrors
  errorsB : RingErrors
  ringState : RingState
  nodes : List NodeReport
  limits : PerDirection Nat
  zeros : ZeroConditions
  level : Nat
  levelSince : PartTime
  dwellLeft : Nat
  blind : BlindState
  blindHoldElapsed : Option Nat
  heaterDemand : Bool
  outputs : PerOutput OutputReport
  ventilation : Ventilation
  coolingFactor : Nat
  coolingCaps : List Output
  allowance : Nat
  lossMark : Bool
  lines : PerLine LineReport
  zones : List ZoneReport
  stage : FireStage
  countdownLeft : Nat
  countdownHeld : Bool
  release : Bool
  pulseLeft : Nat
  watch : WatchState
  horn : Bool
  h2 : GasChannelState
  co : GasChannelState
  gas : GasState
  gasFault : Bool
  fireTable : Bool
  rackStates : PerRack RackState
  queue : List QueueEntry
  slot : Option Rack
  hold : Bool
  latches : ContainerLatches
  sequence : BitVec 16
  historyFill : Nat
  lastMessage : Option LimitMessage
  framingErrors : Nat
  crcErrors : Nat
  rangeErrors : Nat
  status : Option ConverterStatus
  converter : ConverterState
  grid : GridState
  gridReported : Bool
  permit : Bool
  pulse : PulseState
  pulseNumber : Nat
  breakerClosed : Bool
  tables : PerTable TableReport
  requiredSet : Bool
  deriving DecidableEq, Repr

/-- What READ_RACK carries of one CELL node (R84). -/
structure BalanceNodeReport where
  node : Nat
  fault : Bool
  mismatches : Nat
  coolDownLeft : Nat
  deriving DecidableEq, Repr

/-- The reply of READ_RACK (R44, R67, R84, R144, R157). -/
structure RackReport where
  rack : Rack
  aggregates : Aggregates
  mismatch : Bool
  blind : Bool
  blindElapsed : Nat
  q : Nat
  r : Nat
  soc : Option Nat
  chargeQuality : ChargeQuality
  gap : Bool
  topCount : Nat
  bottomCount : Nat
  restStart : Option PartTime
  restLasted : Nat
  factors : Option (PerDirection Factors)
  limit : PerDirection Nat
  lastEvaluation : Option PartTime
  balanceEnabled : Bool
  eligibility : Eligibility
  activeRecords : Nat
  lastLimit : Option Nat
  balanceNodes : List BalanceNodeReport
  reloadLeft : Nat
  state : RackState
  faultKind : Option FaultKind
  operation : Operation
  mainCommand : Bool
  prechargeCommand : Bool
  mainClosed : Bool
  prechargeClosed : Bool
  mainWatch : Nat
  prechargeWatch : Nat
  timerElapsed : Nat
  prechargeUsed : Bool
  disconnectPending : Bool
  queuePlace : Option Nat
  queuedAt : Option PartTime
  waitLeft : Nat
  attempts : List PartTime
  budgetSpent : Bool
  oldestLeaves : Option PartTime
  hardBreaks : Nat
  latches : RackLatches
  overrunRun : Nat
  deriving DecidableEq, Repr

/-- One record in a READ_CELLS reply (R44, R84): the record, and for a voltage record its balancing
record. -/
structure CellReport where
  node : Nat
  channel : Nat
  value : Option Int
  stamp : Option PartTime
  quality : Quality
  minimum : Option Int
  maximum : Option Int
  high : Option (Level × Bool)
  low : Option (Level × Bool)
  balance : Option BalanceRecord
  deriving DecidableEq, Repr

/-- A reply's contents after its result. -/
inductive ReplyBody
  | nothing
  | outputs (cleared : List Output)
  | fireAck (acknowledged cleared : List Line)
  | fireActive (latched : List Line) (pulse : Bool)
  | perRack (results : List (Rack × Result))
  | clearTrip (acknowledged cleared : List (Option Rack × TripKind))
  | trips (records : List TripRecord) (sequence : BitVec 16)
  | positions (count : Nat)
  | images (images : List Image) (pending : PendingState) (digest : Option Code)
  | digest (digest : Code)
  | invalid (index : Nat) (reason : Reason)
  | swap (made : Bool)
  | status (report : StatusReport)
  | rack (report : RackReport)
  | cells (records : List CellReport) (lastNode : Option Nat)
  | traceHolder (node channel : Nat)
  deriving DecidableEq, Repr

/-- A REPLY: the tag and the request echoed, the result and the contents (section 11.1). -/
structure Reply where
  tag : Byte
  request : Request
  result : Result
  body : ReplyBody
  deriving DecidableEq, Repr

/-- A request of the FIFO with its tag. -/
structure Tagged where
  tag : Byte
  request : Request
  deriving DecidableEq, Repr

/-- The frame under way on the upward link (R180). -/
inductive UpFrame
  | reply (reply : Reply)
  | event (event : Posted)
  | rack (summary : RackSummary)
  | container (summary : ContainerSummary)
  | trace (report : TraceReport)
  deriving DecidableEq, Repr

/-- A place of the state-report ring (R181). -/
inductive Place | rack1 | rack2 | rack3 | rack4 | container
  deriving DecidableEq, Repr

/-- How far a taken RESET_PART has come (R184): none taken, its reply not yet sent, the reset due. -/
inductive ResetProgress | none | taken | due
  deriving DecidableEq, Repr

structure Site where
  fifo : List Tagged
  replies : List Reply
  events : List Posted
  traces : List TraceReport
  rackPlaces : PerRack (Option RackSummary)
  containerPlace : Option ContainerSummary
  pointer : Place
  link : Option UpFrame
  linkErrors : LinkErrors
  eventLost : Bool
  postCounter : BitVec 16
  autonomous : Bool
  silence : Option PartTime
  mode : Mode
  reset : ResetProgress
  deriving DecidableEq, Repr

/-! ## The machine -/

/-- The whole part. `choices` counts the free choices made (log entry 1) and `pending` is the queue of
commands waiting, first in, first out: both are the model's own. -/
structure State where
  now : PartTime
  ring : Ring
  samples : Samples
  limits : Limits
  balance : Balance
  cooling : Cooling
  fire : Fire
  sequencer : Sequencer
  trips : Trips
  converter : Converter
  tables : Tables
  site : Site
  choices : Nat
  pending : List Instr
  deriving DecidableEq, Repr

/-- The machine stops with a fault. No command of the C24 stops the part (the manual names no such
condition), so no meaning raises one; the type has one constructor so that it is not empty. -/
inductive Fault
  /-- Raised by nothing: no rule of the manual stops the part. Safe. -/
  | neverRaised
  deriving DecidableEq, Repr

/-- The reasons a command has no meaning. -/
inductive Refusal
  /-- Raised by exec for a row not yet modelled; no arm raises it. Safe. -/
  | notModelled (mnemonic : String)
  deriving DecidableEq, Repr

/-! ## One update per block -/

def State.withRing (s : State) (x : Ring) : State := { s with ring := x }
def State.withSamples (s : State) (x : Samples) : State := { s with samples := x }
def State.withLimits (s : State) (x : Limits) : State := { s with limits := x }
def State.withBalance (s : State) (x : Balance) : State := { s with balance := x }
def State.withCooling (s : State) (x : Cooling) : State := { s with cooling := x }
def State.withFire (s : State) (x : Fire) : State := { s with fire := x }
def State.withSequencer (s : State) (x : Sequencer) : State := { s with sequencer := x }
def State.withTrips (s : State) (x : Trips) : State := { s with trips := x }
def State.withConverter (s : State) (x : Converter) : State := { s with converter := x }
def State.withTables (s : State) (x : Tables) : State := { s with tables := x }
def State.withSite (s : State) (x : Site) : State := { s with site := x }
def State.withNow (s : State) (x : PartTime) : State := { s with now := x }
def State.withChoices (s : State) (x : Nat) : State := { s with choices := x }
def State.withPending (s : State) (x : List Instr) : State := { s with pending := x }

/-! ## Reset values -/

def RingErrors.zero : RingErrors := ⟨0, 0, 0, 0, 0, 0⟩

def EndState.initial : EndState := ⟨none, .zero, none⟩

/-- R22, with no SLOT table active. -/
def Ring.initial : Ring where
  cycle := 0
  phase := .idle
  cycleStart := 0
  cycleLength := 0
  tokenReturned := false
  ringState := .closed
  returnedRun := 0
  lostRun := 0
  endA := .initial
  endB := .initial
  nodes := []
  pollList := []

/-- A side in its reset state (R48). -/
def SideState.initial : SideState := ⟨.normal, 0, .warn, 0, false⟩

/-- Aggregates absent, counts 0 (R48). -/
def Aggregates.initial : Aggregates :=
  ⟨none, none, 0, none, none, none, none, none, none, none, none, 0, 0⟩

def RackSamples.initial : RackSamples :=
  ⟨.initial, false, false, 0, 0, false, false, .stopped⟩

/-- R48, power-on. -/
def Samples.initial : Samples :=
  ⟨[], [], .fill .initial, List.replicate 32 none⟩

/-- R70, power-on. -/
def RackCharge.initial : RackCharge where
  q := 0
  r := 0
  quality := .unknown
  lastStamp := none
  gap := false
  topCount := 0
  bottomCount := 0
  topDue := false
  bottomDue := false
  restStart := none
  factors := none
  limit := ⟨0, 0⟩
  lastEvaluation := none

/-- R70, power-on: NOT_CONFIGURED and NO_RACK stand. -/
def Limits.initial : Limits := ⟨.fill .initial, ⟨0, 0⟩, ⟨true, true, false, false, false⟩⟩

def RackBalance.initial : RackBalance := ⟨false, .notYet, none, false⟩

/-- R85, power-on. -/
def Balance.initial : Balance := ⟨[], [], .fill .initial, true, 0, 0⟩

def OutputState.initial : OutputState := ⟨false, false, .normal, none⟩

/-- R103, with no COOL table active. -/
def Cooling.initial : Cooling where
  level := 0
  levelSince := 0
  interval := none
  blind := .clear
  blindHold := none
  heaterDemand := false
  outputs := .fill .initial
  ventilation := .recirculate
  factor := 1024
  allowance := 0
  lossMark := false

def LineState.initial : LineState := ⟨.normal, .normal, none, false, false, false⟩

def GasChannelState.initial : GasChannelState := ⟨.clear, 0, .pre, 0, none⟩

/-- R122, power-on: GAS_FAULT stands, since no PLANT entry is enabled. -/
def Fire.initial : Fire where
  lines := .fill .initial
  stage := .normal
  countdown := none
  held := false
  release := false
  pulse := none
  watch := .none
  watchSince := none
  horn := false
  hornSince := 0
  h2 := .initial
  co := .initial
  gas := .clear
  gasFault := true

def RackSwitch.initial : RackSwitch where
  state := .opened
  faultKind := none
  operation := .none
  prechargeUsed := false
  disconnectPending := false
  attempts := []
  hardBreaks := 0
  timer := none
  mainClosed := false
  prechargeClosed := false
  mainWatch := .stopped
  prechargeWatch := .stopped
  queuedAt := 0
  releaseCurrent := none
  underLoad := false

/-- R145, every feedback reading open. -/
def Sequencer.initial : Sequencer := ⟨.fill .initial, [], none, false⟩

def Latch.clear : Latch := ⟨false, false⟩

def RackLatches.initial : RackLatches :=
  ⟨.clear, .clear, .clear, .clear, .clear, .clear, .clear, [], [], none⟩

def ContainerLatches.initial : ContainerLatches :=
  ⟨.clear, .clear, .clear, .clear, .clear, .clear⟩

/-- R158, power-on. -/
def Trips.initial : Trips := ⟨.fill .initial, .initial, [], 0⟩

/-- R167, with no GRID table active and the breaker feedback reading open. DESIGN CHOICE (log entry 64):
the hold flag stands set, and a reset is no occasion at which it becomes set (R160). -/
def Converter.initial : Converter where
  counter := 0
  periodSince := 0
  sending := false
  waiting := false
  lastMessage := none
  holdFlag := true
  stopFlag := false
  limitsWorked := false
  status := none
  grid := .lost
  silenceWatch := none
  silent := false
  silentTrip := .stopped
  framingErrors := 0
  crcErrors := 0
  rangeErrors := 0
  permit := false
  pulse := .idle
  pulseNumber := 1
  pulseSince := 0
  proofSince := 0
  proofLimit := 0
  breakerClosed := false

def TableState.empty : TableState := ⟨none, none, .clean, none⟩

/-- R177, power-on. -/
def Tables.initial : Tables := ⟨.fill .empty, false⟩

def LinkErrors.clear : LinkErrors := ⟨false, false, false, false, false⟩

/-- R187, power-on. -/
def Site.initial : Site where
  fifo := []
  replies := []
  events := []
  traces := []
  rackPlaces := .fill none
  containerPlace := none
  pointer := .rack1
  link := none
  linkErrors := .clear
  eventLost := false
  postCounter := 0
  autonomous := false
  silence := none
  mode := .unconfigured
  reset := .none

/-- The part right after a power-on reset, with every input at rest (feedbacks open or off, detector
loops NORMAL: log entry 3) and no command waiting. -/
def State.reset : State where
  now := 0
  ring := .initial
  samples := .initial
  limits := .initial
  balance := .initial
  cooling := .initial
  fire := .initial
  sequencer := .initial
  trips := .initial
  converter := .initial
  tables := .initial
  site := .initial
  choices := 0
  pending := []

end Sys2Proof.Machine
end

