-- ==== Sys2Proof/Machine/Operands.lean ====
section
/-!
DEFINITION. How the part reads its operands: enumerations, elapsed times, the CRC-16, the fields of
table images (R168), and the conversions and curves that turn raw codes and table entries into the
manual's quantities (R27 to R29, R57, R59).
-/

namespace Sys2Proof

/-! ## Enumerations -/

def Rack.all : List Rack := [.r1, .r2, .r3, .r4]

def Output.all : List Output :=
  [.pump, .fan1, .fan2, .fan3, .compressor1, .compressor2, .heater, .exhaust]

def Line.all : List Line := [.l1, .l2, .l3, .l4, .l5, .l6, .l7, .l8, .l9, .l10, .l11, .l12]

def TableName.all : List TableName :=
  [.slot, .cal, .tconv, .limit, .rack, .derate, .ocv, .cool, .fire, .grid]

/-- The ring-path tables, whose swap point is a cycle start (R168). -/
def TableName.ringPath : List TableName := [.slot, .cal, .tconv, .limit, .rack, .derate, .ocv]

/-- Rack k's number. -/
def Rack.number : Rack → Nat
  | .r1 => 1
  | .r2 => 2
  | .r3 => 3
  | .r4 => 4

/-- The rack a number 1..4 names. -/
def Rack.ofNumber : Nat → Option Rack
  | 1 => some .r1
  | 2 => some .r2
  | 3 => some .r3
  | 4 => some .r4
  | _ => none

/-- The racks a mask names, in ascending order. -/
def racksOf (mask : RackMask) : List Rack :=
  Rack.all.filter fun r => mask.getLsbD (r.number - 1)

/-- Line k's index entry in the FIRE table, 1..12. -/
def Line.number : Line → Nat
  | .l1 => 1
  | .l2 => 2
  | .l3 => 3
  | .l4 => 4
  | .l5 => 5
  | .l6 => 6
  | .l7 => 7
  | .l8 => 8
  | .l9 => 9
  | .l10 => 10
  | .l11 => 11
  | .l12 => 12

/-- An output's place in the order of section 5.1. -/
def Output.place : Output → Nat
  | .pump => 0
  | .fan1 => 1
  | .fan2 => 2
  | .fan3 => 3
  | .compressor1 => 4
  | .compressor2 => 5
  | .heater => 6
  | .exhaust => 7

/-- A table's number of positions (R168). -/
def TableName.positions : TableName → Nat
  | .slot => 57
  | .cal => 896
  | .tconv => 25
  | .limit => 4
  | .rack => 4
  | .derate => 13
  | .ocv => 16
  | .cool => 9
  | .fire => 13
  | .grid => 1

/-- The length of a table's entry images, in bytes (R168). -/
def TableName.imageLength : TableName → Nat
  | .slot => 12
  | .cal => 4
  | .tconv => 4
  | .limit => 32
  | .rack => 48
  | .derate => 32
  | .ocv => 6
  | .cool => 40
  | .fire => 40
  | .grid => 64

end Sys2Proof

namespace Sys2Proof.Machine

/-! ## Families -/

/-- Pointwise change of a per-output family, in the order of section 5.1. -/
def PerOutput.mapWith {α β : Type} (f : Output → α → β) (p : PerOutput α) : PerOutput β :=
  ⟨f .pump p.pump, f .fan1 p.fan1, f .fan2 p.fan2, f .fan3 p.fan3, f .compressor1 p.compressor1,
    f .compressor2 p.compressor2, f .heater p.heater, f .exhaust p.exhaust⟩

def PerLine.mapWith {α β : Type} (f : Line → α → β) (p : PerLine α) : PerLine β :=
  ⟨f .l1 p.l1, f .l2 p.l2, f .l3 p.l3, f .l4 p.l4, f .l5 p.l5, f .l6 p.l6, f .l7 p.l7,
    f .l8 p.l8, f .l9 p.l9, f .l10 p.l10, f .l11 p.l11, f .l12 p.l12⟩

def PerRack.mapWith {α β : Type} (f : Rack → α → β) (p : PerRack α) : PerRack β :=
  ⟨f .r1 p.r1, f .r2 p.r2, f .r3 p.r3, f .r4 p.r4⟩

def PerTable.mapWith {α β : Type} (f : TableName → α → β) (p : PerTable α) : PerTable β :=
  ⟨f .slot p.slot, f .cal p.cal, f .tconv p.tconv, f .limit p.limit, f .rack p.rack,
    f .derate p.derate, f .ocv p.ocv, f .cool p.cool, f .fire p.fire, f .grid p.grid⟩

def PerDirection.map {α β : Type} (f : α → β) (p : PerDirection α) : PerDirection β :=
  ⟨f p.charge, f p.discharge⟩

/-! ## Arithmetic (spec/00_scope.md, "Arithmetic and rounding") -/

/-- Saturation of an integer to a range. -/
def saturate (lo hi x : Int) : Int := if x < lo then lo else if hi < x then hi else x

/-- A count raised by one that stays at its greatest value. -/
def countUp (top n : Nat) : Nat := if n < top then n + 1 else top

/-- Floor of a quotient whose divisor is positive. -/
def floorDiv (a b : Int) : Int := a / b

/-- A quotient rounded to nearest, halves up. -/
def nearestDiv (a b : Int) : Int := (2 * a + b) / (2 * b)

/-! ## Times -/

/-- The time since a part time, in ms, modulo 2 to the 32nd power (spec/00_scope.md). -/
def elapsed (now since : PartTime) : Nat := (now - since).toNat

/-- A timer that runs since `since` has reached `ms`. -/
def reached (now since : PartTime) (ms : Nat) : Bool := ms ≤ elapsed now since

/-- A timer that may be stopped has reached `ms`. -/
def dueOption (now : PartTime) (since : Option PartTime) (ms : Nat) : Bool :=
  match since with
  | some t => reached now t ms
  | none => false

/-- A running timer has reached `ms`; a stopped or full one expires no more. -/
def Timer.due (now : PartTime) (t : Timer) (ms : Nat) : Bool :=
  match t with
  | .running since => reached now since ms
  | .stopped => false
  | .full _ => false

/-- The time a timer stands at. DESIGN CHOICE (log entry 82): a stopped one stands at 0. -/
def Timer.elapsed (now : PartTime) : Timer → Nat
  | .stopped => 0
  | .running since => Machine.elapsed now since
  | .full ms => ms

/-- The time since a start. DESIGN CHOICE (log entry 82): 0 where there is none. -/
def elapsedOption (now : PartTime) (since : Option PartTime) : Nat :=
  match since with
  | some t => elapsed now t
  | none => 0

/-! ## CRC-16 (R178) -/

/-- One bit of the CRC-16: x^16 + x^12 + x^5 + 1, most significant bit first. -/
def crcBit (c : Code) : Code :=
  if c.getMsbD 0 then (c <<< 1) ^^^ 0x1021#16 else c <<< 1

/-- One byte taken into the CRC-16. -/
def crcByte (c : Code) (b : Byte) : Code :=
  let c0 := c ^^^ ((b.setWidth 16) <<< 8)
  crcBit (crcBit (crcBit (crcBit (crcBit (crcBit (crcBit (crcBit c0)))))))

/-- The CRC-16 of a byte string: initial value all ones, no final inversion. -/
def crc16 (bytes : List Byte) : Code := bytes.foldl crcByte 0xFFFF#16

/-- The two bytes of a 16-bit field, most significant first. -/
def wordBytes (w : BitVec 16) : List Byte := [(w >>> 8).setWidth 8, w.setWidth 8]

/-- The digest of a bank: the CRC-16 over the images of every position in index order (R172). -/
def digestOf (bank : Bank) : Code := crc16 bank.flatten

/-! ## Image fields (R168) -/

/-- An unsigned field of one byte at an offset. -/
def u8 (im : Image) (at_ : Nat) : Nat := (im.getD at_ 0).toNat

/-- An unsigned field of two bytes, most significant first. -/
def u16 (im : Image) (at_ : Nat) : Nat := u8 im at_ * 256 + u8 im (at_ + 1)

/-- A two's complement field of two bytes. -/
def s16 (im : Image) (at_ : Nat) : Int :=
  let n := u16 im at_
  if n < 32768 then n else (n : Int) - 65536

/-- An unsigned field of four bytes. -/
def u32 (im : Image) (at_ : Nat) : Nat := u16 im at_ * 65536 + u16 im (at_ + 2)

/-- The image at an index of a bank. -/
def Bank.at (bank : Bank) (index : Nat) : Image := bank.getD index []

/-! ## SLOT (R4) -/

structure SlotHeader where
  cycleLength : Nat
  slotLength : Nat
  turnLength : Nat
  eventTurns : Nat
  staleThreshold : Nat
  stretch : Nat
  divisor : Nat
  deriving DecidableEq, Repr

def slotHeaderOf (bank : Bank) : SlotHeader :=
  let im := bank.at 0
  ⟨u8 im 0, u16 im 1, u16 im 3, u8 im 5, u8 im 6, u8 im 7, u8 im 8⟩

/-- A node entry as its image gives it: the codes of its fields, with its index. -/
structure SlotEntry where
  index : Nat
  node : Nat
  kind : Nat
  rack : Nat
  cells : Nat
  temperatures : Nat
  policy : Nat
  tempMask : Nat
  tempMatch : Nat
  enabled : Nat
  deriving DecidableEq, Repr

def slotEntryAt (bank : Bank) (index : Nat) : SlotEntry :=
  let im := bank.at index
  ⟨index, u8 im 0, u8 im 1, u8 im 2, u8 im 3, u8 im 4, u8 im 5, u8 im 6, u8 im 7, u8 im 8⟩

/-- The kind of a node entry, coded in R4's order. -/
inductive NodeKind | cell | junction | plant
  deriving DecidableEq, Repr

def SlotEntry.nodeKind (e : SlotEntry) : NodeKind :=
  if e.kind = 0 then .cell else if e.kind = 1 then .junction else .plant

/-- The side policy of a node entry, coded in R4's order. -/
inductive SidePolicy | auto | aOnly | bOnly
  deriving DecidableEq, Repr

def SlotEntry.sidePolicy (e : SlotEntry) : SidePolicy :=
  if e.policy = 0 then .auto else if e.policy = 1 then .aOnly else .bOnly

/-- The rack an entry serves; none for PLANT. -/
def SlotEntry.rackOf (e : SlotEntry) : Option Rack :=
  if e.nodeKind = .plant then none else Rack.ofNumber e.rack

/-- The node entries 1..56 of a bank in ascending index order. -/
def allSlotEntries (bank : Bank) : List SlotEntry :=
  (List.range' 1 56).map (slotEntryAt bank)

/-- The enabled entries in ascending index order (R1). -/
def enabledEntries (bank : Bank) : List SlotEntry :=
  (allSlotEntries bank).filter fun e => e.enabled = 1

/-- The channels an entry fits: cells 0.., cell temperatures 16.. for CELL; 0..3 for JUNCTION and
0..4 for PLANT (R4, R20). -/
def SlotEntry.channels (e : SlotEntry) : List Nat :=
  match e.nodeKind with
  | .cell => List.range e.cells ++ List.range' 16 e.temperatures
  | .junction => List.range 4
  | .plant => List.range 5

/-- Whether a CELL poll of a cycle requests temperatures (R5). -/
def SlotEntry.requestsTemperatures (e : SlotEntry) (cycle : Nat) : Bool :=
  decide (cycle &&& e.tempMask = e.tempMatch) && decide (0 < e.temperatures)

/-- The request set of an entry's poll (R5). -/
def SlotEntry.requestSet (e : SlotEntry) (cycle : Nat) : RequestSet :=
  match e.nodeKind with
  | .cell => .cells (e.requestsTemperatures cycle)
  | .junction => .junction
  | .plant => .plant

/-- The channels a reply to an entry's poll carries, in reply order (R5). -/
def SlotEntry.replyChannels (e : SlotEntry) (cycle : Nat) : List Nat :=
  match e.nodeKind with
  | .cell =>
    List.range e.cells ++ if e.requestsTemperatures cycle then List.range' 16 e.temperatures else []
  | .junction => List.range 4
  | .plant => List.range 5

/-! ## CAL and TCONV (section 2.3) -/

structure CalEntry where
  offset : Int
  gain : Nat
  deriving DecidableEq, Repr

/-- The CAL entry of a node and channel stands at index (node - 1) * 16 + channel. -/
def calEntry (bank : Bank) (node channel : Nat) : CalEntry :=
  let im := bank.at ((node - 1) * 16 + channel)
  ⟨s16 im 0, u16 im 2⟩

/-- A breakpoint of a curve. -/
structure Breakpoint where
  x : Int
  y : Int
  deriving DecidableEq, Repr

/-- The counted breakpoints of TCONV: raw code and temperature (R29). -/
def tconvCurve (bank : Bank) : List Breakpoint :=
  (List.range' 1 (u8 (bank.at 0) 0)).map fun i => ⟨u16 (bank.at i) 0, s16 (bank.at i) 2⟩

/-- A converted code: conversion invalid, a table it needs inactive, or a value with whether its
quality is RANGE. -/
inductive Converted
  | invalid
  | inactive
  | value (v : Int) (range : Bool)
  deriving DecidableEq, Repr

/-- R27: a cell voltage code. -/
def convertCellVoltage (cal : CalEntry) (code : Code) : Converted :=
  let raw : Int := code.toNat
  if code = 65535#16 then .invalid
  else if raw + cal.offset < 0 then .value 0 false
  else
    let mV := floorDiv ((raw + cal.offset) * cal.gain + 163840) 327680
    if 5000 < mV then .value 5000 true else .value mV false

/-- R28, channel 0: a rack current code. -/
def convertCurrent (cal : CalEntry) (code : Code) : Converted :=
  if code = 32768#16 then .invalid
  else
    let v := floorDiv ((code.toInt + cal.offset) * cal.gain + 16384) 32768
    .value (saturate (-5000) 5000 v) (decide (v < -5000) || decide (5000 < v))

/-- R28, channels 1 and 2: a rack or bus voltage code. -/
def convertBusVoltage (cal : CalEntry) (code : Code) : Converted :=
  let raw : Int := code.toNat
  if code = 65535#16 then .invalid
  else if raw + cal.offset < 0 then .value 0 false
  else
    let v := floorDiv ((raw + cal.offset) * cal.gain + 16384) 32768
    if 10000 < v then .value 10000 true else .value v false

/-- R29: a gas code goes by the formula of the junction voltages, with quality RANGE at 10000. -/
def convertGas (cal : CalEntry) (code : Code) : Converted :=
  match convertBusVoltage cal code with
  | .value v range => .value v (range || decide (v = 10000))
  | c => c

/-- The rounded interpolation of R29 between the breakpoints that enclose `x`, with RANGE past the
ends. -/
def tconvAt (x : Int) : List Breakpoint → Converted
  | [] => .inactive
  | [p] => .value p.y (decide (x ≠ p.x))
  | p :: q :: rest =>
    if x < p.x then .value p.y true
    else if x = p.x then .value p.y false
    else if x < q.x then
      .value (nearestDiv (p.y * (q.x - p.x) + (q.y - p.y) * (x - p.x)) (q.x - p.x)) false
    else tconvAt x (q :: rest)

/-- R29: a temperature code. -/
def convertTemperature (curve : List Breakpoint) (code : Code) : Converted :=
  if code = 65535#16 then .invalid else tconvAt code.toNat curve

/-- A curve clamped at its ends, rounded down between breakpoints (R57, R59). -/
def curveAt (x : Int) : List Breakpoint → Int
  | [] => 0
  | [p] => p.y
  | p :: q :: rest =>
    if x ≤ p.x then p.y
    else if x < q.x then
      floorDiv (p.y * (q.x - p.x) + (q.y - p.y) * (x - p.x)) (q.x - p.x)
    else curveAt x (q :: rest)

/-! ## LIMIT (R33) -/

/-- The thresholds of one side: the warn pair and, but for UT, the trip pair. -/
structure SideLimits where
  warnSet : Int
  warnRelease : Int
  trip : Option (Int × Int)
  deriving DecidableEq, Repr

structure LimitSet where
  ov : SideLimits
  uv : SideLimits
  ot : SideLimits
  ut : SideLimits
  setPersistence : Nat
  releasePersistence : Nat
  deriving DecidableEq, Repr

def limitSetAt (bank : Bank) (index : Nat) : LimitSet :=
  let im := bank.at index
  { ov := ⟨u16 im 0, u16 im 2, some (u16 im 4, u16 im 6)⟩
    uv := ⟨u16 im 8, u16 im 10, some (u16 im 12, u16 im 14)⟩
    ot := ⟨s16 im 16, s16 im 18, some (s16 im 20, s16 im 22)⟩
    ut := ⟨s16 im 24, s16 im 26, none⟩
    setPersistence := u8 im 28
    releasePersistence := u8 im 29 }

def LimitSet.side (l : LimitSet) : LevelSide → SideLimits
  | .ov => l.ov
  | .uv => l.uv
  | .ot => l.ot
  | .ut => l.ut

/-- OV and OT are high sides, UV and UT low sides (R33). -/
def LevelSide.isHigh : LevelSide → Bool
  | .ov => true
  | .uv => false
  | .ot => true
  | .ut => false

/-- A value is beyond a set threshold (R33). -/
def beyond (side : LevelSide) (x threshold : Int) : Bool :=
  if side.isHigh then decide (threshold ≤ x) else decide (x ≤ threshold)

/-- A value is inside a release threshold (R33). -/
def inside (side : LevelSide) (x threshold : Int) : Bool :=
  if side.isHigh then decide (x ≤ threshold) else decide (threshold ≤ x)

/-! ## RACK (R69, R83, R174) -/

structure RackEntry where
  enabled : Nat
  limitSet : Nat
  mismatchLimit : Nat
  blindTime : Nat
  baseCharge : Nat
  baseDischarge : Nat
  qmax : Nat
  ramp : Nat
  window : Nat
  startSpread : Nat
  targetBand : Nat
  coolDown : Nat
  dailyBudget : Nat
  deriving DecidableEq, Repr

def rackEntryAt (bank : Bank) (index : Nat) : RackEntry :=
  let im := bank.at index
  ⟨u8 im 0, u8 im 1, u16 im 2, u16 im 4, u16 im 6, u16 im 8, u32 im 10, u16 im 14, u16 im 16,
    u16 im 18, u16 im 20, u16 im 22, u16 im 24⟩

/-! ## DERATE (R68) and OCV (R69) -/

structure DerateRecord where
  count : Nat
  chargeStart : Nat
  chargeEnd : Nat
  dischargeStart : Nat
  dischargeEnd : Nat
  topAnchor : Nat
  bottomAnchor : Nat
  socChargeStart : Nat
  socDischargeStart : Nat
  unknownCap : Nat
  alertCap : Nat
  blindCap : Nat
  autonomousCap : Nat
  taperCurrent : Nat
  restCurrent : Nat
  anchorPersistence : Nat
  restTime : Nat
  deriving DecidableEq, Repr

def derateRecordOf (bank : Bank) : DerateRecord :=
  let im := bank.at 0
  ⟨u8 im 0, u16 im 1, u16 im 3, u16 im 5, u16 im 7, u16 im 9, u16 im 11, u16 im 13, u16 im 15,
    u16 im 17, u16 im 19, u16 im 21, u16 im 23, u16 im 25, u16 im 27, u8 im 29, u16 im 30⟩

/-- A breakpoint of the temperature curve (R59). -/
structure DeratePoint where
  temperature : Int
  charge : Nat
  discharge : Nat
  deriving DecidableEq, Repr

def deratePointAt (bank : Bank) (index : Nat) : DeratePoint :=
  let im := bank.at index
  ⟨s16 im 0, u16 im 2, u16 im 4⟩

/-- The counted breakpoints of the temperature curve. -/
def deratePoints (bank : Bank) : List DeratePoint :=
  (List.range' 1 (derateRecordOf bank).count).map (deratePointAt bank)

/-- A breakpoint entry of OCV: used mark, voltage and SOC. -/
structure OcvEntry where
  used : Nat
  voltage : Nat
  soc : Nat
  deriving DecidableEq, Repr

def ocvEntryAt (bank : Bank) (index : Nat) : OcvEntry :=
  let im := bank.at index
  ⟨u8 im 0, u16 im 1, u16 im 3⟩

/-- The used breakpoints of OCV (R57). -/
def ocvCurve (bank : Bank) : List Breakpoint :=
  (((List.range 16).map (ocvEntryAt bank)).filter fun e => e.used = 1).map
    fun e => ⟨e.voltage, e.soc⟩

/-! ## COOL (R88) -/

structure CoolHeader where
  levels : Nat
  startTemperature : Int
  interval : Nat
  blindHold : Nat
  fallback : Nat
  heaterOn : Int
  heaterOff : Int
  proofTimes : PerOutput Nat
  pumpLossCap : Nat
  compressorLossCap : Nat
  fanLossCap : Nat
  normalAllowance : Nat
  topAllowance : Nat
  pumpLossTrip : Int
  deriving DecidableEq, Repr

def coolHeaderOf (bank : Bank) : CoolHeader :=
  let im := bank.at 0
  { levels := u8 im 0
    startTemperature := s16 im 1
    interval := u8 im 3
    blindHold := u16 im 4
    fallback := u8 im 6
    heaterOn := s16 im 7
    heaterOff := s16 im 9
    proofTimes := ⟨u8 im 11, u8 im 12, u8 im 13, u8 im 14, u8 im 15, u8 im 16, u8 im 17, u8 im 18⟩
    pumpLossCap := u16 im 19
    compressorLossCap := u16 im 21
    fanLossCap := u16 im 23
    normalAllowance := u16 im 25
    topAllowance := u16 im 27
    pumpLossTrip := s16 im 29 }

/-- A level entry: `outputs` is the output-set byte, bit k for the k-th of pump, fans 1..3 and
compressors 1..2. -/
structure CoolLevel where
  outputs : Nat
  up : Int
  down : Int
  dwell : Nat
  deriving DecidableEq, Repr

def coolLevelAt (bank : Bank) (index : Nat) : CoolLevel :=
  let im := bank.at index
  ⟨u8 im 0, s16 im 1, s16 im 3, u16 im 5⟩

/-- Whether a level's output set names an output of the ladder. -/
def CoolLevel.names (l : CoolLevel) (o : Output) : Bool :=
  match o with
  | .heater => false
  | .exhaust => false
  | _ => l.outputs.testBit o.place

/-! ## FIRE (R118, R120) -/

/-- The thresholds and persistences of one gas channel. -/
structure GasLimits where
  preSet : Int
  preRelease : Int
  alarmSet : Int
  alarmRelease : Int
  setPersistence : Nat
  releasePersistence : Nat
  deriving DecidableEq, Repr

structure FireRecord where
  releaseEnabled : Bool
  countdown : Nat
  pulse : Nat
  feedback : Nat
  h2 : GasLimits
  co : GasLimits
  deriving DecidableEq, Repr

/-- A yes-or-no field that no commit check reads: 0 is no, 1 is yes. -/
def yesNo (code : Nat) : Bool :=
  if code = 0 then false else if code = 1 then true else Config.unassignedYesNo code

def gasLimitsAt (im : Image) (at_ : Nat) : GasLimits :=
  ⟨u16 im at_, u16 im (at_ + 2), u16 im (at_ + 4), u16 im (at_ + 6), u8 im (at_ + 8),
    u8 im (at_ + 9)⟩

def fireRecordOf (bank : Bank) : FireRecord :=
  let im := bank.at 0
  ⟨yesNo (u8 im 0), u8 im 1, u8 im 2, u8 im 3, gasLimitsAt im 4, gasLimitsAt im 14⟩

/-- A line entry as its image gives it. -/
structure LineEntry where
  kind : Nat
  zones : Nat
  mode : Nat
  debounce : Nat
  deriving DecidableEq, Repr

def lineEntryAt (bank : Bank) (index : Nat) : LineEntry :=
  let im := bank.at index
  ⟨u8 im 0, u8 im 1, u8 im 2, u16 im 3⟩

/-- A line's settings. `zones` has bit k - 1 for zone k; `pulseMode` is the PULSE latch mode. -/
structure LineSettings where
  kind : LineKind
  zones : Nat
  pulseMode : Bool
  debounce : Nat
  deriving DecidableEq, Repr

/-- A line kind's code, in R105's order. -/
def LineKind.ofCode (c : Nat) : LineKind :=
  if c = 0 then .smoke else if c = 1 then .heat else if c = 2 then .manual
  else if c = 3 then .abort else if c = 4 then .agentFeedback else .unused

def LineEntry.settings (e : LineEntry) : LineSettings :=
  ⟨.ofCode e.kind, e.zones, decide (e.mode = 1), e.debounce⟩

/-- The built-in defaults of R120: the record. -/
def FireRecord.default : FireRecord :=
  ⟨false, 30, 2, 10, ⟨1000, 800, 4000, 3000, 3, 3⟩, ⟨100, 80, 300, 250, 3, 3⟩⟩

/-- The built-in defaults of R120: every line. -/
def LineSettings.default : LineSettings := ⟨.smoke, 1, false, 100⟩

/-- SMOKE, HEAT and MANUAL are the latching kinds (R105). -/
def LineKind.latching : LineKind → Bool
  | .smoke => true
  | .heat => true
  | .manual => true
  | .abort => false
  | .agentFeedback => false
  | .unused => false

/-! ## GRID (R168) -/

structure GridRecord where
  deadBus : Nat
  joinWindow : Nat
  waitLimit : Nat
  minPrecharge : Nat
  prechargeTimeout : Nat
  contactorProof : Nat
  releaseDelay : Nat
  breakLevel : Nat
  drainTime : Nat
  deferredDrain : Nat
  hardBreakLimit : Nat
  overrunMargin : Nat
  overrunTime : Nat
  containerCap : Nat
  limitPeriod : Nat
  silenceTime : Nat
  silentTrip : Nat
  breakerProof : Nat
  siteSilence : Nat
  deriving DecidableEq, Repr

def gridRecordOf (bank : Bank) : GridRecord :=
  let im := bank.at 0
  ⟨u16 im 0, u16 im 2, u16 im 4, u16 im 6, u16 im 8, u16 im 10, u16 im 12, u16 im 14, u16 im 16,
    u16 im 18, u8 im 20, u16 im 21, u16 im 23, u16 im 25, u16 im 27, u16 im 29, u16 im 31,
    u16 im 33, u16 im 35⟩

/-! ## The active tables of a state -/

def State.table (s : State) (t : TableName) : TableState := s.tables.tables.get t

/-- A table is active when its active bank holds a table (R168). -/
def State.isActive (s : State) (t : TableName) : Bool := (s.table t).active.isSome

def State.slotHeader (s : State) : Option SlotHeader := (s.table .slot).active.map slotHeaderOf

/-- The enabled entries of the active SLOT table; none while no SLOT table is active. -/
def State.entries (s : State) : List SlotEntry :=
  match (s.table .slot).active with
  | some bank => enabledEntries bank
  | none => []

/-- The enabled entry of a node. -/
def State.entryOf (s : State) (node : Nat) : Option SlotEntry :=
  s.entries.find? fun e => e.node = node

/-- The enabled CELL, JUNCTION or PLANT entries. -/
def State.entriesOfKind (s : State) (k : NodeKind) : List SlotEntry :=
  s.entries.filter fun e => e.nodeKind = k

/-- A rack has an enabled entry in the active SLOT table. -/
def State.rackHasEntry (s : State) (r : Rack) : Bool :=
  s.entries.any fun e => e.rackOf = some r

/-- The racks with no enabled entry in the active SLOT table. DEDUCED (log entry 36): a SLOT swap leaves
a rack with none (R49, R66, R142) when it has none after it, whether or not it had one before. -/
def State.racksWithoutEntry (s : State) : List Rack := Rack.all.filter fun r => !s.rackHasEntry r

/-- The junction node of a rack. -/
def State.junctionOf (s : State) (r : Rack) : Option SlotEntry :=
  s.entries.find? fun e => e.nodeKind = .junction && e.rackOf = some r

/-- A rack's RACK entry when a RACK table is active, enabled or not. -/
def State.rackEntry (s : State) (r : Rack) : Option RackEntry :=
  (s.table .rack).active.map fun bank => rackEntryAt bank (r.number - 1)

/-- A rack's RACK entry when a RACK table is active and the entry is enabled. -/
def State.rackConfig (s : State) (r : Rack) : Option RackEntry :=
  (s.rackEntry r).filter fun e => e.enabled = 1

def State.rackEnabled (s : State) (r : Rack) : Bool := (s.rackConfig r).isSome

/-- The limit set that judges a rack's samples: LIMIT and RACK active, the entry enabled (R33). -/
def State.limitSet (s : State) (r : Rack) : Option LimitSet :=
  match (s.table .limit).active, s.rackConfig r with
  | some bank, some e => some (limitSetAt bank e.limitSet)
  | _, _ => none

def State.derate (s : State) : Option DerateRecord := (s.table .derate).active.map derateRecordOf

def State.cool (s : State) : Option CoolHeader := (s.table .cool).active.map coolHeaderOf

def State.grid (s : State) : Option GridRecord := (s.table .grid).active.map gridRecordOf

/-- The FIRE record in force: the active table's, or the built-in defaults (R120). -/
def State.fireRecord (s : State) : FireRecord :=
  match (s.table .fire).active with
  | some bank => fireRecordOf bank
  | none => .default

/-- A line's settings in force (R120). -/
def State.lineSettings (s : State) (l : Line) : LineSettings :=
  match (s.table .fire).active with
  | some bank => (lineEntryAt bank l.number).settings
  | none => .default

/-- The conversion of a code of a node's channel (section 2.3). -/
def State.convert (s : State) (e : SlotEntry) (channel : Nat) (code : Code) : Converted :=
  let cal (f : CalEntry → Code → Converted) : Converted :=
    match (s.table .cal).active with
    | some bank => f (calEntry bank e.node channel) code
    | none => .inactive
  let temperature : Converted :=
    match (s.table .tconv).active with
    | some bank => convertTemperature (tconvCurve bank) code
    | none => .inactive
  match e.nodeKind with
  | .cell => if channel < 16 then cal convertCellVoltage else temperature
  | .junction =>
    if channel = 0 then cal convertCurrent
    else if channel < 3 then cal convertBusVoltage
    else temperature
  | .plant => if channel < 3 then temperature else cal convertGas

end Sys2Proof.Machine
end

