-- ==== Sys2Proof/Machine/Flags.lean ====
section
/-!
DEFINITION. The conditions, marks and flags the blocks work out from one another's state: each is a
plain function of State, stated once and read everywhere.
-/

namespace Sys2Proof.Machine

/-! ## Samples: fresh records, staleness, BLIND -/

/-- A record is fresh when its quality is FRESH or RANGE (R23). -/
def Quality.isFresh : Quality → Bool
  | .fresh => true
  | .range => true
  | .stale => false
  | .invalid => false

/-- A fresh record's value. -/
def Record.freshValue (r : Record) : Option Int := if r.quality.isFresh then r.value else none

def State.record (s : State) (node channel : Nat) : Option Record :=
  s.samples.records.find? fun r => r.node = node && r.channel = channel

def State.rackRecords (s : State) (r : Rack) : List Record :=
  s.samples.records.filter fun x => x.rack = some r

def State.sampleNode (s : State) (node : Nat) : Option SampleNode :=
  s.samples.nodes.find? fun n => n.node = node

/-- A node counts as stale for its records (R26, as judged at its last slot outcome). -/
def State.nodeStale (s : State) (node : Nat) : Bool :=
  match s.sampleNode node with
  | some n => n.countsStale
  | none => false

/-- The condition of BLIND (R42). A rack with no enabled entry has no record and is not BLIND. -/
def State.blindCondition (s : State) (r : Rack) : Bool :=
  (s.rackRecords r).any (fun x => !x.quality.isFresh) ||
    (match s.junctionOf r with
      | some e => s.nodeStale e.node
      | none => false) ||
    (s.samples.racks.get r).mismatch

/-- The hottest fresh cell temperature of the container (R43). -/
def State.hottest (s : State) : Option Int :=
  ((s.samples.records.filter fun r => r.kind = .cellTemperature).filterMap Record.freshValue).max?

/-- The coldest fresh cell temperature of the container (R43). -/
def State.coldest (s : State) : Option Int :=
  ((s.samples.records.filter fun r => r.kind = .cellTemperature).filterMap Record.freshValue).min?

/-- A side of a record stands at TRIP. -/
def sideTrips (side : Option SideState) : Bool :=
  match side with
  | some x => x.level = .trip
  | none => false

/-- Any side of any record of the rack is at TRIP (R62). -/
def State.rackTripSide (s : State) (r : Rack) : Bool :=
  (s.rackRecords r).any fun x => sideTrips x.high || sideTrips x.low

/-! ## Trip latches -/

/-- A rack's latches with their kinds, in the order of R146. -/
def RackLatches.list (l : RackLatches) : List (TripKind × Latch) :=
  [(.cellOv, l.cellOv), (.cellUv, l.cellUv), (.cellOt, l.cellOt), (.nodeHwOv, l.nodeHwOv),
    (.nodeHwUv, l.nodeHwUv), (.blind, l.blind), (.overcurrent, l.overcurrent)]

/-- The container latches with their kinds, in the order of R146. -/
def ContainerLatches.list (l : ContainerLatches) : List (TripKind × Latch) :=
  [(.coolingLoss, l.coolingLoss), (.gas, l.gas), (.fire, l.fire), (.welded, l.welded),
    (.converterSilent, l.converterSilent), (.emergency, l.emergency)]

/-- The kinds of the latches that stand. -/
def standingKinds (l : List (TripKind × Latch)) : List TripKind :=
  (l.filter fun x => x.2.standing).map (·.1)

def State.rackLatched (s : State) (r : Rack) : Bool :=
  (s.trips.racks.get r).list.any fun x => x.2.standing

def State.containerLatched (s : State) : Bool :=
  s.trips.container.list.any fun x => x.2.standing

/-- The rack holds a trip latch or a container latch is set. -/
def State.latchedFor (s : State) (r : Rack) : Bool := s.rackLatched r || s.containerLatched

/-! ## Rack states -/

def State.rackState (s : State) (r : Rack) : RackState := (s.sequencer.racks.get r).state

def State.connectedRacks (s : State) : List Rack :=
  Rack.all.filter fun r => s.rackState r = .connected

/-- The states in which a rack is part-way through a switching operation (R137). -/
def RackState.switching : RackState → Bool
  | .precharging => true
  | .joining => true
  | .draining => true
  | .opening => true
  | .opened => false
  | .queued => false
  | .connected => false
  | .locked => false
  | .fault => false

/-- A rack is PRECHARGING, JOINING, DRAINING or OPENING. -/
def State.anySwitching (s : State) : Bool := Rack.all.any fun r => (s.rackState r).switching

/-- The main contactor is commanded closed only in JOINING, CONNECTED and DRAINING (R123). -/
def RackSwitch.mainCommand (x : RackSwitch) : Bool :=
  match x.state with
  | .joining => true
  | .connected => true
  | .draining => true
  | .opened => false
  | .queued => false
  | .precharging => false
  | .opening => false
  | .locked => false
  | .fault => false

/-- The precharge contactor is commanded closed in PRECHARGING, and in a JOINING that came from it
until the precharge-release delay ends, which ends JOINING (R123, R132). -/
def RackSwitch.prechargeCommand (x : RackSwitch) : Bool :=
  match x.state with
  | .precharging => true
  | .joining => x.prechargeUsed
  | .opened => false
  | .queued => false
  | .connected => false
  | .draining => false
  | .opening => false
  | .locked => false
  | .fault => false

/-- The trip output of the grid breaker is on while a pulse is under way, and off in IDLE, PROVING and
FAILED (R165); every reset turns it off (R167). -/
def Converter.tripOutput (c : Converter) : Bool :=
  match c.pulse with
  | .pulsing => true
  | .idle => false
  | .proving => false
  | .failed => false

/-- The precharge budget is spent while the list holds 3 attempts (R130). -/
def RackSwitch.budgetSpent (x : RackSwitch) : Bool := 3 ≤ x.attempts.length

/-- Both feedbacks read open. -/
def RackSwitch.bothOpen (x : RackSwitch) : Bool := !x.mainClosed && !x.prechargeClosed

/-- The rack's operation is protective. -/
def Operation.protective : Operation → Bool
  | .protectiveImmediate => true
  | .protectiveDeferred => true
  | .none => false
  | .connect => false
  | .disconnect => false

def State.anyProtective (s : State) : Bool :=
  Rack.all.any fun r => (s.sequencer.racks.get r).operation.protective

def State.anyWelded (s : State) : Bool :=
  Rack.all.any fun r => (s.sequencer.racks.get r).faultKind = some .welded

/-- The contactor proof time: the GRID table's, or 500 ms while none is active (R124). -/
def State.contactorProof (s : State) : Nat :=
  match s.grid with
  | some g => g.contactorProof
  | none => 500

/-! ## Fire and gas -/

/-- The gas state is not CLEAR. -/
def GasState.raised : GasState → Bool
  | .clear => false
  | .gasPre => true
  | .gasAlarm => true

/-- The stages from ALARM onward, in which the container limits are 0 (R66). -/
def FireStage.burning : FireStage → Bool
  | .normal => false
  | .preAlarm => false
  | .alarm => true
  | .countdown => true
  | .released => true

/-- The fire stage is NORMAL and the gas state CLEAR. -/
def State.quiet (s : State) : Bool := s.fire.stage = .normal && s.fire.gas = .clear

/-- A line counts for a zone: SMOKE or HEAT, with the zone in its mask (R105). -/
def State.lineInZone (s : State) (zone : Nat) (l : Line) : Bool :=
  let c := s.lineSettings l
  (c.kind = .smoke || c.kind = .heat) && c.zones.testBit (zone - 1)

/-- A zone's latched count (R109): its SMOKE and HEAT lines latched and not faulted. -/
def State.zoneLatched (s : State) (zone : Nat) : Nat :=
  (Line.all.filter fun l =>
    s.lineInZone zone l && (s.fire.lines.get l).latch && !(s.fire.lines.get l).faulted).length

/-- A zone is degraded while a SMOKE or HEAT line that names it is faulted (R106). -/
def State.zoneDegraded (s : State) (zone : Nat) : Bool :=
  Line.all.any fun l => s.lineInZone zone l && (s.fire.lines.get l).faulted

/-- The lines of a kind whose latch is set. -/
def State.latchedOfKind (s : State) (k : LineKind) : List Line :=
  Line.all.filter fun l => (s.lineSettings l).kind = k && (s.fire.lines.get l).latch

/-- The lines whose latch is set. -/
def State.latchedLines (s : State) : List Line :=
  Line.all.filter fun l => (s.fire.lines.get l).latch

/-- What confirms the fire at this moment, empty when nothing does (R109). -/
def State.confirmations (s : State) : List StageCause :=
  ([1, 2, 3, 4].filter fun z =>
      decide (2 ≤ s.zoneLatched z) || (s.zoneDegraded z && decide (1 ≤ s.zoneLatched z))).map
    StageCause.zone ++
  (s.latchedOfKind .heat).map StageCause.line ++ (s.latchedOfKind .manual).map StageCause.line

def State.confirmed (s : State) : Bool := !s.confirmations.isEmpty

/-- An ABORT line's taken class is ACTIVE (R105, R114). -/
def State.abortActive (s : State) : Bool :=
  Line.all.any fun l => (s.lineSettings l).kind = .abort && (s.fire.lines.get l).taken = .active

/-- An AGENT_FEEDBACK line's taken class is ACTIVE (R105, R115). -/
def State.feedbackActive (s : State) : Bool :=
  Line.all.any fun l =>
    (s.lineSettings l).kind = .agentFeedback && (s.fire.lines.get l).taken = .active

/-- The time left on the countdown in ms: full while held (R114). DESIGN CHOICE (log entry 82): 0 while
no countdown runs, a value R121 does not give. -/
def State.countdownLeft (s : State) : Nat :=
  if s.fire.held then s.fireRecord.countdown * 1000
  else match s.fire.countdown with
    | some t => s.fireRecord.countdown * 1000 - elapsed s.now t
    | none => 0

/-- A gas record gives no fresh value (R117). -/
def gasRecordBad (r : Option Record) : Bool :=
  match r with
  | some x => !x.quality.isFresh || x.value.isNone
  | none => true

/-- The condition of GAS_FAULT (R117). -/
def State.gasFaultCondition (s : State) : Bool :=
  match (s.entriesOfKind .plant).head? with
  | none => true
  | some e =>
    s.nodeStale e.node || gasRecordBad (s.record e.node 3) || gasRecordBad (s.record e.node 4)

/-! ## Limits -/

/-- A rack's SOC, in 0.01 %: absent while its RACK entry is not in force (R53). -/
def State.soc (s : State) (r : Rack) : Option Nat :=
  (s.rackConfig r).map fun e =>
    ((s.limits.racks.get r).q * 10000 + e.qmax / 2) / e.qmax

/-- The zero conditions that stand (R66). -/
def State.zeroConditions (s : State) : ZeroConditions where
  notConfigured := !s.isActive .grid
  noRack := s.connectedRacks.isEmpty
  hold := s.sequencer.hold
  fire := s.fire.stage.burning
  silent := s.converter.silent

def ZeroConditions.any (z : ZeroConditions) : Bool :=
  z.notConfigured || z.noRack || z.hold || z.fire || z.silent

/-- One direction's container limit (R66): 0 under a zero condition, otherwise the lesser of the
container cap and N times the smallest published limit of the CONNECTED racks. -/
def State.containerLimit (s : State) (dir : PerDirection Nat → Nat) : Nat :=
  if s.zeroConditions.any then 0
  else
    let racks := s.connectedRacks
    match s.grid, (racks.map fun r => dir (s.limits.racks.get r).limit).min? with
    | some g, some least => min g.containerCap (racks.length * least)
    | _, _ => 0

/-- The hold flag (R159): while the hold is in force, and after a reset until the container limits
are first worked out. -/
def State.holdFlagNow (s : State) : Bool := s.sequencer.hold || !s.converter.limitsWorked

/-- The stop flag (R159). -/
def State.stopFlagNow (s : State) : Bool :=
  decide (s.limits.container.charge = 0) && decide (s.limits.container.discharge = 0) &&
    (s.limits.zeros.fire || s.containerLatched || Rack.all.any fun r => s.rackLatched r)

/-- The condition of the close permit (R164). -/
def State.permitCondition (s : State) : Bool :=
  !s.connectedRacks.isEmpty && !s.containerLatched && decide (s.fire.stage = .normal) &&
    decide (s.converter.grid ≠ .lost)

/-! ## Balancing -/

/-- Racks whose RACK entry is enabled and whose balancing enable flag is set (R75). -/
def State.balancingRacks (s : State) : List Rack :=
  Rack.all.filter fun r => s.rackEnabled r && (s.balance.racks.get r).enabled

def State.balanceNode (s : State) (node : Nat) : Option BalanceNode :=
  s.balance.nodes.find? fun n => n.node = node

/-- A node is suspended while its BALANCE_FAULT mark is set or its cool-down timer runs (R71). -/
def BalanceNode.suspended (n : BalanceNode) : Bool := n.fault || n.coolDown.isSome

def State.balanceSuspended (s : State) (node : Nat) : Bool :=
  match s.balanceNode node with
  | some n => n.suspended
  | none => false

/-- The records in ACTIVE. -/
def State.activeRecords (s : State) : List BalanceRecord :=
  s.balance.records.filter fun x => x.state = .active

/-- The conditions of R74 that fail for a rack at its set complete, in the order of its table. -/
def State.eligibilityFailures (s : State) (r : Rack) : List EligibilityCondition :=
  let agg := (s.samples.racks.get r).aggregates
  let enabled := s.rackEnabled r && (s.balance.racks.get r).enabled
  let window := match agg.current, s.rackConfig r with
    | some i, some e => decide (i.value.natAbs ≤ e.window)
    | _, _ => false
  let spread := match agg.vmax, agg.vmin, s.rackConfig r with
    | some hi, some lo, some e => decide ((e.startSpread : Int) ≤ hi.value - lo.value)
    | _, _, _ => false
  let checks : List (EligibilityCondition × Bool) :=
    [(.enabled, enabled), (.mode, s.site.mode = .run), (.fireAndGas, s.quiet),
      (.latches, !s.latchedFor r), (.blind, !(s.samples.racks.get r).blind), (.current, window),
      (.spread, spread)]
  (checks.filter fun c => !c.2).map (·.1)

/-! ## Cooling -/

/-- Whether the output set of the present level names an output (section 5.3: level 0 has none). -/
def State.levelNames (s : State) (o : Output) : Bool :=
  if s.cooling.level = 0 then false
  else match (s.table .cool).active with
    | some bank => (coolLevelAt bank s.cooling.level).names o
    | none => false

/-- The command R86 composes for an output. -/
def State.composedCommand (s : State) (o : Output) : Bool :=
  let status (x : Output) := (s.cooling.outputs.get x).status
  let level (x : Output) := s.levelNames x && decide (status x ≠ .failed)
  let notSealed := decide (s.cooling.ventilation ≠ .sealedMode)
  let pump := level .pump
  let compressor (x : Output) := level x && notSealed && pump
  let feedback (x : Output) := (s.cooling.outputs.get x).feedback
  match o with
  | .pump => pump
  | .fan1 => level .fan1 && notSealed
  | .fan2 => level .fan2 && notSealed
  | .fan3 => level .fan3 && notSealed
  | .compressor1 => compressor .compressor1
  | .compressor2 => compressor .compressor2
  | .heater =>
    s.cooling.heaterDemand && decide (status .heater ≠ .failed) && notSealed &&
      !compressor .compressor1 && !compressor .compressor2 && !feedback .compressor1 &&
      !feedback .compressor2
  | .exhaust => decide (s.cooling.ventilation = .exhaust) && decide (status .exhaust ≠ .failed)

/-- The proof time of an output in ms: the COOL table's, or 10 s while none is active (R93). -/
def State.proofTime (s : State) (o : Output) : Nat :=
  match s.cool with
  | some h => h.proofTimes.get o * 1000
  | none => 10000

/-- The outputs whose loss cap applies, one per cap (R96). DESIGN CHOICE (log entry 77): READ_STATUS shows
the caps that apply (R102) by these names, without their values. -/
def State.coolingCaps (s : State) : List Output :=
  let failed (o : Output) := decide ((s.cooling.outputs.get o).status = .failed)
  if s.isActive .cool then
    (if failed .pump then [.pump] else []) ++
      (if failed .compressor1 || failed .compressor2 then [.compressor1] else []) ++
      (if failed .fan1 || failed .fan2 || failed .fan3 then [.fan1] else [])
  else []

/-- The cooling factor (R96). -/
def State.coolingFactorNow (s : State) : Nat :=
  match s.cool with
  | none => 1024
  | some h =>
    let cap (o : Output) (c : Nat) := if s.coolingCaps.contains o then c else 1024
    min 1024 (min (cap .pump h.pumpLossCap)
      (min (cap .compressor1 h.compressorLossCap) (cap .fan1 h.fanLossCap)))

/-- The heat allowance (R97). -/
def State.allowanceNow (s : State) : Nat :=
  match s.cool with
  | none => 0
  | some h =>
    if (s.cooling.outputs.get .pump).status = .failed || s.cooling.ventilation = .sealedMode ||
        s.fire.stage ≠ .normal then 0
    else if s.cooling.level = h.levels then h.topAllowance
    else h.normalAllowance

/-- The ventilation mode of a fire stage and a gas state (R99). -/
def ventilationFor (stage : FireStage) (gas : GasState) : Ventilation :=
  if stage = .countdown || stage = .released then .sealedMode
  else if gas.raised || stage = .alarm then .exhaust
  else .recirculate

/-- The dwell of the present level in ms; level 0 has none (R89). -/
def State.dwell (s : State) : Nat :=
  if s.cooling.level = 0 then 0
  else match (s.table .cool).active with
    | some bank => (coolLevelAt bank s.cooling.level).dwell * 1000
    | none => 0

end Sys2Proof.Machine
end

