-- ==== Sys2Proof/Machine/Ops.lean ====
section
/-!
DEFINITION. The operations every block shares: choices the manual leaves free, posting an event,
producing the state reports, queueing trace reports and replies, taking a request from the FIFO, and
the upward arbiter that closes every step (R179 to R182).
-/

namespace Sys2Proof.Machine

/-! ## Choices the manual leaves free (log entry 1) -/

/-- The next free choice among `n`, and the state with that choice made. -/
def choose (n : Nat) (s : State) : Nat × State :=
  (Config.freeChoice s.choices % n, s.withChoices (s.choices + 1))

/-- At most `fuel` of the actions, each next one a free choice among those left. -/
def runAnyOrder : Nat → List (State → State) → State → State
  | 0, _, s => s
  | fuel + 1, acts, s =>
    match acts with
    | [] => s
    | [act] => act s
    | _ =>
      let (k, s1) := choose acts.length s
      match acts[k]? with
      | some act => runAnyOrder fuel (acts.eraseIdx k) (act s1)
      | none => s1

/-- Actions the manual says follow no order among themselves: every one is done once, in a free
order. -/
def inAnyOrder (acts : List (State → State)) (s : State) : State := runAnyOrder acts.length acts s

/-- One element of a list by a free choice; a list of one leaves none to make. -/
def pickFree {α : Type} (xs : List α) (s : State) : Option α × State :=
  match xs with
  | [] => (none, s)
  | [x] => (some x, s)
  | _ =>
    let (k, s1) := choose xs.length s
    (xs[k]?, s1)

/-- An action on every rack of a list, in the list's order. -/
def forRacks (racks : List Rack) (act : Rack → State → State) (s : State) : State :=
  racks.foldl (fun acc r => act r acc) s

/-! ## Per-rack, per-output and per-line updates -/

def State.setRackSamples (s : State) (r : Rack) (x : RackSamples) : State :=
  s.withSamples { s.samples with racks := s.samples.racks.set r x }

def State.setRackCharge (s : State) (r : Rack) (x : RackCharge) : State :=
  s.withLimits { s.limits with racks := s.limits.racks.set r x }

def State.setRackBalance (s : State) (r : Rack) (x : RackBalance) : State :=
  s.withBalance { s.balance with racks := s.balance.racks.set r x }

def State.setRackSwitch (s : State) (r : Rack) (x : RackSwitch) : State :=
  s.withSequencer { s.sequencer with racks := s.sequencer.racks.set r x }

def State.setRackLatches (s : State) (r : Rack) (x : RackLatches) : State :=
  s.withTrips { s.trips with racks := s.trips.racks.set r x }

def State.setOutput (s : State) (o : Output) (x : OutputState) : State :=
  s.withCooling { s.cooling with outputs := s.cooling.outputs.set o x }

def State.setLine (s : State) (l : Line) (x : LineState) : State :=
  s.withFire { s.fire with lines := s.fire.lines.set l x }

def State.setTable (s : State) (t : TableName) (x : TableState) : State :=
  s.withTables { s.tables with tables := s.tables.tables.set t x }

/-! ## State reports (R181) -/

/-- The container summary of the state as it stands (R181 and the chapters' lists). DEDUCED (log entry
67): of the converter it carries the last valid status as it was reported, absent after a reset (R161),
and not the grid state in use (R163). -/
def containerSummaryOf (s : State) : ContainerSummary where
  mode := s.site.mode
  autonomous := s.site.autonomous
  eventLost := s.site.eventLost
  ringState := s.ring.ringState
  limits := s.limits.container
  zeros := s.limits.zeros
  level := s.cooling.level
  ventilation := s.cooling.ventilation
  coolingFactor := s.cooling.factor
  allowance := s.cooling.allowance
  failedOutputs := (Output.all.filter fun o => (s.cooling.outputs.get o).status = .failed).length
  stuckOutputs := (Output.all.filter fun o => (s.cooling.outputs.get o).status = .stuckOn).length
  stage := s.fire.stage
  gas := s.fire.gas
  gasFault := s.fire.gasFault
  latchesSet := s.latchedLines.length
  faultedLines := (Line.all.filter fun l => (s.fire.lines.get l).faulted).length
  countdownLeft := s.countdownLeft
  countdownHeld := s.fire.held
  watch := s.fire.watch
  connected := s.connectedRacks.length
  hold := s.sequencer.hold
  latches := standingKinds s.trips.container.list
  status := s.converter.status
  permit := s.converter.permit
  breakerClosed := s.converter.breakerClosed

/-- A container summary is produced into its holding place, replacing an unsent one. -/
def produceContainerSummary (s : State) : State :=
  s.withSite { s.site with containerPlace := some (containerSummaryOf s) }

/-- The rack summary of the state as it stands. DEDUCED (log entry 62): its charge state is Q, r, SOC,
the charge quality and CHARGE_GAP, as READ_RACK lists them (R67). -/
def rackSummaryOf (r : Rack) (s : State) : RackSummary :=
  let x := s.samples.racks.get r
  let c := s.limits.racks.get r
  let q := s.sequencer.racks.get r
  let records := s.balance.records.filter fun b => b.rack = r
  { rack := r
    aggregates := x.aggregates
    mismatch := x.mismatch
    blind := x.blind
    q := c.q
    r := c.r
    soc := s.soc r
    chargeQuality := c.quality
    gap := c.gap
    limit := c.limit
    activeRecords := (records.filter fun b => b.state = .active).length
    suspendedNodes := (s.balance.nodes.filter fun n =>
      n.suspended && s.entries.any fun e => e.node = n.node && e.rackOf = some r).length
    spentRecords := (records.filter fun b => b.state = .budgetSpent).length
    state := q.state
    faultKind := q.faultKind
    operation := q.operation
    hardBreaks := q.hardBreaks
    latches := standingKinds (s.trips.racks.get r).list }

/-- A rack summary is produced into its holding place, which clears the rack's CHARGE_GAP mark (R51),
and a container summary with it (R181). -/
def produceRackSummary (r : Rack) (s : State) : State :=
  let s1 := s.withSite
    { s.site with rackPlaces := s.site.rackPlaces.set r (some (rackSummaryOf r s)) }
  produceContainerSummary
    (s1.setRackCharge r { s1.limits.racks.get r with gap := false })

/-! ## Events and trace reports (R182) -/

/-- An event is posted: it takes the post counter's number, and joins the queue or is dropped from a
full one, which sets EVENT_LOST and produces a container summary. -/
def post (e : Event) (s : State) : State :=
  let counted := { s.site with postCounter := s.site.postCounter + 1 }
  if s.site.events.length < 32 then
    s.withSite { counted with events := s.site.events ++ [⟨s.site.postCounter, s.now, e⟩] }
  else produceContainerSummary (s.withSite { counted with eventLost := true })

/-- Events posted one after the other. -/
def postAll (es : List Event) (s : State) : State := es.foldl (fun acc e => post e acc) s

/-- A TRACE report joins its queue, or is dropped from a full one (R182). -/
def queueTrace (t : TraceReport) (s : State) : State :=
  if s.site.traces.length < 16 then
    s.withSite { s.site with traces := s.site.traces ++ [t] }
  else s

/-! ## The upward arbiter (R180, R181) -/

/-- The next place of the state-report ring. -/
def Place.next : Place → Place
  | .rack1 => .rack2
  | .rack2 => .rack3
  | .rack3 => .rack4
  | .rack4 => .container
  | .container => .rack1

/-- The five places from one onward. -/
def Place.ringFrom (p : Place) : List Place :=
  [p, p.next, p.next.next, p.next.next.next, p.next.next.next.next]

/-- A place holds a report. -/
def Site.filled (x : Site) : Place → Bool
  | .rack1 => x.rackPlaces.r1.isSome
  | .rack2 => x.rackPlaces.r2.isSome
  | .rack3 => x.rackPlaces.r3.isSome
  | .rack4 => x.rackPlaces.r4.isSome
  | .container => x.containerPlace.isSome

/-- A rack's report begins sending and leaves its place. -/
def sendRackPlace (r : Rack) (x : Site) : Site :=
  match x.rackPlaces.get r with
  | some report => { x with link := some (.rack report), rackPlaces := x.rackPlaces.set r none }
  | none => x

/-- The container's report begins sending: EVENT_LOST is read here and cleared (R182). -/
def sendContainerPlace (x : Site) : Site :=
  match x.containerPlace with
  | some report =>
    { x with
      link := some (.container { report with eventLost := x.eventLost })
      containerPlace := none
      eventLost := false }
  | none => x

/-- The report of a place begins sending, and the pointer moves to the place after it. -/
def sendPlace (p : Place) (x : Site) : Site :=
  let sent := match p with
    | .rack1 => sendRackPlace .r1 x
    | .rack2 => sendRackPlace .r2 x
    | .rack3 => sendRackPlace .r3 x
    | .rack4 => sendRackPlace .r4 x
    | .container => sendContainerPlace x
  { sent with pointer := p.next }

/-- The arbiter's grant on a free link: a reply, an event, a state report or a trace report, the first
class that has one. -/
def grant (x : Site) : Site :=
  match x.replies with
  | rep :: rest => { x with link := some (.reply rep), replies := rest }
  | [] =>
    match x.events with
    | ev :: rest => { x with link := some (.event ev), events := rest }
    | [] =>
      match x.pointer.ringFrom.find? x.filled with
      | some p => sendPlace p x
      | none =>
        match x.traces with
        | t :: rest => { x with link := some (.trace t), traces := rest }
        | [] => x

/-- Whenever the link is free and anything waits, the arbiter grants the next frame (R180). A command
reset that is due abandons all that waits (R184). -/
def arbitrate (s : State) : State :=
  match s.site.link with
  | some _ => s
  | none => if s.site.reset = .due then s else s.withSite (grant s.site)

/-- The close of every step: the arbiter, then the next state. -/
def finish (s : State) : Host.Outcome State Fault Refusal := .next (arbitrate s)

/-! ## Requests and replies (R179) -/

/-- A reply joins the reply queue. -/
def reply (tag : Byte) (q : Request) (result : Result) (body : ReplyBody) (s : State) : State :=
  s.withSite { s.site with replies := s.site.replies ++ [⟨tag, q, result, body⟩] }

/-- What a request's owner answers: the state after it acted, the result and the contents. -/
structure Answer where
  state : State
  result : Result
  body : ReplyBody

/-- A request stands at the head of the FIFO and may be taken: the reply queue has room and no
RESET_PART has been taken (R179, R184). -/
def State.mayTake (s : State) (tag : Byte) (q : Request) : Bool :=
  decide (s.site.fifo.head? = some ⟨tag, q⟩) && decide (s.site.replies.length < 8) &&
    decide (s.site.reset = .none)

/-- Taking a request removes it from the FIFO and hands it to its owner; the reply then joins the
reply queue (R179). -/
def takeRequest (tag : Byte) (q : Request) (owner : State → Answer) (s : State) : State :=
  let a := owner (s.withSite { s.site with fifo := s.site.fifo.tail })
  reply tag q a.result a.body a.state

/-- A request is offered to the FIFO: appended, or answered BUSY at once from a full one; a BUSY
reply that finds the reply queue full is not produced and sets REPLY_OVERRUN (R179, R180). -/
def offerRequest (x : Tagged) (s : State) : State :=
  if s.site.fifo.length < 4 then s.withSite { s.site with fifo := s.site.fifo ++ [x] }
  else if s.site.replies.length < 8 then reply x.tag x.request .busy .nothing s
  else s.withSite { s.site with linkErrors := { s.site.linkErrors with replyOverrun := true } }

end Sys2Proof.Machine
end

