-- ==== Sys2Proof/Machine/ConverterCore.lean ====
section
/-!
DEFINITION. What the other blocks ask of the limit computer's container limits and of the converter
and breaker interface: working out the container limits (R66), limit messages (R159, R160), the
close permit (R164) and the breaker trip pulse (R165).
-/

namespace Sys2Proof.Machine

/-! ## Limit messages (R159, R160) -/

/-- The limit message composed from the values standing now. -/
def limitMessageOf (s : State) : LimitMessage :=
  let counter := s.converter.counter
  let limits := s.limits.container
  let n := s.connectedRacks.length
  { counter := counter
    charge := limits.charge
    discharge := limits.discharge
    connected := n
    hold := s.holdFlagNow
    stop := s.stopFlagNow
    crc := crc16 (Config.limitMessageBytes counter limits.charge limits.discharge n s.holdFlagNow
      s.stopFlagNow) }

/-- A limit message is composed and its sending begins; the counter advances and the limit period
timer restarts from 0. -/
def composeMessage (s : State) : State :=
  s.withConverter
    { s.converter with
      counter := (s.converter.counter + 1) % 256
      periodSince := s.now
      sending := true
      waiting := false
      lastMessage := some (limitMessageOf s) }

/-- A limit message is due: sent now, or left waiting while another is being sent. -/
def messageDue (s : State) : State :=
  if s.converter.sending then s.withConverter { s.converter with waiting := true }
  else composeMessage s

/-- The flags are judged again; a message is due when one becomes set, or when the caller says a
container limit was worked out lower than in the last message sent. -/
def judgeFlags (lower : Bool) (s : State) : State :=
  let hold := s.holdFlagNow
  let stop := s.stopFlagNow
  let rises := (hold && !s.converter.holdFlag) || (stop && !s.converter.stopFlag)
  let s1 := s.withConverter { s.converter with holdFlag := hold, stopFlag := stop }
  if lower || rises then messageDue s1 else s1

/-- Either container limit is lower than in the last message sent. DESIGN CHOICE (log entry 74): while
none has been sent since the reset there is nothing to fall below, so no limit has fallen. -/
def State.limitsFell (s : State) : Bool :=
  match s.converter.lastMessage with
  | some m =>
    decide (s.limits.container.charge < m.charge) ||
      decide (s.limits.container.discharge < m.discharge)
  | none => false

/-! ## Container limits (R66) -/

/-- Both container limits and the zero conditions are worked out again, and the converter hears of a
fall at once. -/
def workOutContainer (s : State) : State :=
  let s1 := s.withLimits
    { s.limits with
      container := ⟨s.containerLimit (·.charge), s.containerLimit (·.discharge)⟩
      zeros := s.zeroConditions }
  let s2 := s1.withConverter { s1.converter with limitsWorked := true }
  judgeFlags s2.limitsFell s2

/-- Both published limits of a rack become 0 (R65). -/
def zeroRackLimit (r : Rack) (s : State) : State :=
  s.setRackCharge r { s.limits.racks.get r with limit := ⟨0, 0⟩ }

/-! ## The AC breaker (R164, R165) -/

/-- The close permit is judged again. -/
def judgePermit (s : State) : State :=
  s.withConverter { s.converter with permit := s.permitCondition }

/-- A trip pulse begins with a pulse number. -/
def beginPulse (number : Nat) (s : State) : State :=
  s.withConverter
    { s.converter with pulse := .pulsing, pulseNumber := number, pulseSince := s.now }

/-- A breaker trip pulse is asked for (R165). -/
def requestPulse (s : State) : State :=
  match s.converter.pulse with
  | .idle => beginPulse 1 s
  | .pulsing => s.withConverter { s.converter with pulseNumber := 1 }
  | .proving => beginPulse 1 s
  | .failed => s

end Sys2Proof.Machine
end

