-- ==== Sys2Proof/Machine/TripCore.lean ====
section
/-!
DEFINITION. The trip history (R151 to R153): trip records, their completion reports and the sequence
counter.
-/

namespace Sys2Proof.Machine

/-- A kind's scope is the container (R146). -/
def TripKind.isContainer : TripKind → Bool
  | .coolingLoss => true
  | .gas => true
  | .fire => true
  | .welded => true
  | .converterSilent => true
  | .emergency => true
  | .cellOv => false
  | .cellUv => false
  | .cellOt => false
  | .nodeHwOv => false
  | .nodeHwUv => false
  | .blind => false
  | .overcurrent => false

/-- A kind's class (R146). -/
def TripKind.tripClass : TripKind → TripClass
  | .nodeHwOv => .immediate
  | .fire => .immediate
  | .welded => .immediate
  | .emergency => .immediate
  | .cellOv => .deferred
  | .cellUv => .deferred
  | .cellOt => .deferred
  | .nodeHwUv => .deferred
  | .blind => .deferred
  | .overcurrent => .deferred
  | .coolingLoss => .deferred
  | .gas => .deferred
  | .converterSilent => .deferred

/-- The three immediate container kinds also trip the AC breaker (R146). -/
def TripKind.tripsBreaker (k : TripKind) : Bool := k.isContainer && k.tripClass = .immediate

/-- The stamp a cause carried, if any. -/
def CauseData.stamp : CauseData → Option PartTime
  | .cell _ _ _ t => some t
  | .nodeHw _ _ t => some t
  | .overcurrent _ _ _ t => some t
  | .gas _ _ t => some t
  | .blind _ _ => none
  | .coolingLoss _ => none
  | .fire _ _ => none
  | .welded _ _ => none
  | .converterSilent => none
  | .emergency => none

/-- The measured value a record keeps (R151). -/
def CauseData.value : CauseData → Option Int
  | .cell _ _ v _ => some v
  | .overcurrent _ i _ _ => some i
  | .coolingLoss t => some t
  | .gas _ v _ => some v
  | .nodeHw _ _ _ => none
  | .blind _ _ => none
  | .fire _ _ => none
  | .welded _ _ => none
  | .converterSilent => none
  | .emergency => none

/-- The location a record keeps: node and channel; for OVERCURRENT the rack's junction node and
channel 0 (R151). -/
def locationOf (s : State) (r : Option Rack) : CauseData → Option (Nat × Nat)
  | .cell n c _ _ => some (n, c)
  | .nodeHw n c _ => some (n, c)
  | .overcurrent _ _ _ _ => (r.bind s.junctionOf).map fun e => (e.node, 0)
  | .blind _ _ => none
  | .coolingLoss _ => none
  | .gas _ _ _ => none
  | .fire _ _ => none
  | .welded _ _ => none
  | .converterSilent => none
  | .emergency => none

/-- The racks an order names: the rack of a rack-scope cause, every rack for the container. -/
def namedRacks : Option Rack → List Rack
  | some r => [r]
  | none => Rack.all

/-- A rack's opening completes a record that names it (R152). -/
def RackState.isAwaited : RackState → Bool
  | .precharging => true
  | .joining => true
  | .connected => true
  | .draining => true
  | .opening => true
  | .opened => false
  | .queued => false
  | .locked => false
  | .fault => false

/-- A rack is DRAINING or OPENING under a protective operation (R149). -/
def RackSwitch.protectiveOpening (x : RackSwitch) : Bool :=
  (x.state = .draining || x.state = .opening) && x.operation.protective

/-- The record of a cause taken now (R151, R152). -/
def recordOf (kind : TripKind) (r : Option Rack) (data : CauseData) (s : State) : TripRecord :=
  let racks := namedRacks r
  let awaited := racks.filter fun x => (s.rackState x).isAwaited
  { number := s.trips.sequence
    kind := kind
    rack := r
    node := (locationOf s r data).map (·.1)
    channel := (locationOf s r data).map (·.2)
    value := data.value
    stamp := data.stamp.getD s.now
    cycle := s.ring.cycle
    context := match r with
      | some x => .rack (s.rackState x)
      | none => .container (Rack.all.filter fun x =>
          (s.sequencer.racks.get x).mainCommand || (s.sequencer.racks.get x).prechargeCommand)
    secondary := racks.any fun x => (s.sequencer.racks.get x).protectiveOpening
    awaited := awaited
    reported := ⟨none, false⟩
    completion := if awaited.isEmpty then some ⟨none, false⟩ else none }

/-- A record joins the history, which holds at most 16, the oldest leaving first (R153). -/
def addRecord (rec : TripRecord) (history : List TripRecord) : List TripRecord :=
  if history.length < 16 then history ++ [rec] else history.drop (history.length - 15) ++ [rec]

/-- The record is written and the sequence counter advances. -/
def writeRecord (rec : TripRecord) (s : State) : State :=
  s.withTrips
    { s.trips with
      history := addRecord rec s.trips.history
      sequence := s.trips.sequence + 1 }

/-- The current of greatest magnitude among two reports; of two equal magnitudes the free choice
takes one (R152 names no tie rule). -/
def greaterCurrent (a b : Option Int) (first : Bool) : Option Int :=
  match a, b with
  | none, y => y
  | x, none => x
  | some x, some y =>
    if x.natAbs < y.natAbs then some y
    else if y.natAbs < x.natAbs then some x
    else if first then some x else some y

/-- A completion report taken into one record (R152). -/
def reportInto (r : Rack) (current : Option Int) (underLoad first : Bool) (rec : TripRecord) :
    TripRecord :=
  if rec.completion.isNone && rec.awaited.contains r then
    let left := rec.awaited.filter fun x => x ≠ r
    let gathered : Completion :=
      ⟨greaterCurrent rec.reported.current current first, rec.reported.underLoad || underLoad⟩
    { rec with
      awaited := left
      reported := gathered
      completion := if left.isEmpty then some gathered else none }
  else rec

/-- The records a report completes. -/
def newlyComplete (before after : List TripRecord) : List TripRecord :=
  ((before.zip after).filter fun p => p.1.completion.isNone && p.2.completion.isSome).map (·.2)

/-- The TRIP COMPLETED events of records (R152). -/
def completionEvents (recs : List TripRecord) : List Event :=
  recs.filterMap fun rec => rec.completion.map fun c => .tripCompleted rec.number c

/-- The rack sequencer reports the end of a protective opening: every incomplete record that awaits
the rack takes the report, and those it completes post TRIP COMPLETED (R152). -/
def completionReport (r : Rack) (current : Option Int) (underLoad : Bool) (s : State) : State :=
  let (k, s1) := choose 2 s
  let before := s.trips.history
  let after := before.map (reportInto r current underLoad (k = 0))
  postAll (completionEvents (newlyComplete before after))
    (s1.withTrips { s1.trips with history := after })

end Sys2Proof.Machine
end

