-- ==== Sys2Proof/Machine/SwitchCore.lean ====
section
/-!
DEFINITION. The rack sequencer's moves (chapter 7): a change of rack state with all that is handed at
it, entries to DRAINING and OPENING, the open proof, the connect queue, the switching slot, the
grant of pending disconnects, and protective orders.
-/

namespace Sys2Proof.Machine

/-! ## Changing a rack's state (R123 to R125, R137) -/

/-- A feedback watch does not run in JOINING, PRECHARGING or OPENING (R124). -/
def RackState.watched : RackState → Bool
  | .joining => false
  | .precharging => false
  | .opening => false
  | .opened => true
  | .queued => true
  | .connected => true
  | .draining => true
  | .locked => true
  | .fault => true

/-- A watch timer after a change of state, command or feedback (R124): it runs from 0 when command
and feedback come to differ, and stops when they agree or the state does not watch. -/
def nextWatch (now : PartTime) (watched closed command : Bool) (t : Timer) : Timer :=
  if !watched || closed == command then .stopped
  else match t with
    | .stopped => .running now
    | .running since => .running since
    | .full ms => .full ms

/-- Both watch timers of a rack, brought up to its state and feedbacks. -/
def RackSwitch.rewatch (now : PartTime) (x : RackSwitch) : RackSwitch :=
  { x with
    mainWatch := nextWatch now x.state.watched x.mainClosed x.mainCommand x.mainWatch
    prechargeWatch :=
      nextWatch now x.state.watched x.prechargeClosed x.prechargeCommand x.prechargeWatch }

/-- The switching hold starts at the change that brings the first rack into a switching state: every
published limit becomes 0 (R65, R137). Its end is settled when the step's moves are done. -/
def startHold (s : State) : State :=
  if s.anySwitching && !s.sequencer.hold then
    forRacks Rack.all zeroRackLimit (s.withSequencer { s.sequencer with hold := true })
  else s

/-- What the limit computer and the trip unit do when a rack leaves CONNECTED: its published limits
become 0 (R65) and its overrun start absent (R147). -/
def leaveConnected (r : Rack) (s : State) : State :=
  zeroRackLimit r
    (s.setRackLatches r { s.trips.racks.get r with overrunStart := none })

/-- A rack takes a new sequencer state. A change of rack state posts RACK_STATE and is handed to the
limit computer, to the trip unit and to the permit judgement (R125). DESIGN CHOICE (log entry 80): a
limit message that falls due at the change is composed there, before the step moves its other racks. -/
def changeRack (r : Rack) (x : RackSwitch) (cause : RackCause) (s : State) : State :=
  let before := s.rackState r
  let s1 := s.setRackSwitch r (x.rewatch s.now)
  if before = x.state then s1
  else
    let s2 := post (.rackState r before x.state x.faultKind cause) s1
    let s3 := if before = .connected then leaveConnected r s2 else s2
    let held := s3.sequencer.hold
    let s4 := startHold s3
    let s5 :=
      if before = .connected || x.state = .connected || s4.sequencer.hold != held then
        workOutContainer s4
      else s4
    judgePermit s5

/-! ## The connect queue and the slot (R127, R128) -/

/-- The outcome of a rack's present connect is decided (R126). -/
def connectResult (r : Rack) (outcome : ConnectOutcome) (s : State) : State :=
  post (.connectResult r outcome (s.sequencer.racks.get r).queuedAt) s

/-- A rack's entry leaves the connect queue, the order of the others kept. -/
def dequeue (r : Rack) (s : State) : State :=
  s.withSequencer { s.sequencer with queue := s.sequencer.queue.filter fun e => e.rack ≠ r }

/-- A rack that holds the switching slot gives it up. -/
def freeSlot (r : Rack) (s : State) : State :=
  if s.sequencer.slot = some r then s.withSequencer { s.sequencer with slot := none } else s

/-- A QUEUED rack leaves the queue for OPEN with a result. -/
def leaveQueue (r : Rack) (outcome : ConnectOutcome) (cause : RackCause) (s : State) : State :=
  let x := s.sequencer.racks.get r
  changeRack r { x with state := .opened, operation := .none } cause
    (connectResult r outcome (dequeue r s))

/-! ## Opening (R135, R136) -/

/-- The rack current record of a rack, by its junction node. -/
def State.currentRecord (s : State) (r : Rack) : Option Record :=
  (s.junctionOf r).bind fun e => s.record e.node 0

/-- The rack current as the record stands, absent when it holds no fresh value. -/
def State.freshCurrent (s : State) (r : Rack) : Option Int :=
  (s.currentRecord r).bind Record.freshValue

/-- The break level of the GRID table (0 while none is active). -/
def State.breakLevel (s : State) : Nat :=
  match s.grid with
  | some g => g.breakLevel
  | none => 0

/-- A release is under load when the current is not fresh or above the break level (R135). -/
def State.loadMark (s : State) (r : Rack) : Bool :=
  match s.freshCurrent r with
  | some i => decide (s.breakLevel < i.natAbs)
  | none => true

/-- A rack has reached the hard-break limit of the GRID table (R136). -/
def State.contactWorn (s : State) (x : RackSwitch) : Bool :=
  match s.grid with
  | some g => decide (g.hardBreakLimit ≤ x.hardBreaks)
  | none => false

/-- The final state of an open proof that passes (R136). -/
def State.proofState (s : State) (r : Rack) (x : RackSwitch) : RackState :=
  if s.contactWorn x then .fault else if s.latchedFor r then .locked else .opened

/-- The end of a rack's operation in a final state: operation NONE, timer stopped, slot given up; a
protective opening is reported complete to the trip unit (R135, R136). -/
def endOperation (r : Rack) (x : RackSwitch) (cause : RackCause) (s : State) : State :=
  let before := s.sequencer.racks.get r
  let s1 := freeSlot r (changeRack r
    { x with operation := .none, timer := none, disconnectPending := false } cause s)
  if before.operation.protective then
    completionReport r before.releaseCurrent before.underLoad s1
  else s1

/-- The open proof passes (R136). -/
def passOpenProof (r : Rack) (cause : RackCause) (s : State) : State :=
  let x := s.sequencer.racks.get r
  endOperation r
    { x with
      state := s.proofState r x
      faultKind := if s.contactWorn x then some .contactWear else none } cause s

/-- Entry to OPENING under an operation: both contactors open, the open-proof timer runs, a main
release under load counts a hard break (R135). A proof whose feedbacks already read open passes at
once (R136). DEDUCED (log entry 7): the RACK_STATE of that pass names the cause of the entry again. -/
def enterOpening (r : Rack) (op : Operation) (cause : RackCause) (s : State) : State :=
  let x := s.sequencer.racks.get r
  let underLoad := x.mainClosed && s.loadMark r
  let s1 := changeRack r
    { x with
      state := .opening
      operation := op
      disconnectPending := false
      timer := some ⟨.openProof, s.now, s.contactorProof⟩
      hardBreaks := if underLoad then countUp 255 x.hardBreaks else x.hardBreaks
      releaseCurrent := s.freshCurrent r
      underLoad := underLoad } cause s
  if x.bothOpen then passOpenProof r cause s1 else s1

/-- The drain of a rack ends: it goes to OPENING under its operation (R134). -/
def endDrain (r : Rack) (cause : RackCause) (s : State) : State :=
  enterOpening r (s.sequencer.racks.get r).operation cause s

/-- Entry to DRAINING under an operation for a time in ms; a drain timer of 0 expires at its start and is
then the cause of the second move (R134, R125; chapter 7, usage note 2). -/
def enterDraining (r : Rack) (op : Operation) (ms : Nat) (cause : RackCause) (s : State) : State :=
  let x := s.sequencer.racks.get r
  let s1 := changeRack r
    { x with
      state := .draining
      operation := op
      disconnectPending := false
      timer := some ⟨.drain, s.now, ms⟩ } cause s
  if ms = 0 then endDrain r .drainTimer s1 else s1

/-! ## Disconnects (R128, R133) -/

def State.drainTime (s : State) : Nat :=
  match s.grid with
  | some g => g.drainTime
  | none => 0

def State.deferredDrain (s : State) : Nat :=
  match s.grid with
  | some g => g.deferredDrain
  | none => 0

/-- The rack a free slot is granted to: the lowest CONNECTED rack with disconnect pending, while no
rack is under a protective operation (R128). -/
def State.grantable (s : State) : Option Rack :=
  if s.sequencer.slot.isSome || s.anyProtective then none
  else Rack.all.find? fun r =>
    (s.sequencer.racks.get r).disconnectPending && s.rackState r = .connected

/-- Pending disconnects are granted the slot as it comes free, lowest rack first (R128, R133). -/
def grantDisconnects : Nat → State → State
  | 0, s => s
  | fuel + 1, s =>
    match s.grantable with
    | some r =>
      grantDisconnects fuel (enterDraining r .disconnect s.drainTime .disconnect
        (s.withSequencer { s.sequencer with slot := some r }))
    | none => s

/-- The connect of a PRECHARGING rack is given up: it goes to OPENING under its operation, keeping the
slot, with a result (R131, R133). The result is posted before the opening runs. -/
def abandonPrecharge (r : Rack) (outcome : ConnectOutcome) (cause : RackCause) (s : State) :
    State :=
  enterOpening r (s.sequencer.racks.get r).operation cause (connectResult r outcome s)

/-! ## Protective orders (R138, R139) -/

/-- The part of an order that takes a rack's operation over: the slot is given up and disconnect
pending cleared. -/
def takeOver (r : Rack) (s : State) : State :=
  let s1 := freeSlot r s
  s1.setRackSwitch r { s1.sequencer.racks.get r with disconnectPending := false }

/-- A QUEUED rack reached by an order leaves the queue for LOCKED. -/
def lockQueued (r : Rack) (kind : TripKind) (s : State) : State :=
  let s1 := connectResult r .abortedByTrip (dequeue r s)
  changeRack r { s1.sequencer.racks.get r with state := .locked, operation := .none } (.trip kind) s1

/-- An OPEN rack reached by an order becomes LOCKED. -/
def lockOpen (r : Rack) (kind : TripKind) (s : State) : State :=
  changeRack r { s.sequencer.racks.get r with state := .locked } (.trip kind) s

/-- An order takes an OPENING rack's operation over without touching its proof. -/
def takeOverOpening (r : Rack) (op : Operation) (s : State) : State :=
  let s1 := takeOver r s
  s1.setRackSwitch r { s1.sequencer.racks.get r with operation := op }

/-- An immediate order on one rack (R138). DESIGN CHOICE (log entry 15): the CONNECT_RESULT of a connect
it ends is posted before the RACK_STATE. -/
def immediateOrder (kind : TripKind) (r : Rack) (s : State) : State :=
  match s.rackState r with
  | .precharging =>
    enterOpening r .protectiveImmediate (.trip kind)
      (takeOver r (connectResult r .abortedByTrip s))
  | .joining =>
    enterOpening r .protectiveImmediate (.trip kind)
      (takeOver r (connectResult r .abortedByTrip s))
  | .connected => enterOpening r .protectiveImmediate (.trip kind) (takeOver r s)
  | .draining => enterOpening r .protectiveImmediate (.trip kind) (takeOver r s)
  | .opening => takeOverOpening r .protectiveImmediate s
  | .queued => lockQueued r kind s
  | .opened => lockOpen r kind s
  | .locked => s
  | .fault => s

/-- A deferred order on a rack DRAINING under DISCONNECT: the drain ends at the earlier of its present
end and the order plus the deferred drain time, at once where that is 0 (R139). -/
def shortenDrain (r : Rack) (s : State) : State :=
  let s1 := takeOver r s
  let x := s1.sequencer.racks.get r
  let shortened := x.timer.map fun t =>
    { t with limit := min t.limit (elapsed s.now t.since + s.deferredDrain) }
  let s2 := s1.setRackSwitch r { x with operation := .protectiveDeferred, timer := shortened }
  if s.deferredDrain = 0 then endDrain r .drainTimer s2 else s2

/-- A deferred order on one rack (R139). -/
def deferredOrder (kind : TripKind) (r : Rack) (s : State) : State :=
  let op := (s.sequencer.racks.get r).operation
  match s.rackState r with
  | .connected =>
    enterDraining r .protectiveDeferred s.deferredDrain (.trip kind) (takeOver r s)
  | .draining => if op.protective then s else shortenDrain r s
  | .precharging =>
    enterOpening r .protectiveDeferred (.trip kind)
      (takeOver r (connectResult r .abortedByTrip s))
  | .joining =>
    enterOpening r .protectiveDeferred (.trip kind)
      (takeOver r (connectResult r .abortedByTrip s))
  | .opening => if op.protective then s else takeOverOpening r .protectiveDeferred s
  | .queued => lockQueued r kind s
  | .opened => lockOpen r kind s
  | .locked => s
  | .fault => s

/-- A protective order of a kind's class on the racks it names. -/
def order (kind : TripKind) (racks : List Rack) (s : State) : State :=
  match kind.tripClass with
  | .immediate => forRacks racks (immediateOrder kind) s
  | .deferred => forRacks racks (deferredOrder kind) s

/-! ## LOCKED racks and withdrawn connects (R140, R142) -/

/-- A LOCKED rack with no latch standing for it becomes OPEN (R140). -/
def releaseLocked (r : Rack) (s : State) : State :=
  if s.rackState r = .locked && !s.latchedFor r then
    changeRack r { s.sequencer.racks.get r with state := .opened } .latchCleared s
  else s

/-- Every QUEUED rack leaves the queue for OPEN with CANCELLED (R142). DESIGN CHOICE (log entry 15):
they leave in the queue's order, its head first. -/
def cancelQueue (cause : RackCause) (s : State) : State :=
  forRacks (s.sequencer.queue.map (·.rack)) (fun r => leaveQueue r .cancelled cause) s

/-- The fire stage leaves NORMAL or the gas state leaves CLEAR: the queue is emptied and a
PRECHARGING rack abandoned (R142). -/
def withdrawConnects (s : State) : State :=
  forRacks Rack.all
    (fun r acc =>
      if acc.rackState r = .precharging then abandonPrecharge r .cancelled .fireOrGas acc else acc)
    (cancelQueue .fireOrGas s)

/-- A table swap withdraws a rack: a QUEUED rack is cancelled, a PRECHARGING one abandoned, a JOINING
or CONNECTED one has disconnect pending set (R142). -/
def withdrawRack (r : Rack) (s : State) : State :=
  match s.rackState r with
  | .queued => leaveQueue r .cancelled .tableSwap s
  | .precharging => abandonPrecharge r .cancelled .tableSwap s
  | .joining => s.setRackSwitch r { s.sequencer.racks.get r with disconnectPending := true }
  | .connected => s.setRackSwitch r { s.sequencer.racks.get r with disconnectPending := true }
  | .opened => s
  | .draining => s
  | .opening => s
  | .locked => s
  | .fault => s

end Sys2Proof.Machine
end

