-- ==== Sys2Proof/Machine/TripUnit.lean ====
section
/-!
DEFINITION. The trip unit (chapter 8): taking a cause (R148), clearing latches (R154, R155) and the
overcurrent check (R147).
-/

namespace Sys2Proof.Machine

/-! ## Latches by kind -/

/-- A latch set by a cause: a latch already set stays set, and its acknowledgement is cleared. -/
def Latch.taken : Latch := ⟨true, false⟩

/-- A latch with its acknowledged flag set if it stands. -/
def Latch.acked (l : Latch) : Latch := ⟨l.standing, l.acknowledged || l.standing⟩

/-- A rack latch replaced by kind; a container kind names none. -/
def RackLatches.put (l : RackLatches) (k : TripKind) (x : Latch) : RackLatches :=
  match k with
  | .cellOv => { l with cellOv := x }
  | .cellUv => { l with cellUv := x }
  | .cellOt => { l with cellOt := x }
  | .nodeHwOv => { l with nodeHwOv := x }
  | .nodeHwUv => { l with nodeHwUv := x }
  | .blind => { l with blind := x }
  | .overcurrent => { l with overcurrent := x }
  | .coolingLoss => l
  | .gas => l
  | .fire => l
  | .welded => l
  | .converterSilent => l
  | .emergency => l

/-- A rack latch by kind. -/
def RackLatches.latch (l : RackLatches) (k : TripKind) : Latch :=
  match k with
  | .cellOv => l.cellOv
  | .cellUv => l.cellUv
  | .cellOt => l.cellOt
  | .nodeHwOv => l.nodeHwOv
  | .nodeHwUv => l.nodeHwUv
  | .blind => l.blind
  | .overcurrent => l.overcurrent
  | .coolingLoss => .clear
  | .gas => .clear
  | .fire => .clear
  | .welded => .clear
  | .converterSilent => .clear
  | .emergency => .clear

/-- A container latch replaced by kind; a rack kind names none. -/
def ContainerLatches.put (l : ContainerLatches) (k : TripKind) (x : Latch) : ContainerLatches :=
  match k with
  | .coolingLoss => { l with coolingLoss := x }
  | .gas => { l with gas := x }
  | .fire => { l with fire := x }
  | .welded => { l with welded := x }
  | .converterSilent => { l with converterSilent := x }
  | .emergency => { l with emergency := x }
  | .cellOv => l
  | .cellUv => l
  | .cellOt => l
  | .nodeHwOv => l
  | .nodeHwUv => l
  | .blind => l
  | .overcurrent => l

/-- A container latch by kind. -/
def ContainerLatches.latch (l : ContainerLatches) (k : TripKind) : Latch :=
  match k with
  | .coolingLoss => l.coolingLoss
  | .gas => l.gas
  | .fire => l.fire
  | .welded => l.welded
  | .converterSilent => l.converterSilent
  | .emergency => l.emergency
  | .cellOv => .clear
  | .cellUv => .clear
  | .cellOt => .clear
  | .nodeHwOv => .clear
  | .nodeHwUv => .clear
  | .blind => .clear
  | .overcurrent => .clear

/-- The seven rack kinds, in the order of R146. -/
def TripKind.rackKinds : List TripKind :=
  [.cellOv, .cellUv, .cellOt, .nodeHwOv, .nodeHwUv, .blind, .overcurrent]

/-- A node joins an awaited set, or has its heard state cleared there (R148). -/
def awaitNode (node : Nat) (xs : List Awaited) : List Awaited :=
  if xs.any fun a => a.node = node then
    xs.map fun a => if a.node = node then { a with heard := false } else a
  else xs ++ [⟨node, false⟩]

/-- A cause's node joins the awaited set of its NODE_HW latch. -/
def RackLatches.await (l : RackLatches) (k : TripKind) : CauseData → RackLatches
  | .nodeHw node _ _ =>
    if k = .nodeHwOv then { l with ovAwaited := awaitNode node l.ovAwaited }
    else { l with uvAwaited := awaitNode node l.uvAwaited }
  | .cell _ _ _ _ => l
  | .blind _ _ => l
  | .overcurrent _ _ _ _ => l
  | .coolingLoss _ => l
  | .gas _ _ _ => l
  | .fire _ _ => l
  | .welded _ _ => l
  | .converterSilent => l
  | .emergency => l

/-! ## Taking a cause (R148) -/

/-- The latch of a cause's kind is set. -/
def setLatch (kind : TripKind) (r : Option Rack) (data : CauseData) (s : State) : State :=
  match r with
  | some x => s.setRackLatches x (((s.trips.racks.get x).put kind .taken).await kind data)
  | none => s.withTrips { s.trips with container := s.trips.container.put kind .taken }

/-- The new latch state is handed on: the stop flag and the close permit are judged, and a container
summary is produced. -/
def handLatch (s : State) : State :=
  inAnyOrder [judgePermit, produceContainerSummary] (judgeFlags false s)

/-- A trip cause is taken (R148): latch, record, order, breaker pulse, event, hand-over. The record
takes the rack states as they stood when the cause arrived. DESIGN CHOICE (log entry 18): TRIP TAKEN
carries the record as it was written, also where the order has completed it since. -/
def takeCause (kind : TripKind) (r : Option Rack) (data : CauseData) (s : State) : State :=
  let rec_ := recordOf kind r data s
  let ordered := order kind (namedRacks r) (writeRecord rec_ (setLatch kind r data s))
  let pulsed := if kind.tripsBreaker then requestPulse ordered else ordered
  handLatch (post (.tripTaken rec_ data) pulsed)

/-! ## Clearing latches (R154, R155) -/

/-- A rack latch clears, with its acknowledgement and its awaited set: TRIP CLEARED is posted, a
LOCKED rack judged again and a container summary produced. -/
def clearRackLatch (r : Rack) (kind : TripKind) (s : State) : State :=
  let l := (s.trips.racks.get r).put kind .clear
  let emptied : RackLatches :=
    { l with
      ovAwaited := if kind = .nodeHwOv then [] else l.ovAwaited
      uvAwaited := if kind = .nodeHwUv then [] else l.uvAwaited }
  inAnyOrder [post (.tripCleared (some r) kind), releaseLocked r, produceContainerSummary]
    (judgeFlags false (s.setRackLatches r emptied))

/-- A container latch clears: TRIP CLEARED is posted, every LOCKED rack judged again, the close permit
judged again and a container summary produced. -/
def clearContainerLatch (kind : TripKind) (s : State) : State :=
  let s1 := s.withTrips { s.trips with container := s.trips.container.put kind .clear }
  inAnyOrder
    [post (.tripCleared none kind), forRacks Rack.all releaseLocked, judgePermit,
      produceContainerSummary] (judgeFlags false s1)

/-- A level side of the rack's records of a kind stands at TRIP. -/
def State.sideAtTrip (s : State) (r : Rack) (kind : RecordKind) (high : Bool) : Bool :=
  (s.rackRecords r).any fun x =>
    x.kind = kind && sideTrips (if high then x.high else x.low)

/-- The cause of a rack latch is gone (R154). -/
def State.causeGone (s : State) (r : Rack) (kind : TripKind) : Bool :=
  match kind with
  | .cellOv => !s.sideAtTrip r .cellVoltage true
  | .cellUv => !s.sideAtTrip r .cellVoltage false
  | .cellOt => !s.sideAtTrip r .cellTemperature true
  | .blind => !(s.samples.racks.get r).blind
  | .nodeHwOv => (s.trips.racks.get r).ovAwaited.all (·.heard)
  | .nodeHwUv => (s.trips.racks.get r).uvAwaited.all (·.heard)
  | .overcurrent => true
  | .coolingLoss => false
  | .gas => false
  | .fire => false
  | .welded => false
  | .converterSilent => false
  | .emergency => false

/-- A rack latch is judged: it clears once acknowledged and its cause gone. -/
def judgeRackLatch (r : Rack) (kind : TripKind) (s : State) : State :=
  let l := (s.trips.racks.get r).latch kind
  if l.standing && l.acknowledged && s.causeGone r kind then clearRackLatch r kind s else s

/-- Every latch of a rack is judged. -/
def judgeRackLatches (r : Rack) (s : State) : State :=
  TripKind.rackKinds.foldl (fun acc k => judgeRackLatch r k acc) s

/-- A container latch's own condition for clearing (R155). -/
def State.containerGone (s : State) (kind : TripKind) : Bool :=
  let acked := (s.trips.container.latch kind).acknowledged
  match kind with
  | .fire => s.fire.stage = .normal
  | .gas => s.fire.gas = .clear
  | .coolingLoss => (s.cooling.outputs.get .pump).status ≠ .failed
  | .converterSilent => acked && !s.converter.silent
  | .welded => acked && !s.anyWelded
  | .emergency => acked
  | .cellOv => false
  | .cellUv => false
  | .cellOt => false
  | .nodeHwOv => false
  | .nodeHwUv => false
  | .blind => false
  | .overcurrent => false

/-- A container latch is judged. -/
def judgeContainerLatch (kind : TripKind) (s : State) : State :=
  if (s.trips.container.latch kind).standing && s.containerGone kind then
    clearContainerLatch kind s
  else s

/-! ## Nodes heard (R154) -/

/-- A node of a rack's awaited sets has been heard. -/
def markHeard (r : Rack) (heard : Nat → Bool) (s : State) : State :=
  let mark (xs : List Awaited) : List Awaited :=
    xs.map fun a => if heard a.node then { a with heard := true } else a
  let l := s.trips.racks.get r
  s.setRackLatches r { l with ovAwaited := mark l.ovAwaited, uvAwaited := mark l.uvAwaited }

/-- A NODE_RESTART from a node is handed to the trip unit: the node is heard, and the NODE_HW latches
that await it are judged. -/
def restartHeard (node : Nat) (s : State) : State :=
  forRacks Rack.all
    (fun r acc =>
      let l := acc.trips.racks.get r
      if l.ovAwaited.any (fun a => a.node = node) || l.uvAwaited.any (fun a => a.node = node) then
        judgeRackLatch r .nodeHwUv
          (judgeRackLatch r .nodeHwOv (markHeard r (fun n => n = node) acc))
      else acc) s

/-- A node's empty-slot count stands at 0. -/
def State.slotTaken (s : State) (node : Nat) : Bool :=
  match s.sampleNode node with
  | some n => n.emptySlots = 0
  | none => false

/-! ## The overcurrent check (R147) -/

/-- The excess of a rack current over its published limits with a margin: the direction and the
published limit of it. -/
def excessOf (current : Int) (limit : PerDirection Nat) (margin : Nat) : Option (Direction × Nat) :=
  if (limit.charge : Int) + margin < current then some (.charge, limit.charge)
  else if current < -((limit.discharge : Int) + margin) then some (.discharge, limit.discharge)
  else none

def setOverrun (r : Rack) (x : Option PartTime) (s : State) : State :=
  s.setRackLatches r { s.trips.racks.get r with overrunStart := x }

/-- The rack current of the set and its junction stamp when the junction-fresh mark is set (R39):
the junction's slot of this cycle brought taken codes and the rack current record is fresh. -/
def State.junctionFresh (s : State) (r : Rack) : Option (Int × PartTime) :=
  if (s.samples.racks.get r).junctionTaken then
    match s.freshCurrent r, (s.currentRecord r).bind (·.stamp) with
    | some i, some t => some (i, t)
    | _, _ => none
  else none

/-- The overcurrent check of a rack at its set complete. -/
def overcurrentCheck (r : Rack) (s : State) : State :=
  match s.grid with
  | none => s
  | some g =>
    if s.rackState r ≠ .connected then setOverrun r none s
    else match s.junctionFresh r with
      | none => s
      | some (i, stamp) =>
        match excessOf i (s.limits.racks.get r).limit g.overrunMargin with
        | none => setOverrun r none s
        | some (direction, limit) =>
          let start := (s.trips.racks.get r).overrunStart.getD stamp
          if g.overrunTime ≤ elapsed stamp start then
            setOverrun r none
              (takeCause .overcurrent (some r) (.overcurrent direction i limit stamp)
                (setOverrun r none s))
          else setOverrun r (some start) s

/-- What the trip unit does at a rack set complete: the overcurrent check, the nodes heard, and the
rack's latches judged (R147, R154). -/
def tripSetComplete (r : Rack) (s : State) : State :=
  judgeRackLatches r (markHeard r s.slotTaken (overcurrentCheck r s))

end Sys2Proof.Machine
end

