-- ==== Sys2Proof/Machine/BalanceCore.lean ====
section
/-!
DEFINITION. The balancing scheduler's operations (chapter 4): bleed masks handed to the ring
controller (R77), suspension (R71), the heat allowance's bound (R76), selection at a rack set
complete (R74, R75), the echo check (R78), node events (R79, R80) and reloads (R72).
-/

namespace Sys2Proof.Machine

/-! ## Ordering -/

/-- Insertion before the first element that does not come before `x`. -/
def insertBy {α : Type} (comesBefore : α → α → Bool) (x : α) : List α → List α
  | [] => [x]
  | y :: ys => if comesBefore y x then y :: insertBy comesBefore x ys else x :: y :: ys

/-- A list in the order of a relation. -/
def sortBy {α : Type} (comesBefore : α → α → Bool) (xs : List α) : List α :=
  xs.foldr (insertBy comesBefore) []

/-! ## Records and masks -/

/-- A record in a new state; one that leaves ACTIVE has its counted-second mark cleared (R73). -/
def BalanceRecord.move (b : BalanceRecord) (st : BalanceState) : BalanceRecord :=
  { b with state := st, counted := if st = .active then b.counted else false }

/-- The channels of a node's records in ACTIVE (R77). -/
def activeMask (records : List BalanceRecord) (node : Nat) : CellMask :=
  (records.filter fun b => b.node = node && b.state = .active).foldl
    (fun m b => m ||| (1#16 <<< b.channel)) 0#16

/-- The ring controller takes a commanded mask: the confirmation mark is cleared when the mask differs
from the last one echoed (R11). -/
def RingNode.command (n : RingNode) (mask : CellMask) : RingNode :=
  { n with commanded := mask, confirmed := n.confirmed && decide (n.echoed = some mask) }

def mapRingNode (node : Nat) (f : RingNode → RingNode) (s : State) : State :=
  s.withRing { s.ring with nodes := s.ring.nodes.map fun n => if n.node = node then f n else n }

def mapBalanceNode (node : Nat) (f : BalanceNode → BalanceNode) (s : State) : State :=
  s.withBalance
    { s.balance with nodes := s.balance.nodes.map fun n => if n.node = node then f n else n }

def mapRecords (f : BalanceRecord → BalanceRecord) (s : State) : State :=
  s.withBalance { s.balance with records := s.balance.records.map f }

/-- A node's commanded mask is handed to the ring controller (R77). -/
def handMask (node : Nat) (s : State) : State :=
  mapRingNode node (·.command (activeMask s.balance.records node))
    (mapRecords
      (fun b => if b.node = node then { b with commanded := decide (b.state = .active) } else b) s)

def handMasks (nodes : List Nat) (s : State) : State :=
  nodes.foldl (fun acc n => handMask n acc) s

/-- The nodes whose set of ACTIVE records differs between two states of the records. -/
def changedNodes (s : State) (before : List BalanceRecord) : List Nat :=
  (s.balance.nodes.map (·.node)).filter fun n =>
    activeMask before n ≠ activeMask s.balance.records n

/-- Records change, and the masks of the nodes whose ACTIVE set changed are handed at once. -/
def moveRecords (f : BalanceRecord → BalanceRecord) (s : State) : State :=
  let s1 := mapRecords f s
  handMasks (changedNodes s1 s.balance.records) s1

/-- Every ACTIVE record that a test names becomes IDLE, the masks handed at once. -/
def endActive (named : BalanceRecord → Bool) (s : State) : State :=
  moveRecords (fun b => if b.state = .active && named b then b.move .idle else b) s

/-! ## Suspension (R71) -/

/-- A node becomes suspended: its IDLE and ACTIVE records become SUSPENDED. -/
def suspendRecords (node : Nat) (s : State) : State :=
  mapRecords
    (fun b => if b.node = node && (b.state = .idle || b.state = .active) then b.move .suspended
      else b) s

/-- A node that is no longer suspended has its SUSPENDED records IDLE again. -/
def resumeRecords (node : Nat) (s : State) : State :=
  if s.balanceSuspended node then s
  else mapRecords
    (fun b => if b.node = node && b.state = .suspended then b.move .idle else b) s

/-! ## The heat allowance's bound (R76) -/

/-- The voltage a balancing record's cell was last given. -/
def State.cellVoltage (s : State) (b : BalanceRecord) : Int :=
  ((s.record b.node b.channel).bind (·.value)).getD 0

/-- The order in which ACTIVE records leave at a fall: lowest voltage first, equal voltages from the
higher rack, node and channel. -/
def State.leavesBefore (s : State) (a b : BalanceRecord) : Bool :=
  let va := s.cellVoltage a
  let vb := s.cellVoltage b
  decide (va < vb) || decide (va = vb) &&
    (decide (b.rack.number < a.rack.number) || decide (a.rack = b.rack) &&
      (decide (b.node < a.node) || decide (a.node = b.node) && decide (b.channel < a.channel)))

/-- The same record of the same cell. -/
def BalanceRecord.sameCell (a b : BalanceRecord) : Bool :=
  a.rack = b.rack && a.node = b.node && a.channel = b.channel

/-- ACTIVE records leave at once until no more are left than the allowance. -/
def boundActive (allowance : Nat) (s : State) : State :=
  let active := s.activeRecords
  let leaving := (sortBy s.leavesBefore active).take (active.length - allowance)
  if leaving.isEmpty then s else endActive (fun b => leaving.any b.sameCell) s

/-! ## Selection (R74, R75) -/

/-- The order of the candidates: highest voltage first, then lower node, then lower channel. -/
def State.chosenBefore (s : State) (a b : BalanceRecord) : Bool :=
  let va := s.cellVoltage a
  let vb := s.cellVoltage b
  decide (vb < va) || decide (va = vb) &&
    (decide (a.node < b.node) || decide (a.node = b.node) && decide (a.channel < b.channel))

/-- The candidates of a rack: IDLE or ACTIVE, fresh, at or above Vmin plus the target band (R75). DESIGN
CHOICE (log entry 38): a record that a SLOT swap created IDLE on a node already suspended is a
candidate like any other, and may become ACTIVE there. -/
def State.candidates (s : State) (r : Rack) (threshold : Int) : List BalanceRecord :=
  sortBy s.chosenBefore (s.balance.records.filter fun b =>
    b.rack = r && (b.state = .idle || b.state = .active) &&
      match (s.record b.node b.channel).bind Record.freshValue with
      | some v => decide (threshold ≤ v)
      | none => false)

/-- The walk over the candidates: at most `limit` in all and 8 of one node. -/
def walkCandidates (limit : Nat) : List BalanceRecord → List BalanceRecord → List BalanceRecord
  | [], chosen => chosen
  | c :: cs, chosen =>
    if limit ≤ chosen.length then chosen
    else if (chosen.filter fun b => b.node = c.node).length < 8 then
      walkCandidates limit cs (chosen ++ [c])
    else walkCandidates limit cs chosen

/-- The limit of a rack's selection: its share of the heat allowance, and no more than what the other
racks' ACTIVE records leave. -/
def State.selectionLimit (s : State) (r : Rack) : Nat :=
  let share := s.cooling.allowance / s.balancingRacks.length
  let others := (s.activeRecords.filter fun b => b.rack ≠ r).length
  min share (s.cooling.allowance - others)

/-- The CELL nodes of a rack. -/
def State.cellNodes (s : State) (r : Rack) : List Nat :=
  ((s.entriesOfKind .cell).filter fun e => e.rackOf = some r).map (·.node)

/-- Selection for an eligible rack (R75), its masks handed after. -/
def selectCells (r : Rack) (s : State) : State :=
  match (s.samples.racks.get r).aggregates.vmin, s.rackConfig r with
  | some lo, some e =>
    let limit := s.selectionLimit r
    let chosen := walkCandidates limit (s.candidates r (lo.value + e.targetBand)) []
    let s1 := mapRecords
      (fun b =>
        if b.rack = r && (b.state = .idle || b.state = .active) then
          b.move (if chosen.any b.sameCell then .active else .idle)
        else b) s
    s1.setRackBalance r { s1.balance.racks.get r with lastLimit := some limit }
  | _, _ => s

/-- After a pin or command reset, a record with 0 remaining seconds becomes BUDGET_SPENT at its rack's
first set complete (R85). -/
def firstSetCheck (r : Rack) (s : State) : State :=
  if (s.balance.racks.get r).firstSetDue then
    let spent (b : BalanceRecord) : Bool :=
      b.rack = r && b.remaining = 0 && b.state ≠ .budgetSpent
    let events := (s.balance.records.filter spent).map fun b =>
      Event.budgetSpent b.rack b.node b.channel
    let s1 := mapRecords (fun b => if spent b then b.move .budgetSpent else b) s
    postAll events
      (s1.setRackBalance r { s1.balance.racks.get r with firstSetDue := false })
  else s

/-- What the scheduler does at a rack set complete (R74, R75, R77). DESIGN CHOICE (log entry 76): at a
rack's first set after a reset the records with 0 seconds are spent (R85) before eligibility and
selection, so they take no place in it. -/
def balanceSetComplete (r : Rack) (s : State) : State :=
  let s1 := firstSetCheck r s
  let verdict : Eligibility :=
    match s1.eligibilityFailures r with
    | [] => .eligible
    | c :: _ => .failed c
  let s2 := s1.setRackBalance r { s1.balance.racks.get r with eligibility := verdict }
  let s3 :=
    if verdict = .eligible then selectCells r s2
    else mapRecords
      (fun b => if b.rack = r && b.state = .active then b.move .idle else b) s2
  handMasks (s3.cellNodes r) s3

/-! ## Budgets (R72, R73) -/

/-- The daily budget a record created at a SLOT swap takes: the rack's, while its RACK entry is enabled
(R71). -/
def State.dailyBudget (s : State) (r : Rack) : Option Nat := (s.rackConfig r).map (·.dailyBudget)

/-- The daily budget a reload takes: the field of the rack's entry of the active RACK table, enabled or
not, since a reload covers every record (R72). -/
def State.reloadBudget (s : State) (r : Rack) : Option Nat := (s.rackEntry r).map (·.dailyBudget)

/-- One record at a reload (R72). -/
def reloadRecord (s : State) (b : BalanceRecord) (budget : Nat) : BalanceRecord :=
  let loaded := { b with remaining := budget }
  match b.state with
  | .budgetSpent =>
    if budget = 0 then loaded
    else loaded.move (if s.balanceSuspended b.node then .suspended else .idle)
  | .idle => if budget = 0 then loaded.move .budgetSpent else loaded
  | .active => if budget = 0 then loaded.move .budgetSpent else loaded
  | .suspended => loaded

/-- A reload of the records a test names, while a RACK table is active: BUDGET_SPENT is posted for each
record a budget of 0 spends, and masks that changed are handed. DESIGN CHOICE (log entry 61): R77 does
not name a reload among the occasions of a mask handed at once. -/
def reload (named : Rack → Bool) (s : State) : State :=
  let step (b : BalanceRecord) : BalanceRecord :=
    if named b.rack then
      match s.reloadBudget b.rack with
      | some n => reloadRecord s b n
      | none => b
    else b
  let events := (s.balance.records.filter fun b =>
      b.state ≠ .budgetSpent && (step b).state = .budgetSpent).map fun b =>
    Event.budgetSpent b.rack b.node b.channel
  postAll events (moveRecords step s)

/-- The pending power-on reload is done at the first swap after which SLOT and RACK are both active
(R72). -/
def powerOnReload (s : State) : State :=
  if s.balance.reloadPending && s.isActive .slot && s.isActive .rack then
    let s1 := reload (fun _ => true) s
    s1.withBalance { s1.balance with reloadPending := false }
  else s

/-- One record at a second boundary (R73). -/
def chargeSecond (b : BalanceRecord) : BalanceRecord :=
  if b.state = .active then
    if b.counted then
      if b.remaining - 1 = 0 then { b.move .budgetSpent with remaining := 0 }
      else { b with remaining := b.remaining - 1, counted := true }
    else { b with counted := true }
  else { b with counted := false }

/-- A second boundary: every record that bled the whole second is charged for it (R73). -/
def secondBoundary (s : State) : State :=
  let events := (s.balance.records.filter fun b =>
      b.state = .active && (chargeSecond b).state = .budgetSpent).map fun b =>
    Event.budgetSpent b.rack b.node b.channel
  postAll events (moveRecords chargeSecond s)

/-! ## Echo and node events (R78 to R80) -/

/-- The echo check of an accepted sample reply of a CELL node against the mask last handed (R78). -/
def echoCheck (node : Nat) (applied commanded : CellMask) (s : State) : State :=
  let s1 := mapRecords
    (fun b => if b.node = node then { b with echoed := applied.getLsbD b.channel } else b) s
  match s1.balanceNode node with
  | none => s1
  | some n =>
    if n.fault then s1
    else if applied = commanded then mapBalanceNode node ({ · with mismatches := 0 }) s1
    else
      let count := countUp 3 n.mismatches
      if count = 3 then
        handMask node (suspendRecords node
          (mapBalanceNode node ({ · with mismatches := 3, fault := true }) s1))
      else mapBalanceNode node ({ · with mismatches := count }) s1

/-- The cool-down time of an entry's rack, in seconds: the RACK table's, or a value the manual does not
state while none is active. -/
def State.coolDownTime (s : State) (e : SlotEntry) : Nat :=
  match e.rackOf.bind s.rackEntry with
  | some x => x.coolDown
  | none => Config.coolDownUnloaded

/-- BLEED_HOT from a CELL node: its cool-down timer runs from full, and it is suspended with its mask
emptied (R79). -/
def bleedHot (e : SlotEntry) (s : State) : State :=
  handMask e.node (suspendRecords e.node
    (mapBalanceNode e.node ({ · with coolDown := some ⟨s.now, s.coolDownTime e⟩ }) s))

/-- NODE_RESTART from a CELL node (R80). -/
def balanceRestart (node : Nat) (s : State) : State :=
  let s1 := mapRecords
    (fun b => if b.node = node && b.state = .active then b.move .idle else b) s
  let s2 := mapBalanceNode node ({ · with fault := false, mismatches := 0 }) s1
  handMask node (resumeRecords node s2)

end Sys2Proof.Machine
end

