-- ==== Sys2Proof/Machine/CoolingCore.lean ====
section
/-!
DEFINITION. The cooling controller's operations (chapter 5): composing commands with their proof
timers (R86, R93), the published values (R96, R97), the cooling-loss condition (R98), the level and
the ventilation mode (R99), and the changes of part mode (R183).
-/

namespace Sys2Proof.Machine

/-! ## Commands and proofs (R86, R93) -/

/-- An output with a command and a feedback: its proof timer runs from 0 when the two come to differ
under status NORMAL, and stops when they agree (R93). -/
def OutputState.settle (now : PartTime) (x : OutputState) (command feedback : Bool) : OutputState :=
  let proof :=
    if x.status ≠ .normal || command == feedback then none
    else if x.command == command && x.feedback == feedback then
      some (x.proof.getD now)
    else some now
  { x with command := command, feedback := feedback, proof := proof }

/-- The commands of the eight outputs are composed again as a whole (R86). -/
def composeCommands (s : State) : State :=
  s.withCooling
    { s.cooling with
      outputs := s.cooling.outputs.mapWith fun o x =>
        x.settle s.now (s.composedCommand o) x.feedback }

/-! ## Published values (R96, R97) -/

/-- The cooling factor is worked out again. -/
def refreshFactor (s : State) : State :=
  s.withCooling { s.cooling with factor := s.coolingFactorNow }

/-- The heat allowance is worked out again; a value that differs is published to the balancing
scheduler, which acts on a fall at once (R76, R97). -/
def refreshAllowance (s : State) : State :=
  let a := s.allowanceNow
  if a = s.cooling.allowance then s
  else boundActive a (s.withCooling { s.cooling with allowance := a })

/-! ## Cooling loss (R98) -/

/-- The cooling-loss condition at a control temperature. -/
def State.coolingLossHolds (s : State) (t : Int) : Bool :=
  match s.cool with
  | some h =>
    decide ((s.cooling.outputs.get .pump).status = .failed) && decide (h.pumpLossTrip ≤ t)
  | none => false

/-- The cooling-loss condition has been seen to end. -/
def State.coolingLossEnded (s : State) : Bool :=
  decide ((s.cooling.outputs.get .pump).status ≠ .failed) ||
    match s.cool, s.hottest with
    | some h, some t => decide (t < h.pumpLossTrip)
    | _, _ => false

/-- The cooling-loss condition is judged (R98). -/
def judgeCoolingLoss (s : State) : State :=
  if s.coolingLossEnded then s.withCooling { s.cooling with lossMark := false }
  else match s.hottest with
    | some t =>
      if s.coolingLossHolds t && !s.cooling.lossMark then
        takeCause .coolingLoss none (.coolingLoss t)
          (s.withCooling { s.cooling with lossMark := true })
      else s
    | none => s

/-- What follows a change of the pump's status: the cooling-loss condition and the COOLING_LOSS latch
are judged (R98, R155). DEDUCED (log entry 83): the fresh cause after a COOLING_FAULT_CLEAR is sent at
the status change back to FAILED as R94 and R98 say, though R155 names the next control interval. -/
def pumpChanged (s : State) : State := judgeContainerLatch .coolingLoss (judgeCoolingLoss s)

/-- What follows a change of statuses: commands, factor and allowance, and for the pump what follows
its change (R94 to R98). -/
def statusesChanged (pump : Bool) (s : State) : State :=
  let s1 := refreshAllowance (refreshFactor (composeCommands s))
  if pump then pumpChanged s1 else s1

/-- A proof timer of an output expires (R93). DESIGN CHOICE (log entry 55): COOLING_OUTPUT carries the
command as it stood at the expiry, before a FAILED status takes it off. -/
def expireProof (o : Output) (s : State) : State :=
  let x := s.cooling.outputs.get o
  let status : OutputStatus := if x.command then .failed else .stuckOn
  statusesChanged (decide (o = .pump))
    (post (.coolingOutput o status x.command x.feedback)
      (s.setOutput o { x with status := status, proof := none }))

/-! ## Level, heater demand and ventilation -/

/-- The level changes, with its entry time (R89, R90). -/
def setLevel (k : Nat) (s : State) : State :=
  refreshAllowance (composeCommands
    (s.withCooling { s.cooling with level := k, levelSince := s.now }))

/-- The heater demand (R92). -/
def setHeaterDemand (on : Bool) (s : State) : State :=
  if s.cooling.heaterDemand = on then s
  else composeCommands (s.withCooling { s.cooling with heaterDemand := on })

/-- The ventilation mode is resolved from the fire stage and gas state as they stand (R99). -/
def resolveVentilation (s : State) : State :=
  let v := ventilationFor s.fire.stage s.fire.gas
  if s.cooling.ventilation = v then s
  else produceContainerSummary (refreshAllowance (composeCommands
    (s.withCooling { s.cooling with ventilation := v })))

/-- The blind hold timer expires (R91, R92). DESIGN CHOICE (log entry 56): the level's entry time starts
anew also where the present level already is the fallback level. -/
def expireBlindHold (s : State) : State :=
  let before := s.cooling.level
  let fallback := match s.cool with
    | some h => h.fallback
    | none => 0
  let s1 := s.withCooling { s.cooling with blind := .fallback, blindHold := none }
  let s2 := if s1.site.mode = .standby then s1 else setLevel fallback s1
  let s3 := setHeaterDemand false s2
  post (.coolingFallback before s3.cooling.level) s3

/-! ## Part modes (R183) -/

/-- The ring controller at a change of mode: leaving STANDBY for RUN moves the end of a stretched cycle
to its start plus the unstretched length (R2). -/
def ringModeChange (before after : Mode) (s : State) : State :=
  match s.slotHeader with
  | some h =>
    if before = .standby && after = .run then
      s.withRing { s.ring with cycleLength := h.cycleLength }
    else s
  | none => s

/-- The balancing scheduler at a change of mode: RUN left for STANDBY ends every ACTIVE record (R82). -/
def balanceModeChange (before after : Mode) (s : State) : State :=
  if before = .run && after = .standby then endActive (fun _ => true) s else s

/-- The cooling controller at a change of mode: STANDBY takes the level to 0 (R101). -/
def coolingModeChange (after : Mode) (s : State) : State :=
  if after = .standby then setLevel 0 s else s

/-- The part mode changes: MODE_CHANGE is posted, a container summary produced and the change handed
to the blocks, in no order among them (R183). -/
def changeMode (after : Mode) (cause : ModeCause) (s : State) : State :=
  let before := s.site.mode
  if before = after then s
  else
    inAnyOrder
      [post (.modeChange before after s.site.autonomous cause), produceContainerSummary,
        ringModeChange before after, balanceModeChange before after, coolingModeChange after]
      (s.withSite { s.site with mode := after })

/-- An alarm or a climb to WARN takes the part from STANDBY to RUN (R183). -/
def leaveStandby (cause : ModeCause) (s : State) : State :=
  if s.site.mode = .standby then changeMode .run cause s else s

end Sys2Proof.Machine
end

