-- ==== Sys2Proof/Machine/FireCore.lean ====
section
/-!
DEFINITION. The fire and gas unit's operations (chapter 6): the fire stage with its horn, countdown
and release (R110 to R115), taking a line class with its latch (R104 to R108), and the gas channels
and gas state (R116, R117).
-/

namespace Sys2Proof.Machine

/-! ## The fire stage (R110, R112, R113) -/

/-- What the trip unit does at a change of fire stage (R112). -/
def tripAtStage (before after : FireStage) (cause : StageCause) (s : State) : State :=
  let entered := (before = .normal || before = .preAlarm) && (after = .alarm || after = .countdown)
  judgeContainerLatch .fire
    (if entered then takeCause .fire none (.fire after cause) s else s)

/-- What the site link interface does at a change of fire stage (R112). -/
def siteAtStage (before after : FireStage) (cause : StageCause) (s : State) : State :=
  let s1 := produceContainerSummary (post (.fireStage before after cause) s)
  if before = .normal then leaveStandby .fireStage s1 else s1

/-- A change of fire stage is handed at once to the seven blocks, in no order among them (R112). -/
def handStage (before after : FireStage) (cause : StageCause) (s : State) : State :=
  inAnyOrder
    [fun x => refreshAllowance (resolveVentilation x),
      fun x => if before = .normal then endActive (fun _ => true) x else x,
      workOutContainer,
      fun x => if before = .normal then withdrawConnects x else x,
      tripAtStage before after cause,
      judgePermit,
      siteAtStage before after cause] s

/-- The horn at the entry to a stage (R113). -/
def hornAt : FireStage → Bool
  | .normal => false
  | .preAlarm => true
  | .alarm => true
  | .countdown => true
  | .released => true

/-- The unit's own state at the entry to a stage: the horn, the countdown loaded at the entry to
COUNTDOWN and cleared on leaving it (R111, R114), and the release begun at the entry to RELEASED
(R115). DESIGN CHOICE (log entry 78): an entry that finds an earlier release's watch still AWAITING starts
the one watch again from 0, and the earlier one has no outcome. -/
def enterStage (after : FireStage) (s : State) : State :=
  let held := decide (after = .countdown) && s.abortActive
  let running := decide (after = .countdown) && !held
  let base : Fire :=
    { s.fire with
      stage := after
      horn := hornAt after
      hornSince := s.now
      held := held
      countdown := if running then some s.now else none }
  s.withFire
    (if after = .released then
      { base with
        release := true
        pulse := some s.now
        watch := if s.feedbackActive then .confirmed else .awaiting
        watchSince := if s.feedbackActive then none else some s.now }
    else base)

/-- The fire stage changes (R110, R112). -/
def moveStage (after : FireStage) (cause : StageCause) (s : State) : State :=
  let before := s.fire.stage
  if before = after then s else handStage before after cause (enterStage after s)

/-- The countdown expires: the release begins (R114). -/
def expireCountdown (s : State) : State := moveStage .released .countdownExpiry s

/-- A running countdown that has reached its time at this moment: a time of 0 expires at its start
(R114). -/
def countdownAtOnce (s : State) : State :=
  if s.fire.stage = .countdown && s.fire.countdown.isSome && decide (s.fireRecord.countdown = 0) then
    expireCountdown s
  else s

/-- What takes a quiet stage to PRE_ALARM: a SMOKE latch or the gas state (R110). -/
def State.preAlarmCauses (s : State) : List StageCause :=
  (s.latchedOfKind .smoke).map StageCause.line ++
    if s.fire.gas.raised then [.gas s.fire.gas] else []

/-- A stage entered for one of several conditions that hold: which one is named is a free choice. -/
def moveStageFor (after : FireStage) (causes : List StageCause) (s : State) : State :=
  match pickFree causes s with
  | (some c, s1) => moveStage after c s1
  | (none, s1) => s1

/-- The stage entered by a confirmation (R110). -/
def State.confirmedStage (s : State) : FireStage :=
  if s.fireRecord.releaseEnabled then .countdown else .alarm

/-- The fire stage is judged: the first row of R110 that applies. DESIGN CHOICE (log entry 58): the move
from PRE_ALARM to NORMAL, for which R110 lists no condition to carry, names the model's own `quiet`,
also where the fall of the gas state brought it about. -/
def judgeStage (s : State) : State :=
  match s.fire.stage with
  | .normal =>
    if s.confirmed then countdownAtOnce (moveStageFor s.confirmedStage s.confirmations s)
    else if !s.preAlarmCauses.isEmpty then moveStageFor .preAlarm s.preAlarmCauses s
    else s
  | .preAlarm =>
    if s.confirmed then countdownAtOnce (moveStageFor s.confirmedStage s.confirmations s)
    else if s.latchedLines.isEmpty && decide (s.fire.gas = .clear) then moveStage .normal .quiet s
    else s
  | .alarm => s
  | .countdown => s
  | .released => s

/-! ## Abort and feedback (R114, R115) -/

/-- The hold of a countdown follows the ABORT lines (R114). -/
def judgeHold (s : State) : State :=
  if s.fire.stage ≠ .countdown then s
  else if s.abortActive then s.withFire { s.fire with held := true, countdown := none }
  else if s.fire.held then
    countdownAtOnce (s.withFire { s.fire with held := false, countdown := some s.now })
  else s

/-- An AGENT_FEEDBACK line became ACTIVE (R115). -/
def feedbackHeard (s : State) : State :=
  if s.fire.watch = .awaiting then
    s.withFire { s.fire with watch := .confirmed, watchSince := none }
  else s

/-- The feedback watch ends without a confirmation (R115). -/
def expireWatch (s : State) : State :=
  let lines := Line.all.filter fun l => (s.lineSettings l).kind = .agentFeedback
  let classes := lines.map fun l => (l, (s.fire.lines.get l).taken)
  post (.releaseUnconfirmed classes)
    (s.withFire { s.fire with watch := .unconfirmed, watchSince := none })

/-! ## Lines and latches (R104 to R108) -/

/-- A taken class faults a line whose kind is not UNUSED (R106). -/
def classFaults (kind : LineKind) (c : LineClass) : Bool :=
  decide (kind ≠ .unused) && (c = .opened || c = .short)

/-- A line whose reading changes (R104). -/
def LineState.read (now : PartTime) (x : LineState) (reading : LineClass) : LineState :=
  let candidate : Option Candidate :=
    if reading = x.taken then none
    else match x.candidate with
      | some c => if c.reading = reading then some c else some ⟨reading, now⟩
      | none => some ⟨reading, now⟩
  { x with reading := reading, candidate := candidate }

/-- A line that takes a class (R104, R106, R107, R108). -/
def LineState.take (x : LineState) (cfg : LineSettings) (c : LineClass) : LineState :=
  let sets := cfg.kind.latching && decide (c = .active)
  let clears := x.latch && x.acknowledged && !cfg.pulseMode && decide (c = .normal)
  { x with
    taken := c
    candidate := none
    faulted := classFaults cfg.kind c
    latch := if sets then true else if clears then false else x.latch
    acknowledged := if sets || clears then false else x.acknowledged }

/-- The candidate of a line becomes its taken class. -/
def takeClass (l : Line) (c : LineClass) (s : State) : State :=
  let before := s.fire.lines.get l
  let cfg := s.lineSettings l
  let after := before.take cfg c
  let s1 := s.setLine l after
  let s2 :=
    if cfg.kind = .unused then s1
    else post (.detector l cfg.kind before.taken c after.latch) s1
  let s3 := if cfg.kind = .abort then judgeHold s2 else s2
  let s4 := if cfg.kind = .agentFeedback && c = .active then feedbackHeard s3 else s3
  let sets := cfg.kind.latching && decide (c = .active)
  if sets || before.latch != after.latch || before.faulted != after.faulted then judgeStage s4
  else s4

/-- The debounce of a line has reached its time (R104). -/
def State.debounceIsDue (s : State) (l : Line) : Bool :=
  match (s.fire.lines.get l).candidate with
  | some c => reached s.now c.since (s.lineSettings l).debounce
  | none => false

/-- The debounce of a line expires: its candidate is taken. -/
def debounceDue (l : Line) (s : State) : State :=
  match (s.fire.lines.get l).candidate with
  | some c => if s.debounceIsDue l then takeClass l c.reading s else s
  | none => s

/-- A latch clears at FIRE_ACK: DETECTOR is posted with the latch clear, and the stage judged. -/
def clearLineLatch (l : Line) (s : State) : State :=
  let x := s.fire.lines.get l
  judgeStage
    (post (.detector l (s.lineSettings l).kind x.taken x.taken false)
      (s.setLine l { x with latch := false, acknowledged := false }))

/-- A set latch clears at an acknowledgement taken now (R108). -/
def State.clearsAtAck (s : State) (l : Line) : Bool :=
  (s.lineSettings l).pulseMode || decide ((s.fire.lines.get l).taken = .normal)

/-- FIRE_ACK (R108). -/
def answerFireAck (s : State) : Answer :=
  let acked := s.latchedLines
  if acked.isEmpty then ⟨s, .already, .nothing⟩
  else
    let cleared := acked.filter s.clearsAtAck
    let s1 := acked.foldl
      (fun acc l => acc.setLine l { acc.fire.lines.get l with acknowledged := true }) s
    ⟨cleared.foldl (fun acc l => clearLineLatch l acc) s1, .ok, .fireAck acked cleared⟩

/-- FIRE_RESET (R111). -/
def answerFireReset (s : State) : Answer :=
  let latched := s.latchedLines
  let reset : Answer :=
    ⟨moveStage (if s.fire.gas.raised then .preAlarm else .normal) .fireReset s, .ok, .nothing⟩
  match s.fire.stage with
  | .normal => ⟨s, .already, .nothing⟩
  | .preAlarm => ⟨s, .already, .nothing⟩
  | .alarm => if latched.isEmpty then reset else ⟨s, .fireActive, .fireActive latched false⟩
  | .countdown => if latched.isEmpty then reset else ⟨s, .fireActive, .fireActive latched false⟩
  | .released =>
    if latched.isEmpty && s.fire.pulse.isNone then reset
    else ⟨s, .fireActive, .fireActive latched s.fire.pulse.isSome⟩

/-! ## Gas (R116, R117) -/

/-- A channel that has climbed or fallen to a level. -/
def GasChannelState.settleAt (x : GasChannelState) (level : GasLevel) : GasChannelState :=
  { x with level := level, setCount := 0, target := .pre, releaseCount := 0 }

/-- The level a run target names. -/
def GasTarget.level : GasTarget → GasLevel
  | .pre => .pre
  | .alarm => .alarm

/-- One judged sample on a channel at CLEAR. -/
def gasAtClear (g : GasLimits) (v : Int) (x : GasChannelState) : GasChannelState :=
  if v < g.preSet then { x with setCount := 0 }
  else
    let n := x.setCount + 1
    let target : GasTarget :=
      if g.alarmSet ≤ v then (if x.setCount = 0 then .alarm else x.target) else .pre
    if g.setPersistence ≤ n then x.settleAt target.level
    else { x with setCount := n, target := target }

/-- One judged sample on a channel at PRE. -/
def gasAtPre (g : GasLimits) (v : Int) (x : GasChannelState) : GasChannelState :=
  if g.alarmSet ≤ v then
    if g.setPersistence ≤ x.setCount + 1 then x.settleAt .alarm
    else { x with setCount := x.setCount + 1, releaseCount := 0 }
  else if v ≤ g.preRelease then
    if g.releasePersistence ≤ x.releaseCount + 1 then x.settleAt .clear
    else { x with setCount := 0, releaseCount := x.releaseCount + 1 }
  else { x with setCount := 0, releaseCount := 0 }

/-- One judged sample on a channel at ALARM. -/
def gasAtAlarm (g : GasLimits) (v : Int) (x : GasChannelState) : GasChannelState :=
  if v ≤ g.alarmRelease then
    if g.releasePersistence ≤ x.releaseCount + 1 then
      x.settleAt (if v ≤ g.preRelease then .clear else .pre)
    else { x with releaseCount := x.releaseCount + 1 }
  else { x with releaseCount := 0 }

/-- A judged sample moves a channel (R116). -/
def GasChannelState.judge (g : GasLimits) (v : Int) (stamp : PartTime) (x : GasChannelState) :
    GasChannelState :=
  let kept := { x with lastStamp := some stamp }
  match x.level with
  | .clear => gasAtClear g v kept
  | .pre => gasAtPre g v kept
  | .alarm => gasAtAlarm g v kept

/-- The gas state of the two channel levels (R117). -/
def gasStateOf (h2 co : GasLevel) : GasState :=
  if h2 = .alarm || co = .alarm then .gasAlarm
  else if h2 = .pre || co = .pre then .gasPre
  else .clear

/-- A change of gas state is handed at once, in no order among the blocks (R117). -/
def handGas (before after : GasState) (channel : GasChannel) (v : Int) (stamp : PartTime)
    (s : State) : State :=
  inAnyOrder
    [resolveVentilation,
      fun x => if before = .clear then endActive (fun _ => true) x else x,
      fun x => if before = .clear then withdrawConnects x else x,
      fun x => judgeContainerLatch .gas
        (if after = .gasAlarm then takeCause .gas none (.gas channel v stamp) x else x),
      fun x => let y := produceContainerSummary x
        if before = .clear then leaveStandby .gasState y else y] s

/-- The gas state is worked out again after a channel's judgement (R117). -/
def gasChanged (channel : GasChannel) (v : Int) (stamp : PartTime) (s : State) : State :=
  let before := s.fire.gas
  let after := gasStateOf s.fire.h2.level s.fire.co.level
  if before = after then s
  else
    handGas before after channel v stamp
      (judgeStage (post (.gasState before after channel v stamp)
        (s.withFire { s.fire with gas := after })))

/-- The value and stamp a gas record gives for judgement, when it is to be judged (R116). -/
def State.gasSample (s : State) (node channel : Nat) (last : Option PartTime) :
    Option (Int × PartTime) :=
  if s.nodeStale node then none
  else match s.record node channel with
    | some r =>
      match r.freshValue, r.stamp with
      | some v, some t =>
        if last = some t then none
        else some (if r.quality = .range then 10000 else v, t)
      | _, _ => none
    | none => none

/-- The H2 channel is judged at a plant notice. -/
def judgeH2 (node : Nat) (s : State) : State :=
  match s.gasSample node 3 s.fire.h2.lastStamp with
  | some (v, t) =>
    gasChanged .h2 v t (s.withFire { s.fire with h2 := s.fire.h2.judge s.fireRecord.h2 v t })
  | none => s

/-- The CO channel is judged at a plant notice. -/
def judgeCo (node : Nat) (s : State) : State :=
  match s.gasSample node 4 s.fire.co.lastStamp with
  | some (v, t) =>
    gasChanged .co v t (s.withFire { s.fire with co := s.fire.co.judge s.fireRecord.co v t })
  | none => s

/-- GAS_FAULT is worked out (R117). -/
def refreshGasFault (s : State) : State :=
  s.withFire { s.fire with gasFault := s.gasFaultCondition }

/-- A plant notice for the plant node (R43, R116, R117). -/
def plantNotice (node : Nat) (s : State) : State :=
  inAnyOrder [judgeH2 node, judgeCo node] (refreshGasFault s)

/-! ## The FIRE swap (R119) -/

/-- One line at a FIRE swap: its faulted mark from the new kind, and its latch set when its kind becomes
a latching one while its taken class is ACTIVE. -/
def LineState.swap (x : LineState) (old new : LineSettings) : LineState :=
  let sets := !old.kind.latching && new.kind.latching && decide (x.taken = .active)
  { x with
    faulted := classFaults new.kind x.taken
    latch := x.latch || sets
    acknowledged := x.acknowledged && !sets }

/-- What the fire and gas unit does when the FIRE table has swapped (R119); `old` gives the settings that
were in force before. DESIGN CHOICE (log entry 59): a watch that is AWAITING is not judged at the swap,
and a line that the swap makes AGENT_FEEDBACK while its taken class is ACTIVE does not confirm it. -/
def fireSwapped (old : Line → LineSettings) (s : State) : State :=
  let s1 := s.withFire
    { s.fire with
      lines := s.fire.lines.mapWith fun l x => x.swap (old l) (s.lineSettings l)
      h2 := { s.fire.h2 with setCount := 0, releaseCount := 0 }
      co := { s.fire.co with setCount := 0, releaseCount := 0 } }
  let due := Line.all.filter s1.debounceIsDue
  judgeStage (inAnyOrder (due.map debounceDue) s1)

/-- The fire and gas unit at any reset (R122): readings are kept, and a line whose reading is not
NORMAL starts its debounce. GAS_FAULT is worked out at the end of the reset. -/
def Fire.afterReset (now : PartTime) (x : Fire) : Fire :=
  { Fire.initial with
    lines := x.lines.mapWith fun _ l => { LineState.initial with }.read now l.reading }

end Sys2Proof.Machine
end

