-- ==== Sys2Proof/Machine/SampleCore.lean ====
section
/-!
DEFINITION. The sample processor's operations (chapter 2): limit levels (R33 to R37), filing codes
(R30), node events (R31), staleness (R26), BLIND (R42), aggregates and MISMATCH (R40, R41), trace
reports (R46), and the records of a SLOT table (R23, R24, R48).
-/

namespace Sys2Proof.Machine

/-! ## One side of a record (R34 to R36) -/

/-- The level a run target names. -/
def RunTarget.level : RunTarget → Level
  | .warn => .warn
  | .trip => .trip

/-- A value is beyond the trip set threshold; a UT side has none. -/
def SideLimits.tripsAt (l : SideLimits) (side : LevelSide) (v : Int) : Bool :=
  match l.trip with
  | some (set, _) => beyond side v set
  | none => false

/-- A value is inside the trip release threshold. -/
def SideLimits.tripReleasesAt (l : SideLimits) (side : LevelSide) (v : Int) : Bool :=
  match l.trip with
  | some (_, release) => inside side v release
  | none => false

/-- A side that has climbed or fallen to a level: both counts become 0. -/
def SideState.settleAt (x : SideState) (level : Level) : SideState :=
  { x with level := level, setCount := 0, releaseCount := 0, acknowledged := false }

/-- The level a side falls to from TRIP (R36). -/
def SideLimits.fallLevel (l : SideLimits) (side : LevelSide) (v : Int) : Level :=
  if inside side v l.warnRelease then .normal else .warn

/-- A fresh sample on a side at NORMAL (R34). -/
def sideAtNormal (set : LimitSet) (side : LevelSide) (v : Int) (x : SideState) : SideState :=
  let l := set.side side
  if beyond side v l.warnSet then
    let n := x.setCount + 1
    let target : RunTarget :=
      if l.tripsAt side v then (if x.setCount = 0 then .trip else x.target) else .warn
    let run := { x with setCount := n, target := target }
    if set.setPersistence ≤ n then run.settleAt target.level else run
  else { x with setCount := 0 }

/-- A fresh sample on a side at WARN (R35). -/
def sideAtWarn (set : LimitSet) (side : LevelSide) (v : Int) (x : SideState) : SideState :=
  let l := set.side side
  if l.tripsAt side v then
    if set.setPersistence ≤ x.setCount + 1 then x.settleAt .trip
    else { x with setCount := x.setCount + 1, releaseCount := 0 }
  else if inside side v l.warnRelease then
    if set.releasePersistence ≤ x.releaseCount + 1 then x.settleAt .normal
    else { x with setCount := 0, releaseCount := x.releaseCount + 1 }
  else { x with setCount := 0, releaseCount := 0 }

/-- A fresh sample on a side at TRIP (R36). -/
def sideAtTripLevel (set : LimitSet) (side : LevelSide) (v : Int) (x : SideState) : SideState :=
  let l := set.side side
  if l.tripReleasesAt side v then
    let n := countUp set.releasePersistence x.releaseCount
    if x.acknowledged && decide (set.releasePersistence ≤ n) then x.settleAt (l.fallLevel side v)
    else { x with releaseCount := n }
  else { x with releaseCount := 0 }

/-- A fresh sample judged on a side. -/
def SideState.judge (set : LimitSet) (side : LevelSide) (v : Int) (x : SideState) : SideState :=
  match x.level with
  | .normal => sideAtNormal set side v x
  | .warn => sideAtWarn set side v x
  | .trip => sideAtTripLevel set side v x

/-- The acknowledgement of a side by CLEAR_TRIP (R36); `set` is absent while no limit set judges the
rack's samples, and the release persistence then has nothing to stand against. -/
def SideState.acknowledge (set : Option LimitSet) (side : LevelSide) (v : Option Int)
    (x : SideState) : SideState :=
  if x.level = .trip then
    let acked := { x with acknowledged := true }
    match set, v with
    | some l, some value =>
      if l.releasePersistence ≤ x.releaseCount then
        acked.settleAt ((l.side side).fallLevel side value)
      else acked
    | _, _ => acked
  else x

/-! ## Records -/

/-- The high and the low side a record kind is judged on. -/
def RecordKind.highSide : RecordKind → LevelSide
  | .cellTemperature => .ot
  | .cellVoltage => .ov
  | .junction => .ov
  | .plant => .ov

def RecordKind.lowSide : RecordKind → LevelSide
  | .cellTemperature => .ut
  | .cellVoltage => .uv
  | .junction => .uv
  | .plant => .uv

/-- The trip kind of a climb to TRIP on a side; UT has none (R37). -/
def LevelSide.tripKind : LevelSide → Option TripKind
  | .ov => some .cellOv
  | .uv => some .cellUv
  | .ot => some .cellOt
  | .ut => none

def mapRecord (node channel : Nat) (f : Record → Record) (s : State) : State :=
  s.withSamples
    { s.samples with
      records := s.samples.records.map fun r =>
        if r.node = node && r.channel = channel then f r else r }

def mapSampleNode (node : Nat) (f : SampleNode → SampleNode) (s : State) : State :=
  s.withSamples
    { s.samples with nodes := s.samples.nodes.map fun n => if n.node = node then f n else n }

/-! ## BLIND (R42) -/

/-- BLIND of a rack is worked out again: its blind timer starts when BLIND begins, while the rack's
RACK entry is enabled, and is stopped and cleared when BLIND ends. -/
def refreshBlind (r : Rack) (s : State) : State :=
  let x := s.samples.racks.get r
  let now := s.blindCondition r
  if now = x.blind then s
  else s.setRackSamples r
    { x with
      blind := now
      blindTimer := if now && s.rackEnabled r then .running s.now else .stopped }

/-- BLIND of the rack a node serves, if it serves one. -/
def refreshBlindOf (r : Option Rack) (s : State) : State :=
  match r with
  | some x => refreshBlind x s
  | none => s

/-- The blind timer of a rack has reached its time: the cause BLIND is sent, and the timer stands at
its full value. -/
def expireBlind (r : Rack) (blindTime : Nat) (s : State) : State :=
  let x := s.samples.racks.get r
  takeCause .blind (some r) (.blind x.aggregates.staleCount x.aggregates.invalidCount)
    (s.setRackSamples r { x with blindTimer := .full (blindTime * 1000) })

/-- The blind timer of a rack has reached the blind time in force. -/
def State.blindIsDue (s : State) (r : Rack) : Bool :=
  match s.rackConfig r with
  | some e => (s.samples.racks.get r).blindTimer.due s.now (e.blindTime * 1000)
  | none => false

/-- The blind time in force, in seconds (0 while no enabled RACK entry gives one). -/
def State.blindTime (s : State) (r : Rack) : Nat :=
  match s.rackConfig r with
  | some e => e.blindTime
  | none => 0

/-- The blind timer is judged against the blind time in force. -/
def blindDue (r : Rack) (s : State) : State :=
  if s.blindIsDue r then expireBlind r (s.blindTime r) s else s

/-! ## Level changes (R37) -/

/-- What follows a change of level: the event, and the trip cause or the hand-over to the site link
interface, in no order among them. -/
def levelChanged (rec_ : Record) (side : LevelSide) (before after : Level) (s : State) : State :=
  let event := Event.limitState rec_.rack rec_.node rec_.channel side before after rec_.value
    rec_.stamp
  let climbs : List (State → State) :=
    match after with
    | .trip =>
      match side.tripKind, rec_.value, rec_.stamp with
      | some k, some v, some t => [takeCause k rec_.rack (.cell rec_.node rec_.channel v t)]
      | _, _, _ => []
    | .warn => if before = .normal then [leaveStandby .warn] else []
    | .normal => []
  inAnyOrder (post event :: climbs) s

/-- The change of one side between two states of a record. -/
def sideChange (rec_ : Record) (side : LevelSide) (before after : Option SideState) (s : State) :
    State :=
  match before, after with
  | some x, some y => if x.level = y.level then s else levelChanged rec_ side x.level y.level s
  | _, _ => s

/-- A record takes new sides, and its changes of level are announced. -/
def announceSides (before after : Record) (s : State) : State :=
  sideChange after after.kind.lowSide before.low after.low
    (sideChange after after.kind.highSide before.high after.high s)

/-! ## Filing a code (R30) -/

/-- A value taken into a record. -/
def Record.file (r : Record) (v : Int) (range : Bool) (stamp : PartTime) : Record :=
  { r with
    value := some v
    stamp := some stamp
    quality := if range then .range else .fresh
    minimum := some (match r.minimum with
      | some m => min m v
      | none => v)
    maximum := some (match r.maximum with
      | some m => max m v
      | none => v) }

/-- A record's sides after a fresh value, judged against a limit set. -/
def Record.judged (set : LimitSet) (r : Record) : Record :=
  match r.value with
  | some v =>
    { r with
      high := r.high.map (SideState.judge set r.kind.highSide v)
      low := r.low.map (SideState.judge set r.kind.lowSide v) }
  | none => r

/-- The limit set of the rack of a record, if one judges it. -/
def State.limitSetOf (s : State) (r : Record) : Option LimitSet := r.rack.bind s.limitSet

/-- A valid converted code is taken into a record, BLIND is worked out again, and the value is judged
against the record's levels. -/
def fileValue (before : Record) (v : Int) (range : Bool) (stamp : PartTime) (s : State) : State :=
  let filed := before.file v range stamp
  let after := match s.limitSetOf before with
    | some set => filed.judged set
    | none => filed
  announceSides before after
    (refreshBlindOf before.rack (mapRecord before.node before.channel (fun _ => after) s))

/-- A record becomes INVALID, its contents held. -/
def invalidate (rec_ : Record) (s : State) : State :=
  refreshBlindOf rec_.rack
    (mapRecord rec_.node rec_.channel ({ · with quality := .invalid }) s)

/-- The sense-open mark of a node's channel. -/
def State.senseOpen (s : State) (node channel : Nat) : Bool :=
  match s.sampleNode node with
  | some n => n.senseOpen.getLsbD channel
  | none => false

/-- One code of a taken reply (R25, R30). -/
def fileCode (e : SlotEntry) (stamp : PartTime) (channel : Nat) (code : Code) (s : State) : State :=
  match s.record e.node channel with
  | none => s
  | some r =>
    match s.convert e channel code with
    | .inactive => s
    | .invalid => invalidate r s
    | .value v range =>
      if s.senseOpen e.node channel then s else fileValue r v range stamp s

/-! ## Node events (R31) -/

/-- SENSE_OPEN on a channel of a node: the mark is set and the record becomes INVALID; while the mark
stands a further one changes nothing. -/
def senseOpened (e : SlotEntry) (channel : Nat) (s : State) : State :=
  if s.senseOpen e.node channel then s
  else
    let s1 := mapSampleNode e.node
      (fun n => { n with senseOpen := n.senseOpen ||| (1#20 <<< channel) }) s
    match s1.record e.node channel with
    | some r => invalidate r s1
    | none => s1

/-- NODE_FAULT of a node. -/
def nodeFaulted (node : Nat) (s : State) : State :=
  mapSampleNode node ({ · with faulted := true }) s

/-- NODE_RESTART of a node, in the sample processor. -/
def sampleRestart (node : Nat) (s : State) : State :=
  mapSampleNode node ({ · with faulted := false, senseOpen := 0#20 }) s

/-! ## Slot outcomes (R25, R26) -/

/-- The outcome of a slot as the ring controller hands it. -/
inductive SlotOutcome
  | sample (codes : List (Nat × Code)) (stamp : PartTime)
  | servedFaulted
  | miss
  deriving DecidableEq, Repr

/-- The codes of the outcome are taken, or the node's empty-slot count rises (R25). -/
def takeCodes (e : SlotEntry) (outcome : SlotOutcome) (s : State) : State :=
  let emptied := mapSampleNode e.node
    (fun n => { n with emptySlots := countUp 255 n.emptySlots }) s
  match outcome with
  | .sample codes stamp =>
    match s.sampleNode e.node with
    | some n =>
      if n.faulted then emptied
      else
        let s1 := mapSampleNode e.node ({ · with emptySlots := 0 }) s
        let s2 := match e.nodeKind, e.rackOf with
          | .junction, some r =>
            s1.setRackSamples r { s1.samples.racks.get r with junctionTaken := true }
          | _, _ => s1
        codes.foldl (fun acc c => fileCode e stamp c.1 c.2 acc) s2
    | none => s
  | .servedFaulted => emptied
  | .miss => emptied

/-- The node is checked for staleness after the outcome (R26). -/
def checkStale (e : SlotEntry) (link : LinkState) (s : State) : State :=
  let threshold := match s.slotHeader with
    | some h => h.staleThreshold
    | none => 0
  let empties := match s.sampleNode e.node with
    | some n => n.emptySlots
    | none => 0
  let stale := decide (link = .stale) || decide (threshold ≤ empties)
  let s1 := mapSampleNode e.node ({ · with countsStale := stale }) s
  let s2 :=
    if stale then
      s1.withSamples
        { s1.samples with
          records := s1.samples.records.map fun r =>
            if r.node = e.node && r.quality.isFresh then { r with quality := .stale } else r }
    else s1
  refreshBlindOf e.rackOf s2

/-! ## Trace reports (R45, R46) -/

/-- The index of a channel in the trace table (R45). -/
def traceIndex (node channel : Nat) : Nat := (node % 32) ^^^ ((2 * channel) % 32)

/-- The trace entry that holds a node and channel. -/
def State.traced (s : State) (node channel : Nat) : Option TraceEntry :=
  match s.samples.trace[traceIndex node channel]? with
  | some (some e) => if e.node = node && e.channel = channel then some e else none
  | _ => none

def setTrace (index : Nat) (x : Option TraceEntry) (s : State) : State :=
  s.withSamples { s.samples with trace := s.samples.trace.set index x }

/-- The converted value a trace report carries, absent where the code was not converted. -/
def State.traceValue (s : State) (e : SlotEntry) (channel : Nat) (code : Code) : Option Int :=
  match s.sampleNode e.node with
  | some n =>
    if n.faulted then none
    else match s.convert e channel code with
      | .value v _ => some v
      | .invalid => none
      | .inactive => none
  | none => none

/-- The report of one code, if its channel is traced. -/
def traceCode (e : SlotEntry) (stamp : PartTime) (channel : Nat) (code : Code) (s : State) :
    State :=
  match s.traced e.node channel with
  | none => s
  | some t =>
    let s1 := queueTrace ⟨e.node, channel, code, s.traceValue e channel code, stamp⟩ s
    let index := traceIndex e.node channel
    if t.remaining = 0 then s1
    else if t.remaining = 1 then post (.traceDone e.node channel) (setTrace index none s1)
    else setTrace index (some { t with remaining := t.remaining - 1 }) s1

/-- The trace reports of an outcome (R46). -/
def traceOutcome (e : SlotEntry) (outcome : SlotOutcome) (s : State) : State :=
  match outcome with
  | .sample codes stamp => codes.foldl (fun acc c => traceCode e stamp c.1 c.2 acc) s
  | .servedFaulted => s
  | .miss => s

/-! ## Aggregates and MISMATCH (R40, R41) -/

/-- The extreme of a list of fresh records in record order: the first of equal values stands, which is
the lower node and then the lower channel. -/
def extreme (better : Int → Int → Bool) (rs : List Record) : Option AtChannel :=
  rs.foldl
    (fun best r =>
      match r.freshValue, best with
      | some v, some b => if better v b.value then some ⟨v, r.node, r.channel⟩ else some b
      | some v, none => some ⟨v, r.node, r.channel⟩
      | none, b => b) none

/-- A junction record's reading. -/
def State.reading (s : State) (r : Rack) (channel : Nat) : Option Reading :=
  (s.junctionOf r).bind fun e =>
    (s.record e.node channel).bind fun x => x.value.map fun v => ⟨v, x.quality⟩

/-- The rack aggregates of the records as they stand (R40). -/
def State.aggregatesOf (s : State) (r : Rack) : Aggregates :=
  let rs := s.rackRecords r
  let voltages := rs.filter fun x => x.kind = .cellVoltage
  let temperatures := rs.filter fun x => x.kind = .cellTemperature
  let values := voltages.filterMap Record.freshValue
  let n := values.length
  { vmax := extreme (fun a b => decide (b < a)) voltages
    vmin := extreme (fun a b => decide (a < b)) voltages
    n := n
    vsum := if n = 0 then none else some values.sum
    vmean := if n = 0 then none else some (floorDiv values.sum n)
    tmax := extreme (fun a b => decide (b < a)) temperatures
    tmin := extreme (fun a b => decide (a < b)) temperatures
    current := s.reading r 0
    rackVoltage := s.reading r 1
    busVoltage := s.reading r 2
    busbar := s.reading r 3
    staleCount := (rs.filter fun x => x.quality = .stale).length
    invalidCount := (rs.filter fun x => x.quality = .invalid).length }

/-- The difference d of a complete set (R41); none when the set is not complete. -/
def State.mismatchDifference (s : State) (r : Rack) : Option Nat :=
  let voltages := (s.rackRecords r).filter fun x => x.kind = .cellVoltage
  let rackVoltage := (s.junctionOf r).bind fun e => (s.record e.node 1).bind Record.freshValue
  if voltages.all fun x => x.quality.isFresh then
    match (s.samples.racks.get r).aggregates.vsum, rackVoltage with
    | some sum, some v => some (floorDiv sum 100 - v).natAbs
    | _, _ => none
  else none

/-- The run counts and the flag after a complete set. -/
def RackSamples.compare (x : RackSamples) (above : Bool) : RackSamples :=
  let beyondRun := if above then countUp 3 x.beyondRun else 0
  let withinRun := if above then 0 else countUp 3 x.withinRun
  { x with
    beyondRun := beyondRun
    withinRun := withinRun
    mismatch := if beyondRun = 3 then true else if withinRun = 3 then false else x.mismatch }

/-- The MISMATCH check of a rack at its set complete (R41). -/
def checkMismatch (r : Rack) (s : State) : State :=
  match s.rackConfig r, s.mismatchDifference r with
  | some e, some d =>
    refreshBlind r
      (s.setRackSamples r ((s.samples.racks.get r).compare (decide (e.mismatchLimit < d))))
  | _, _ => s

/-- What the sample processor works out at a rack set complete before it posts it (R39). -/
def prepareSet (r : Rack) (s : State) : State :=
  checkMismatch r
    (s.setRackSamples r { s.samples.racks.get r with aggregates := s.aggregatesOf r })

/-! ## The records of a SLOT table (R23, R24, R48) -/

/-- The kind of a record, by its entry and channel. -/
def SlotEntry.recordKind (e : SlotEntry) (channel : Nat) : RecordKind :=
  match e.nodeKind with
  | .cell => if channel < 16 then .cellVoltage else .cellTemperature
  | .junction => .junction
  | .plant => .plant

/-- A record of a kind has levels. -/
def RecordKind.hasLevels : RecordKind → Bool
  | .cellVoltage => true
  | .cellTemperature => true
  | .junction => false
  | .plant => false

/-- A record in its reset state (R48). -/
def SlotEntry.newRecord (e : SlotEntry) (channel : Nat) : Record :=
  let kind := e.recordKind channel
  let side : Option SideState := if kind.hasLevels then some .initial else none
  { rack := e.rackOf
    node := e.node
    channel := channel
    kind := kind
    value := none
    stamp := none
    quality := .stale
    minimum := none
    maximum := none
    high := side
    low := side }

/-- The order of entries in the record lists: rack, then node address; the PLANT node last. -/
def SlotEntry.comesBefore (a b : SlotEntry) : Bool :=
  let rank (e : SlotEntry) : Nat := match e.rackOf with
    | some r => r.number
    | none => 5
  decide (rank a < rank b) || decide (rank a = rank b) && decide (a.node < b.node)

/-- The records of a SLOT table's enabled entries, every one in its reset state. DESIGN CHOICE (log entry
60): the one list holds the voltage, cell temperature and junction records of an entry together, entry
after entry, and the PLANT node's last. -/
def recordsOf (entries : List SlotEntry) : List Record :=
  (sortBy SlotEntry.comesBefore entries).flatMap fun e => e.channels.map e.newRecord

/-- A node's state in its reset state. -/
def SampleNode.fresh (node : Nat) : SampleNode := ⟨node, 0, false, 0#20, false⟩

/-- An old record is the same as a new one when rack, node, kind and channel match (R24). -/
def Record.sameChannel (a b : Record) : Bool :=
  a.rack = b.rack && a.node = b.node && a.kind = b.kind && a.channel = b.channel

/-- Old records carried into new ones. -/
def carryRecords (old new : List Record) : List Record :=
  new.map fun r => (old.find? fun x => x.sameChannel r).getD r

/-- A node keeps its state over a swap when it stays enabled under the same kind and rack. -/
def carrySampleNodes (old : List SampleNode) (before after : List SlotEntry) : List SampleNode :=
  after.map fun e =>
    let stays := before.any fun x =>
      x.node = e.node && x.nodeKind = e.nodeKind && x.rackOf = e.rackOf
    if stays then (old.find? fun n => n.node = e.node).getD (.fresh e.node) else .fresh e.node

/-- A rack left with no enabled entry: the MISMATCH runs and flag, BLIND and the blind timer are removed
(R24), the aggregates held as last worked out (R40). -/
def RackSamples.emptied (x : RackSamples) : RackSamples :=
  { RackSamples.initial with aggregates := x.aggregates, hadSet := x.hadSet }

/-- The sample processor at a SLOT swap; `before` are the entries of the table that was active. -/
def samplesSwapped (before : List SlotEntry) (s : State) : State :=
  let entries := s.entries
  let s1 := s.withSamples
    { s.samples with
      records := carryRecords s.samples.records (recordsOf entries)
      nodes := carrySampleNodes s.samples.nodes before entries
      racks := s.samples.racks.mapWith fun r x => if s.rackHasEntry r then x else x.emptied }
  forRacks Rack.all refreshBlind s1

/-- Set count, run target and release count of a side cleared, as R38 states. -/
def SideState.cleared (x : SideState) : SideState :=
  { x with setCount := 0, target := .warn, releaseCount := 0 }

/-- The affected sides at a LIMIT swap or at a RACK swap that names another limit set (R38). -/
def clearSides (affected : Rack → Bool) (s : State) : State :=
  s.withSamples
    { s.samples with
      records := s.samples.records.map fun r =>
        match r.rack with
        | some k =>
          if affected k then
            { r with high := r.high.map .cleared, low := r.low.map .cleared }
          else r
        | none => r }

/-- The blind timer of a rack at a RACK swap (R42): stopped while its entry is not enabled, started at
the swap that enables it under BLIND, and judged against the new time while it runs. `was` says the
entry was enabled before. -/
def blindTimerSwapped (was : Rack → Bool) (r : Rack) (s : State) : State :=
  let x := s.samples.racks.get r
  if s.rackEnabled r then
    if x.blind && !was r then s.setRackSamples r { x with blindTimer := .running s.now }
    else blindDue r s
  else s.setRackSamples r { x with blindTimer := .stopped }

/-- The sample processor after a pin or command reset, or the power-on reset when no SLOT table is
active (R48): BLIND is worked out and the timers of the BLIND racks start. -/
def samplesReset (s : State) : State :=
  let entries := s.entries
  forRacks Rack.all refreshBlind
    (s.withSamples
      { Samples.initial with
        records := recordsOf entries
        nodes := entries.map fun e => .fresh e.node })

/-! ## Acknowledgement by CLEAR_TRIP (R36) -/

/-- Every side at TRIP of one record is acknowledged, and falls where its persistence stands. -/
def acknowledgeRecord (rec_ : Record) (s : State) : State :=
  let set := s.limitSetOf rec_
  let after : Record :=
    { rec_ with
      high := rec_.high.map (SideState.acknowledge set rec_.kind.highSide rec_.value)
      low := rec_.low.map (SideState.acknowledge set rec_.kind.lowSide rec_.value) }
  announceSides rec_ after (mapRecord rec_.node rec_.channel (fun _ => after) s)

/-- Every side at TRIP of a rack is acknowledged. -/
def acknowledgeSides (r : Rack) (s : State) : State :=
  (s.rackRecords r).foldl (fun acc x => acknowledgeRecord x acc) s

end Sys2Proof.Machine
end

