-- ==== Sys2Proof/Machine/LimitCore.lean ====
section
/-!
DEFINITION. The limit computer's evaluation of a rack (chapter 3): charge integration (R51, R52),
anchors (R54, R55), the rest estimate (R56, R57), the derate factors (R59 to R63), the slew of the
published limits (R64, R65), and what the swaps do to the charge state (R58).
-/

namespace Sys2Proof.Machine

/-! ## Charge integration (R51, R52) -/

/-- Q and r after `t` tenths of a mAs, saturated to 0..Qmax (R52). -/
def addCharge (qmax q : Nat) (t : Int) : Nat × Nat :=
  let moved := (q : Int) + floorDiv t 10
  if moved < 0 then (0, 0)
  else if (qmax : Int) < moved then (qmax, 0)
  else (moved.toNat, (t - 10 * floorDiv t 10).toNat)

/-- One fresh junction sample taken into the charge (R51). -/
def RackCharge.integrate (x : RackCharge) (qmax : Nat) (current : Int) (stamp : PartTime) :
    RackCharge :=
  let counted : RackCharge :=
    match x.lastStamp with
    | some last =>
      if x.quality = .unknown then x
      else
        let d := elapsed stamp last
        let dt := saturate 1 2000 d
        let (q, r) := addCharge qmax x.q (current * dt + x.r)
        { x with q := q, r := r, gap := x.gap || decide (2000 < d) }
    | none => x
  { counted with lastStamp := some stamp }

/-! ## Anchors (R54, R55) -/

/-- The top anchor's condition. -/
def topHolds (d : DerateRecord) (vmax : Option AtChannel) (i : Int) : Bool :=
  match vmax with
  | some v => decide ((d.topAnchor : Int) ≤ v.value) && decide (0 < i) &&
      decide (i ≤ d.taperCurrent)
  | none => false

/-- The bottom anchor's condition. -/
def bottomHolds (d : DerateRecord) (vmin : Option AtChannel) (i : Int) : Bool :=
  match vmin with
  | some v => decide (v.value ≤ d.bottomAnchor) && decide (-(d.taperCurrent : Int) ≤ i) &&
      decide (i ≤ 0)
  | none => false

/-- An anchor count after one evaluation, with whether the anchor is taken: when the count reaches the
persistence from below, or when a swap left it due (R54, R58). -/
def anchorCount (persistence count : Nat) (due holds : Bool) : Nat × Bool :=
  if holds then
    let n := countUp persistence count
    (min persistence n, due || (decide (count < persistence) && decide (persistence ≤ n)))
  else (0, false)

/-- The anchor counts after an evaluation, and the anchor taken. -/
def RackCharge.countAnchors (x : RackCharge) (d : DerateRecord) (agg : Aggregates) (blind : Bool)
    (fresh : Option (Int × PartTime)) : RackCharge × Option AnchorKind :=
  match fresh with
  | some (i, _) =>
    if blind then ({ x with topCount := 0, bottomCount := 0, topDue := false, bottomDue := false },
      none)
    else
      let (top, takeTop) :=
        anchorCount d.anchorPersistence x.topCount x.topDue (topHolds d agg.vmax i)
      let (bottom, takeBottom) :=
        anchorCount d.anchorPersistence x.bottomCount x.bottomDue (bottomHolds d agg.vmin i)
      ({ x with topCount := top, bottomCount := bottom, topDue := false, bottomDue := false },
        if takeTop then some .top else if takeBottom then some .bottom else none)
  | none => ({ x with topCount := 0, bottomCount := 0, topDue := false, bottomDue := false }, none)

/-- The charge after an anchor (R55): the rest in progress ends. -/
def RackCharge.anchor (x : RackCharge) (qmax : Nat) (k : AnchorKind) : RackCharge :=
  { x with
    q := if k = .top then qmax else 0
    r := 0
    quality := .known
    restStart := none }

/-- SOC_ANCHOR for a correction of a rack's charge. -/
def postAnchor (r : Rack) (k : AnchorKind) (before : RackCharge) (stamp : PartTime) (s : State) :
    State :=
  post (.socAnchor r k before.q (s.limits.racks.get r).q before.quality (s.soc r) stamp) s

/-- The anchor check of an evaluation. -/
def anchorCheck (r : Rack) (e : RackEntry) (d : DerateRecord) (fresh : Option (Int × PartTime))
    (s : State) : State :=
  let x := s.samples.racks.get r
  let (counted, taken) :=
    (s.limits.racks.get r).countAnchors d x.aggregates x.blind fresh
  match taken, fresh with
  | some k, some (_, stamp) =>
    postAnchor r k counted stamp (s.setRackCharge r (counted.anchor e.qmax k))
  | _, _ => s.setRackCharge r counted

/-! ## The rest estimate (R56, R57) -/

/-- The rest start after an evaluation in quality UNKNOWN (R56). -/
def restAfter (d : DerateRecord) (blind : Bool) (fresh : Option (Int × PartTime))
    (start : Option PartTime) : Option PartTime :=
  match fresh with
  | some (i, stamp) =>
    if blind || decide (d.restCurrent < i.natAbs) then none else some (start.getD stamp)
  | none => if blind then none else start

/-- A rest complete at a junction stamp. -/
def restComplete (d : DerateRecord) (start : Option PartTime) (stamp : PartTime) : Bool :=
  match start with
  | some t => decide (d.restTime * 1000 ≤ elapsed stamp t)
  | none => false

/-- The time a rest has lasted: the stamp of the last junction sample less the rest start (R56). DESIGN
CHOICE (log entry 75): it is 0 while no rest is in progress. -/
def RackCharge.restLasted (x : RackCharge) : Nat :=
  match x.restStart, x.lastStamp with
  | some start, some stamp => elapsed stamp start
  | _, _ => 0

/-- The estimate of R57 at a mean voltage. -/
def RackCharge.estimate (x : RackCharge) (qmax : Nat) (curve : List Breakpoint) (vmean : Int) :
    RackCharge :=
  { x with
    q := (floorDiv (curveAt vmean curve * qmax) 10000).toNat
    r := 0
    quality := .estimated
    restStart := none }

/-- The rest step of an evaluation. -/
def restCheck (r : Rack) (e : RackEntry) (d : DerateRecord) (fresh : Option (Int × PartTime))
    (s : State) : State :=
  let x := s.limits.racks.get r
  let y := s.samples.racks.get r
  if x.quality ≠ .unknown then s.setRackCharge r { x with restStart := none }
  else
    let start := restAfter d y.blind fresh x.restStart
    let timed := { x with restStart := start }
    match fresh, y.aggregates.vmean, (s.table .ocv).active with
    | some (_, stamp), some v, some bank =>
      if restComplete d start stamp then
        postAnchor r .ocv timed stamp
          (s.setRackCharge r (timed.estimate e.qmax (ocvCurve bank) v))
      else s.setRackCharge r timed
    | _, _, _ => s.setRackCharge r timed

/-! ## Derate factors (R59 to R63) -/

/-- The temperature factor of a direction's curve (R59). -/
def temperatureFactor (curve : List Breakpoint) (tmax tmin : Option AtChannel) : Nat :=
  match tmax, tmin with
  | some hi, some lo => (min (curveAt hi.value curve) (curveAt lo.value curve)).toNat
  | _, _ => ((curve.map fun p : Breakpoint => p.y).min?.getD 0).toNat

/-- The voltage taper of the charge direction (R60). -/
def chargeTaper (d : DerateRecord) (vmax : Option AtChannel) : Nat :=
  match vmax with
  | none => 0
  | some v =>
    if v.value ≤ d.chargeStart then 1024
    else if (d.chargeEnd : Int) ≤ v.value then 0
    else (floorDiv (1024 * (d.chargeEnd - v.value)) (d.chargeEnd - d.chargeStart)).toNat

/-- The voltage taper of the discharge direction (R60). -/
def dischargeTaper (d : DerateRecord) (vmin : Option AtChannel) : Nat :=
  match vmin with
  | none => 0
  | some v =>
    if (d.dischargeStart : Int) ≤ v.value then 1024
    else if v.value ≤ d.dischargeEnd then 0
    else (floorDiv (1024 * (v.value - d.dischargeEnd)) (d.dischargeStart - d.dischargeEnd)).toNat

/-- The SOC taper of the charge direction (R61). -/
def chargeSoc (d : DerateRecord) (soc : Nat) : Nat :=
  if soc ≤ d.socChargeStart then 1024
  else 1024 * (10000 - soc) / (10000 - d.socChargeStart)

/-- The SOC taper of the discharge direction (R61). -/
def dischargeSoc (d : DerateRecord) (soc : Nat) : Nat :=
  if d.socDischargeStart ≤ soc then 1024 else 1024 * soc / d.socDischargeStart

/-- One direction's factors brought to their minimum and their target (R62, R63). -/
def makeFactors (temperature voltage soc cooling : Nat) (alert blind autonomous : Option Nat)
    (zero : Bool) (base : Nat) : Factors :=
  let capped (f : Nat) (c : Option Nat) : Nat := min f (c.getD 1024)
  let f0 := min (min temperature voltage) (min soc cooling)
  let f1 := capped (capped (capped f0 alert) blind) autonomous
  let f := min 1024 (if zero then 0 else f1)
  { temperature := temperature
    voltage := voltage
    soc := soc
    cooling := cooling
    alertCap := alert
    blindCap := blind
    autonomousCap := autonomous
    zeroCap := zero
    f := f
    target := base * f / 1024 }

/-- The factors of both directions at an evaluation. -/
def State.factorsNow (s : State) (r : Rack) (e : RackEntry) (d : DerateRecord) :
    PerDirection Factors :=
  let agg := (s.samples.racks.get r).aggregates
  let points := match (s.table .derate).active with
    | some bank => deratePoints bank
    | none => []
  let unknown := decide ((s.limits.racks.get r).quality = .unknown)
  let soc := (s.soc r).getD 0
  let cap (holds : Bool) (value : Nat) : Option Nat := if holds then some value else none
  let alert := cap (!s.quiet) d.alertCap
  let blind := cap (s.samples.racks.get r).blind d.blindCap
  let autonomous := cap s.site.autonomous d.autonomousCap
  let zero := s.rackTripSide r || s.latchedFor r
  { charge := makeFactors
      (temperatureFactor (points.map fun p => ⟨p.temperature, p.charge⟩) agg.tmax agg.tmin)
      (chargeTaper d agg.vmax) (if unknown then d.unknownCap else chargeSoc d soc)
      s.cooling.factor alert blind autonomous zero e.baseCharge
    discharge := makeFactors
      (temperatureFactor (points.map fun p => ⟨p.temperature, p.discharge⟩) agg.tmax agg.tmin)
      (dischargeTaper d agg.vmin) (if unknown then d.unknownCap else dischargeSoc d soc)
      s.cooling.factor alert blind autonomous zero e.baseDischarge }

/-! ## Slew (R64, R65) -/

/-- A published limit moved toward its target. -/
def slewed (limit target ramp de : Nat) : Nat :=
  if target ≤ limit then target else min target (limit + ramp * de / 1000)

/-- The time since a rack's last evaluation, saturated; the cycle length when there is none (R64). -/
def State.evaluationInterval (s : State) (r : Rack) : Nat :=
  match (s.limits.racks.get r).lastEvaluation, s.slotHeader with
  | some t, _ => (saturate 1 2000 (elapsed s.now t)).toNat
  | none, some h => h.cycleLength
  | none, none => 1

/-- The published limits of a rack after an evaluation: 0 unless the rack is CONNECTED and no hold is
in force. -/
def State.publishedNow (s : State) (r : Rack) (e : RackEntry) (f : PerDirection Factors) :
    PerDirection Nat :=
  if s.rackState r = .connected && !s.sequencer.hold then
    let l := (s.limits.racks.get r).limit
    let de := s.evaluationInterval r
    ⟨slewed l.charge f.charge.target e.ramp de, slewed l.discharge f.discharge.target e.ramp de⟩
  else ⟨0, 0⟩

/-! ## The evaluation (R49) -/

/-- Step 1: the charge brought up to date. -/
def integrateRack (r : Rack) (e : RackEntry) (fresh : Option (Int × PartTime)) (s : State) :
    State :=
  match fresh with
  | some (i, stamp) => s.setRackCharge r ((s.limits.racks.get r).integrate e.qmax i stamp)
  | none => s

/-- Steps 5 to 8: factors, target, slew, container limits and the evaluation time. -/
def publishRack (r : Rack) (e : RackEntry) (d : DerateRecord) (s : State) : State :=
  let f := s.factorsNow r e d
  let published := s.publishedNow r e f
  let s1 := workOutContainer
    (s.setRackCharge r
      { s.limits.racks.get r with factors := some f, limit := published })
  s1.setRackCharge r { s1.limits.racks.get r with lastEvaluation := some s.now }

/-- The evaluation of a rack. -/
def evaluateRack (r : Rack) (e : RackEntry) (d : DerateRecord) (s : State) : State :=
  let fresh := s.junctionFresh r
  publishRack r e d (restCheck r e d fresh (anchorCheck r e d fresh (integrateRack r e fresh s)))

/-- What the limit computer does at a rack set complete (R49). -/
def limitSetComplete (r : Rack) (s : State) : State :=
  match s.rackConfig r, s.derate with
  | some e, some d => evaluateRack r e d s
  | _, _ => workOutContainer (zeroRackLimit r s)

/-! ## Swaps (R49, R58) -/

/-- The charge of a rack at a RACK swap (R58): `before` and `after` are its entries in force. -/
def RackCharge.swap (x : RackCharge) (before after : Option RackEntry) : RackCharge :=
  match before, after with
  | some old, some new =>
    if old.qmax = new.qmax then x
    else { x with
      q := x.q * new.qmax / old.qmax
      r := 0
      quality := if x.quality = .known then .estimated else x.quality }
  | none, some new => if x.q ≤ new.qmax then x else { x with q := new.qmax, r := 0 }
  | _, none => x

/-- The published limits of a rack held within the base currents of its entry (R65). -/
def RackCharge.capped (x : RackCharge) (entry : Option RackEntry) : RackCharge :=
  match entry with
  | some e =>
    { x with limit := ⟨min x.limit.charge e.baseCharge, min x.limit.discharge e.baseDischarge⟩ }
  | none => x

/-- A published limit that stands above a base current of the RACK table in force falls to it, and the
container limits are worked out again (R65, R66; log entry 54). -/
def capRackLimits (s : State) : State :=
  let racks := s.limits.racks.mapWith fun r x => x.capped (s.rackEntry r)
  if racks = s.limits.racks then s
  else workOutContainer (s.withLimits { s.limits with racks := racks })

/-- The limit computer at a RACK swap (R58, R65). -/
def limitsAtRackSwap (before : Rack → Option RackEntry) (s : State) : State :=
  capRackLimits (s.withLimits
    { s.limits with
      racks := s.limits.racks.mapWith fun r x => x.swap (before r) (s.rackConfig r) })

/-- The limit computer at a DERATE swap (R58): a count at or above a new, lower persistence is due. A
count that an earlier swap left due stays so only while it stands at or above the persistence now in
force (log entry 24). -/
def limitsAtDerateSwap (before : Option DerateRecord) (s : State) : State :=
  match before, s.derate with
  | some old, some new =>
    let lower := decide (new.anchorPersistence < old.anchorPersistence)
    s.withLimits
      { s.limits with
        racks := s.limits.racks.mapWith fun _ x =>
          { x with
            topDue := (x.topDue || lower) && decide (new.anchorPersistence ≤ x.topCount)
            bottomDue := (x.bottomDue || lower) && decide (new.anchorPersistence ≤ x.bottomCount) } }
  | _, _ => s

/-- The limit computer at a SLOT swap (R49): a rack left with no enabled entry loses its published
limits, and the container limits are worked out again (R66). -/
def limitsAtSlotSwap (s : State) : State :=
  let left := s.racksWithoutEntry
  if left.isEmpty then s else workOutContainer (forRacks left zeroRackLimit s)

/-- A rack's charge state after a pin or command reset (R70). -/
def RackCharge.kept (x : RackCharge) : RackCharge :=
  { RackCharge.initial with q := x.q, r := x.r, quality := x.quality }

end Sys2Proof.Machine
end

