-- ==== Sys2Proof/Machine/SwitchFlow.lean ====
section
/-!
DEFINITION. The rack sequencer's flow (chapter 7): the rack set complete (R129, R131, R134), joining
(R132), watches and proofs (R124, R136), the answers to CONNECT, DISCONNECT and CLEAR_FAULT (R126,
R133, R141), and what a GRID swap and a reset do (R143, R145).
-/

namespace Sys2Proof.Machine

/-! ## Joining (R132) -/

/-- A JOINING rack becomes CONNECTED: its result is posted and the slot given up. -/
def becomeConnected (r : Rack) (cause : RackCause) (s : State) : State :=
  let x := s.sequencer.racks.get r
  freeSlot r (connectResult r .connected
    (changeRack r { x with state := .connected, operation := .none, timer := none } cause s))

def State.releaseDelay (s : State) : Nat :=
  match s.grid with
  | some g => g.releaseDelay
  | none => 0

/-- The main contactor of a JOINING rack is proven closed: the precharge-release delay runs after a
precharge, and the rack is CONNECTED at its end (of a delay of 0: at once), or at once without one. -/
def mainProven (r : Rack) (cause : RackCause) (s : State) : State :=
  let x := s.sequencer.racks.get r
  if x.prechargeUsed && decide (s.releaseDelay ≠ 0) then
    s.setRackSwitch r { x with timer := some ⟨.releaseDelay, s.now, s.releaseDelay⟩ }
  else becomeConnected r (if x.prechargeUsed then .releaseDelay else cause) s

/-- Entry to JOINING: main commanded closed, the close-proof timer from 0. A feedback that already
reads closed proves it at once. DEDUCED (log entry 7): a rack that then becomes CONNECTED at once, without
a precharge, names the set complete as its cause again. -/
def enterJoining (r : Rack) (prechargeUsed : Bool) (s : State) : State :=
  let x := s.sequencer.racks.get r
  let s1 := changeRack r
    { x with
      state := .joining
      prechargeUsed := prechargeUsed
      timer := some ⟨.closeProof, s.now, s.contactorProof⟩ } .setComplete s
  if x.mainClosed then mainProven r .setComplete s1 else s1

/-- Entry to PRECHARGING: an attempt is counted and the two timers run (R130, R131). -/
def enterPrecharging (r : Rack) (g : GridRecord) (s : State) : State :=
  let x := s.sequencer.racks.get r
  changeRack r
    { x with
      state := .precharging
      prechargeUsed := true
      attempts := x.attempts ++ [s.now]
      timer := some ⟨.precharge, s.now, g.prechargeTimeout⟩ } .setComplete s

/-! ## The scan of the connect queue (R129) -/

/-- The two voltages of a rack's most recent set complete when both are fresh, in 0.1 V. -/
def State.setVoltages (s : State) (r : Rack) : Option (Int × Int) :=
  let agg := (s.samples.racks.get r).aggregates
  match agg.rackVoltage, agg.busVoltage with
  | some vr, some vb =>
    if vr.quality.isFresh && vb.quality.isFresh then some (vr.value, vb.value) else none
  | _, _ => none

/-- The two voltages lie within the join window. -/
def withinJoin (g : GridRecord) (vr vb : Int) : Bool := decide ((vr - vb).natAbs ≤ g.joinWindow)

/-- The path a queued rack may start on. -/
inductive Path | precharge | join
  deriving DecidableEq, Repr

/-- The path of a queued rack at a scan; none when it stays QUEUED. -/
def State.pathOf (s : State) (g : GridRecord) (r : Rack) : Option Path :=
  let x := s.samples.racks.get r
  if x.blind || !x.hadSet then none
  else match s.setVoltages r with
    | none => none
    | some (vr, vb) =>
      if s.connectedRacks.isEmpty && decide (vb < g.deadBus) then
        if (s.sequencer.racks.get r).budgetSpent then none else some .precharge
      else if withinJoin g vr vb then some .join
      else none

/-- The queue may be served: the slot is free, no rack is under a protective operation and no
disconnect is pending (R128). -/
def State.queueServed (s : State) : Bool :=
  s.sequencer.slot.isNone && !s.anyProtective &&
    Rack.all.all fun r => !(s.sequencer.racks.get r).disconnectPending

/-- The first queued rack whose path is open is started. -/
def scanQueue (g : GridRecord) (s : State) : State :=
  if s.queueServed then
    match s.sequencer.queue.find? fun e => (s.pathOf g e.rack).isSome with
    | some e =>
      let s1 := dequeue e.rack s
      let s2 := s1.withSequencer { s1.sequencer with slot := some e.rack }
      match s.pathOf g e.rack with
      | some .precharge => enterPrecharging e.rack g s2
      | some .join => enterJoining e.rack false s2
      | none => s
    | none => s
  else s

/-! ## The rack set complete -/

/-- A PRECHARGING rack at its own set complete (R131). -/
def prechargeSet (r : Rack) (g : GridRecord) (s : State) : State :=
  match (s.sequencer.racks.get r).timer, s.setVoltages r with
  | some t, some (vr, vb) =>
    if reached s.now t.since g.minPrecharge && withinJoin g vr vb then enterJoining r true s else s
  | _, _ => s

/-- A DRAINING rack at its own set complete (R134). -/
def drainSet (r : Rack) (s : State) : State :=
  match s.freshCurrent r with
  | some i => if i.natAbs ≤ s.breakLevel then endDrain r .setComplete s else s
  | none => s

/-- The rack whose set is complete moves on. -/
def moveAtSet (r : Rack) (g : GridRecord) (s : State) : State :=
  match s.rackState r with
  | .precharging => prechargeSet r g s
  | .draining => drainSet r s
  | .opened => s
  | .queued => s
  | .joining => s
  | .connected => s
  | .opening => s
  | .locked => s
  | .fault => s

/-- What the rack sequencer does at a rack set complete (R129, R131, R134). -/
def switchSetComplete (r : Rack) (s : State) : State :=
  match s.grid with
  | some g => scanQueue g (grantDisconnects 4 (moveAtSet r g s))
  | none => s

/-! ## Watches (R124) -/

/-- The operation of a rack ends in FAULT of a kind. -/
def endInFault (r : Rack) (kind : FaultKind) (cause : RackCause) (s : State) : State :=
  endOperation r { s.sequencer.racks.get r with state := .fault, faultKind := some kind } cause s

/-- The cause WELDED for a rack and a contactor. -/
def takeWelded (r : Rack) (c : Contactor) (s : State) : State :=
  takeCause .welded none (.welded r c) s

/-- A watch of a rack at rest expires: FAULT WELDED, and the cause (R124). -/
def weldAtRest (r : Rack) (c : Contactor) (s : State) : State :=
  let s1 :=
    if s.rackState r = .queued then connectResult r .abortedByTrip (dequeue r s) else s
  takeWelded r c (endInFault r .welded (.watchTimer c) s1)

/-- The main feedback of a CONNECTED or DRAINING rack read open for the watch time: FAULT
FAILED_TO_CLOSE, its under-load mark judged at the fault. -/
def failClosed (r : Rack) (s : State) : State :=
  endInFault r .failedToClose (.watchTimer .main)
    (s.setRackSwitch r
      { s.sequencer.racks.get r with
        releaseCurrent := s.freshCurrent r
        underLoad := s.loadMark r })

/-- The watch timer of a contactor. -/
def RackSwitch.watch (x : RackSwitch) : Contactor → Timer
  | .main => x.mainWatch
  | .precharge => x.prechargeWatch

/-- A watch timer that has expired stands at its full value. DESIGN CHOICE (log entry 79): it stays there,
and expires no more, until command and feedback agree or the state does not watch. -/
def RackSwitch.fillWatch (x : RackSwitch) (c : Contactor) (ms : Nat) : RackSwitch :=
  match c with
  | .main => { x with mainWatch := .full ms }
  | .precharge => { x with prechargeWatch := .full ms }

/-- A watch timer expires (R124). -/
def expireRackWatch (r : Rack) (c : Contactor) (s : State) : State :=
  let x := s.sequencer.racks.get r
  let s1 := s.setRackSwitch r (x.fillWatch c s.contactorProof)
  match x.state with
  | .opened => weldAtRest r c s1
  | .queued => weldAtRest r c s1
  | .locked => weldAtRest r c s1
  | .fault => if x.faultKind = some .welded then s1 else weldAtRest r c s1
  | .connected =>
    match c with
    | .main => failClosed r s1
    | .precharge => takeWelded r c s1
  | .draining =>
    match c with
    | .main => failClosed r s1
    | .precharge => takeWelded r c s1
  | .precharging => s1
  | .joining => s1
  | .opening => s1

/-- A watch timer has reached the contactor proof time in force. -/
def State.watchIsDue (s : State) (r : Rack) (c : Contactor) : Bool :=
  ((s.sequencer.racks.get r).watch c).due s.now s.contactorProof

/-- A watch timer judged against the contactor proof time in force. -/
def watchDue (r : Rack) (c : Contactor) (s : State) : State :=
  if s.watchIsDue r c then expireRackWatch r c s else s

/-! ## Feedback inputs (R123, R132, R136) -/

/-- A contactor's feedback reading. -/
def RackSwitch.setFeedback (x : RackSwitch) (c : Contactor) (closed : Bool) : RackSwitch :=
  match c with
  | .main => { x with mainClosed := closed }
  | .precharge => { x with prechargeClosed := closed }

/-- The operation timer of a rack is of a kind. -/
def RackSwitch.times (x : RackSwitch) (k : OperationTimerKind) : Bool :=
  match x.timer with
  | some t => t.kind = k
  | none => false

/-- The operation timer of a rack is of a kind and has reached its time. -/
def RackSwitch.timerDue (x : RackSwitch) (now : PartTime) (k : OperationTimerKind) : Bool :=
  match x.timer with
  | some t => t.kind = k && reached now t.since t.limit
  | none => false

/-- A feedback input changes. -/
def changeFeedback (r : Rack) (c : Contactor) (closed : Bool) (s : State) : State :=
  let x := ((s.sequencer.racks.get r).setFeedback c closed).rewatch s.now
  let s1 := s.setRackSwitch r x
  match x.state with
  | .joining => if x.mainClosed && x.times .closeProof then mainProven r (.feedback c) s1 else s1
  | .opening => if x.bothOpen then passOpenProof r (.feedback c) s1 else s1
  | .opened => s1
  | .queued => s1
  | .precharging => s1
  | .connected => s1
  | .draining => s1
  | .locked => s1
  | .fault => s1

/-! ## Operation timers -/

/-- A rack stands in a state, and its operation timer is of a kind and has reached its time. -/
def State.operationDue (s : State) (r : Rack) (st : RackState) (k : OperationTimerKind) : Bool :=
  s.rackState r = st && (s.sequencer.racks.get r).timerDue s.now k

/-- The precharge timeout expires (R131). -/
def expirePrecharge (r : Rack) (s : State) : State :=
  abandonPrecharge r .prechargeTimeout .prechargeTimeout s

/-- The close proof expires with the main feedback open (R132). -/
def expireCloseProof (r : Rack) (s : State) : State :=
  connectResult r .failedToClose (endInFault r .failedToClose .closeProof s)

/-- The precharge-release delay ends (R132). -/
def endReleaseDelay (r : Rack) (s : State) : State := becomeConnected r .releaseDelay s

/-- The drain timer expires (R134). -/
def expireDrain (r : Rack) (s : State) : State := endDrain r .drainTimer s

/-- The contactors of a rack that read closed. -/
def RackSwitch.closedContactors (x : RackSwitch) : List Contactor :=
  (if x.mainClosed then [.main] else []) ++ if x.prechargeClosed then [.precharge] else []

/-- The cause WELDED for a contactor of a rack that reads closed; of two, a free choice names one. -/
def takeWeldedOf (r : Rack) (s : State) : State :=
  match pickFree (s.sequencer.racks.get r).closedContactors s with
  | (some c, s1) => takeWelded r c s1
  | (none, s1) => s1

/-- The open proof expires with a feedback closed (R136). -/
def expireOpenProof (r : Rack) (s : State) : State :=
  takeWeldedOf r (endInFault r .welded .openProof s)

/-- The wait timer of a queued rack has reached the wait limit (R127). -/
def State.waitIsDue (s : State) (r : Rack) : Bool :=
  match s.grid, s.sequencer.queue.find? fun e => e.rack = r with
  | some g, some e => reached s.now e.queuedAt (g.waitLimit * 1000)
  | _, _ => false

/-- The wait timer of a queued rack expires. -/
def expireWait (r : Rack) (s : State) : State := leaveQueue r .voltageMismatch .waitTimer s

def waitDue (r : Rack) (s : State) : State := if s.waitIsDue r then expireWait r s else s

/-- The precharge attempts whose window has passed leave the list (R130). -/
def dropAttempts (r : Rack) (s : State) : State :=
  let x := s.sequencer.racks.get r
  s.setRackSwitch r
    { x with attempts := x.attempts.filter fun t => !reached s.now t 600000 }

/-! ## CONNECT, DISCONNECT, CLEAR_FAULT -/

/-- The result of CONNECT for one rack: the first row of R126 that applies. -/
def State.connectVerdict (s : State) (r : Rack) : Result :=
  let x := s.sequencer.racks.get r
  if !s.rackEnabled r then .badIndex
  else if !s.quiet then .fireActive
  else if s.latchedFor r then .tripActive
  else match x.state with
    | .locked => .tripActive
    | .queued => .already
    | .precharging => .already
    | .joining => .already
    | .connected => .already
    | .draining => .busy
    | .opening => .busy
    | .fault => .wrongMode
    | .opened => if x.budgetSpent then .prechargeBudget else .ok

/-- An OPEN rack joins the connect queue (R126, R127). -/
def enqueue (r : Rack) (s : State) : State :=
  let s1 := s.withSequencer
    { s.sequencer with queue := s.sequencer.queue ++ [⟨r, s.now⟩] }
  changeRack r
    { s1.sequencer.racks.get r with
      state := .queued, operation := .connect, prechargeUsed := false, queuedAt := s.now }
    .connect s1

/-- One rack of a CONNECT. -/
def connectOne (r : Rack) (s : State) : Result × State :=
  let v := s.connectVerdict r
  (v, if v = .ok || v = .prechargeBudget then enqueue r s else s)

/-- One request over several racks in ascending order, with the results. -/
def perRackAnswer (one : Rack → State → Result × State) (racks : List Rack) (s : State) : Answer :=
  let (results, final) := racks.foldl
    (fun acc r =>
      let (v, s1) := one r acc.2
      (acc.1 ++ [(r, v)], s1)) (([] : List (Rack × Result)), s)
  ⟨final, .ok, .perRack results⟩

/-- CONNECT (R126). -/
def answerConnect (mask : RackMask) (s : State) : Answer :=
  match s.site.mode with
  | .unconfigured => ⟨s, .notConfigured, .nothing⟩
  | .standby => ⟨s, .wrongMode, .nothing⟩
  | .run =>
    if mask = 0 then ⟨s, .badRequest, .nothing⟩ else perRackAnswer connectOne (racksOf mask) s

/-- Disconnect pending is set. -/
def setPendingDisconnect (r : Rack) (s : State) : State :=
  s.setRackSwitch r { s.sequencer.racks.get r with disconnectPending := true }

/-- One rack of a DISCONNECT (R133). -/
def disconnectOne (r : Rack) (s : State) : Result × State :=
  if !s.rackEnabled r then (.badIndex, s)
  else match s.rackState r with
    | .queued => (.ok, leaveQueue r .cancelled .disconnect s)
    | .precharging => (.ok, abandonPrecharge r .cancelled .disconnect s)
    | .joining => (.ok, setPendingDisconnect r s)
    | .connected => (.ok, setPendingDisconnect r s)
    | .draining => (.already, s)
    | .opening => (.already, s)
    | .opened => (.already, s)
    | .locked => (.already, s)
    | .fault => (.already, s)

/-- DISCONNECT (R133). -/
def answerDisconnect (mask : RackMask) (s : State) : Answer :=
  if s.site.mode = .unconfigured then ⟨s, .notConfigured, .nothing⟩
  else if mask = 0 then ⟨s, .badRequest, .nothing⟩
  else perRackAnswer disconnectOne (racksOf mask) s

/-- The hard-break count of an OPEN or LOCKED rack is cleared (R141). -/
def clearHardBreaks (r : Rack) (s : State) : Result × State :=
  let x := s.sequencer.racks.get r
  if x.hardBreaks = 0 then (.already, s) else (.ok, s.setRackSwitch r { x with hardBreaks := 0 })

/-- One rack of a CLEAR_FAULT (R141). Its change of state may end the last FAULT WELDED, so the WELDED
latch is judged at it (R155). -/
def clearFaultOne (r : Rack) (s : State) : Result × State :=
  let x := s.sequencer.racks.get r
  if !s.rackEnabled r then (.badIndex, s)
  else match x.state with
    | .fault =>
      if x.bothOpen then
        (.ok, judgeContainerLatch .welded (changeRack r
          { x with
            state := if s.latchedFor r then .locked else .opened
            faultKind := none
            hardBreaks := 0 } .clearFault s))
      else (.wrongMode, s)
    | .opened => clearHardBreaks r s
    | .locked => clearHardBreaks r s
    | .queued => (.wrongMode, s)
    | .precharging => (.wrongMode, s)
    | .joining => (.wrongMode, s)
    | .connected => (.wrongMode, s)
    | .draining => (.wrongMode, s)
    | .opening => (.wrongMode, s)

/-- CLEAR_FAULT (R141). -/
def answerClearFault (mask : RackMask) (s : State) : Answer :=
  if mask = 0 then ⟨s, .badRequest, .nothing⟩ else perRackAnswer clearFaultOne (racksOf mask) s

/-! ## GRID swap and reset (R143, R145) -/

/-- The watches and wait timers of the racks judged against the new GRID table (R143). DESIGN CHOICE (log
entry 63): every wait timer first, in queue order, and then the watches, rack by rack, the main
contactor's before the precharge contactor's. -/
def switchAtGridSwap (s : State) : State :=
  forRacks Rack.all (fun r acc => watchDue r .precharge (watchDue r .main acc))
    (forRacks (s.sequencer.queue.map (·.rack)) waitDue s)

/-- A rack after a reset (R145): OPEN, or FAULT WELDED when a feedback reads closed. -/
def RackSwitch.afterReset (now : PartTime) (hardBreaks : Nat) (x : RackSwitch) : RackSwitch :=
  let base : RackSwitch :=
    { RackSwitch.initial with
      mainClosed := x.mainClosed
      prechargeClosed := x.prechargeClosed
      hardBreaks := hardBreaks
      state := if x.bothOpen then .opened else .fault
      faultKind := if x.bothOpen then none else some .welded }
  base.rewatch now

/-- The causes WELDED a reset sends, one for each rack in FAULT WELDED (R145). -/
def weldedAtReset (s : State) : State :=
  inAnyOrder
    ((Rack.all.filter fun r => (s.sequencer.racks.get r).faultKind = some .welded).map takeWeldedOf)
    s

end Sys2Proof.Machine
end

