-- ==== Sys2Proof/Machine/TableChecks.lean ====
section
/-!
DEFINITION. The checks a TABLE_COMMIT runs on a pending bank (R6, R32, R33, R68, R69, R83, R88, R118,
R143, R147, R166, R174): every failing check with the index it names, in the order of the tables of
checks, and the one the reply names.
-/

namespace Sys2Proof.Machine

/-- A failing check: the index it names and the reason. -/
abbrev Failure := Nat × Reason

/-- A check that holds fails nothing. -/
def check (index : Nat) (reason : Reason) (holds : Bool) : List Failure :=
  if holds then [] else [(index, reason)]

/-- The failing check a reply names: the lowest index, and there the first check of the table. -/
def firstFailure : List Failure → Option Failure
  | [] => none
  | f :: fs =>
    match firstFailure fs with
    | some g => if g.1 < f.1 then some g else some f
    | none => some f

/-- A number lies in a range. -/
def within (lo hi n : Nat) : Bool := decide (lo ≤ n) && decide (n ≤ hi)

/-- A temperature lies in -400..+1250, in 0.1 °C. -/
def temperatureInRange (t : Int) : Bool := decide (-400 ≤ t) && decide (t ≤ 1250)

/-! ## SLOT (R6) -/

def slotHeaderInRange (h : SlotHeader) : Bool :=
  within 20 250 h.cycleLength && within 250 4000 h.slotLength && within 250 4000 h.turnLength &&
    within 0 8 h.eventTurns && within 1 15 h.staleThreshold && within 1 64 h.stretch &&
    within 1 64 h.divisor

/-- The schedule fits the unstretched cycle, in microseconds. -/
def scheduleFits (h : SlotHeader) (enabled : Nat) : Bool :=
  decide (enabled * h.slotLength + h.eventTurns * h.turnLength + 500 ≤ h.cycleLength * 1000)

/-- The fields an enabled entry's kind uses lie in their ranges. -/
def slotFieldsInRange (e : SlotEntry) : Bool :=
  within 1 56 e.node && within 0 2 e.kind && within 0 2 e.policy &&
    (e.nodeKind = .plant || within 1 4 e.rack) &&
    (e.nodeKind ≠ .cell ||
      (within 1 16 e.cells && within 0 4 e.temperatures && within 0 63 e.tempMask &&
        within 0 63 e.tempMatch))

def slotEntryInRange (e : SlotEntry) : Bool :=
  e.enabled = 0 || (e.enabled = 1 && slotFieldsInRange e)

/-- The enabled entries before an entry, by index. -/
def entriesBefore (entries : List SlotEntry) (e : SlotEntry) : List SlotEntry :=
  entries.filter fun x => x.index < e.index

/-- The entries of a kind that serve a rack. -/
def entriesServing (entries : List SlotEntry) (k : NodeKind) (r : Option Rack) : List SlotEntry :=
  entries.filter fun e => e.nodeKind = k && e.rackOf = r

/-- The JUNCTION checks: a second JUNCTION of a rack with CELL entries, a rack with CELL entries and no
JUNCTION, and a JUNCTION of a rack without CELL entries. -/
def junctionFailures (entries : List SlotEntry) (r : Rack) : List Failure :=
  let cells := entriesServing entries .cell (some r)
  let junctions := entriesServing entries .junction (some r)
  match cells with
  | [] => junctions.map fun e => (e.index, .junctionCount)
  | first :: _ =>
    if junctions.isEmpty then [(first.index, .junctionCount)]
    else (junctions.drop 1).map fun e => (e.index, .junctionCount)

def checkSlot (bank : Bank) : List Failure :=
  let h := slotHeaderOf bank
  let all := allSlotEntries bank
  let entries := enabledEntries bank
  check 0 .range (slotHeaderInRange h) ++
    check 0 .scheduleOverrun (scheduleFits h entries.length) ++
    (all.flatMap fun e => check e.index .range (slotEntryInRange e)) ++
    (entries.flatMap fun e => check e.index .duplicateAddress
      ((entriesBefore entries e).all fun x => x.node ≠ e.node)) ++
    (entries.flatMap fun e => check e.index .selector
      (e.nodeKind ≠ .cell || e.tempMatch &&& e.tempMask = e.tempMatch)) ++
    (((entries.filter fun e => e.nodeKind = .plant).drop 1).map fun e => (e.index, .plantCount)) ++
    (Rack.all.flatMap fun r =>
      ((entriesServing entries .cell (some r)).drop 12).map fun e => (e.index, .rackNodes)) ++
    Rack.all.flatMap (junctionFailures entries)

/-! ## CAL and TCONV (R32) -/

def checkCal (bank : Bank) : List Failure :=
  (List.range 896).flatMap fun i =>
    let offset := s16 (bank.at i) 0
    check i .range (decide (-2048 ≤ offset) && decide (offset ≤ 2047))

/-- A raw code stands above its predecessor's and below 65535. -/
def tconvOrder (bank : Bank) (i : Nat) : Bool :=
  decide (u16 (bank.at i) 0 ≠ 65535) &&
    (i = 1 || decide (u16 (bank.at (i - 1)) 0 < u16 (bank.at i) 0))

/-- The checks of TCONV (R32). DESIGN CHOICE (log entry 81): 'each breakpoint temperature' is read as
each counted one, as the raw codes' check says it; an entry beyond the count may hold any temperature. -/
def checkTconv (bank : Bank) : List Failure :=
  let count := u8 (bank.at 0) 0
  let counted := List.range' 1 (min count 24)
  check 0 .range (within 2 24 count) ++
    (counted.flatMap fun i => check i .range (temperatureInRange (s16 (bank.at i) 2))) ++
    counted.flatMap fun i => check i .order (tconvOrder bank i)

/-! ## LIMIT (R33) -/

/-- The thresholds of a side, as a list. -/
def SideLimits.thresholds (l : SideLimits) : List Int :=
  [l.warnSet, l.warnRelease] ++ match l.trip with
    | some (a, b) => [a, b]
    | none => []

/-- Release thresholds strictly inside their set thresholds, and the trip set strictly beyond the warn
set. -/
def SideLimits.ordered (l : SideLimits) (high : Bool) : Bool :=
  let below (a b : Int) : Bool := if high then decide (a < b) else decide (b < a)
  below l.warnRelease l.warnSet && match l.trip with
    | some (set, release) => below release set && below l.warnSet set
    | none => true

/-- R33's first check: voltages and temperatures. -/
def limitThresholdsInRange (l : LimitSet) : Bool :=
  ((l.ov.thresholds ++ l.uv.thresholds).all fun v => decide (0 ≤ v) && decide (v ≤ 5000)) &&
    (l.ot.thresholds ++ l.ut.thresholds).all temperatureInRange

/-- R33's last check. -/
def limitPersistencesInRange (l : LimitSet) : Bool :=
  within 1 15 l.setPersistence && within 1 15 l.releasePersistence

/-- R33's second and third checks, on all four sides. -/
def limitSetOrdered (l : LimitSet) : Bool :=
  l.ov.ordered true && l.uv.ordered false && l.ot.ordered true && l.ut.ordered false

/-- The checks of LIMIT in R33's list order, by which a set that fails several names the reason of the
first (log entry 13): a threshold out of its order is named before a persistence out of its range. -/
def checkLimit (bank : Bank) : List Failure :=
  (List.range 4).flatMap fun i =>
    let l := limitSetAt bank i
    check i .range (limitThresholdsInRange l) ++ check i .order (limitSetOrdered l) ++
      check i .range (limitPersistencesInRange l)

/-! ## RACK (R69, R83, R174) -/

def rackFieldsInRange (e : RackEntry) : Bool :=
  within 0 3 e.limitSet && within 1 2000 e.mismatchLimit && within 1 600 e.blindTime &&
    within 0 5000 e.baseCharge && within 0 5000 e.baseDischarge &&
    within 3600000 2160000000 e.qmax && within 100 50000 e.ramp && within 0 5000 e.window &&
    within 1 500 e.startSpread && within 0 500 e.targetBand && within 10 3600 e.coolDown &&
    within 0 65535 e.dailyBudget

def checkRack (bank : Bank) : List Failure :=
  (List.range 4).flatMap fun i =>
    let e := rackEntryAt bank i
    check i .range (e.enabled = 0 || (e.enabled = 1 && rackFieldsInRange e)) ++
      check i .order (e.enabled ≠ 1 || decide (e.targetBand < e.startSpread))

/-! ## DERATE (R68) and OCV (R69) -/

/-- The count and the voltages in their ranges. -/
def derateVoltagesInRange (d : DerateRecord) : Bool :=
  within 2 12 d.count && within 0 5000 d.chargeStart && within 0 5000 d.chargeEnd &&
    within 0 5000 d.dischargeStart && within 0 5000 d.dischargeEnd && within 0 5000 d.topAnchor &&
    within 0 5000 d.bottomAnchor

/-- The other fields of the record in their ranges. -/
def derateOthersInRange (d : DerateRecord) : Bool :=
  within 0 9999 d.socChargeStart && within 1 10000 d.socDischargeStart &&
    within 0 1024 d.unknownCap && within 0 1024 d.alertCap && within 0 1024 d.blindCap &&
    within 0 1024 d.autonomousCap && within 0 5000 d.taperCurrent && within 0 5000 d.restCurrent &&
    within 1 15 d.anchorPersistence && within 1 3600 d.restTime

def derateOrdered (d : DerateRecord) : Bool :=
  decide (d.chargeStart < d.chargeEnd) && decide (d.dischargeEnd < d.dischargeStart) &&
    decide (d.bottomAnchor < d.topAnchor)

def deratePointInRange (p : DeratePoint) : Bool :=
  temperatureInRange p.temperature && within 0 1024 p.charge && within 0 1024 p.discharge

def checkDerate (bank : Bank) : List Failure :=
  let d := derateRecordOf bank
  let counted := List.range' 1 (min d.count 12)
  check 0 .range (derateVoltagesInRange d) ++ check 0 .order (derateOrdered d) ++
    check 0 .range (derateOthersInRange d) ++
    (counted.flatMap fun i => check i .range (deratePointInRange (deratePointAt bank i))) ++
    counted.flatMap fun i => check i .order
      (i = 1 ||
        decide ((deratePointAt bank (i - 1)).temperature < (deratePointAt bank i).temperature))

/-- A used entry's values against the entry before it. -/
def ocvOrdered (bank : Bank) (i : Nat) : Bool :=
  let e := ocvEntryAt bank i
  let p := ocvEntryAt bank (i - 1)
  i = 0 || p.used ≠ 1 || (decide (p.voltage < e.voltage) && decide (p.soc ≤ e.soc))

/-- The first position that is not used. -/
def ocvFirstUnused (bank : Bank) : Nat :=
  ((List.range 16).find? fun i => (ocvEntryAt bank i).used ≠ 1).getD 16

def checkOcv (bank : Bank) : List Failure :=
  let all := List.range 16
  let used := all.filter fun i => (ocvEntryAt bank i).used = 1
  (all.flatMap fun i => check i .range (within 0 1 (ocvEntryAt bank i).used)) ++
    (used.flatMap fun i => check i .range
      (within 0 5000 (ocvEntryAt bank i).voltage && within 0 10000 (ocvEntryAt bank i).soc)) ++
    (used.flatMap fun i => check i .order (ocvOrdered bank i)) ++
    (used.flatMap fun i => check i .count (decide (i < ocvFirstUnused bank))) ++
    check (ocvFirstUnused bank) .count (decide (2 ≤ used.length))

/-! ## COOL (R88) -/

/-- The fields of the header up to the heater temperatures in their ranges. -/
def coolControlInRange (h : CoolHeader) : Bool :=
  within 1 8 h.levels && temperatureInRange h.startTemperature && within 1 60 h.interval &&
    within 1 3600 h.blindHold && within 0 h.levels h.fallback && temperatureInRange h.heaterOn &&
    temperatureInRange h.heaterOff

/-- The later fields of the header in their ranges. -/
def coolPlantInRange (h : CoolHeader) : Bool :=
  (Output.all.all fun o => within 1 60 (h.proofTimes.get o)) &&
    within 0 1024 h.pumpLossCap && within 0 1024 h.compressorLossCap &&
    within 0 1024 h.fanLossCap && within 0 768 h.normalAllowance && within 0 768 h.topAllowance &&
    temperatureInRange h.pumpLossTrip

def coolLevelInRange (l : CoolLevel) : Bool :=
  within 0 63 l.outputs && temperatureInRange l.up && temperatureInRange l.down &&
    within 1 600 l.dwell

/-- A level's temperatures against the level before it. -/
def coolLevelOrdered (bank : Bank) (i : Nat) : Bool :=
  let l := coolLevelAt bank i
  let p := coolLevelAt bank (i - 1)
  decide (l.down < l.up) && (i = 1 || (decide (p.up < l.up) && decide (p.down < l.down)))

/-- A level that contains a compressor also contains the pump. -/
def coolLevelPumped (l : CoolLevel) : Bool :=
  !(l.names .compressor1 || l.names .compressor2) || l.names .pump

def checkCool (bank : Bank) : List Failure :=
  let h := coolHeaderOf bank
  let counted := List.range' 1 (min h.levels 8)
  let first := coolLevelAt bank 1
  check 0 .range (coolControlInRange h) ++ check 0 .order (decide (h.heaterOn < h.heaterOff)) ++
    check 0 .range (coolPlantInRange h) ++
    (counted.flatMap fun i => check i .range (coolLevelInRange (coolLevelAt bank i))) ++
    (counted.flatMap fun i => check i .order (coolLevelOrdered bank i)) ++
    check 1 .order
      (decide (first.down < h.startTemperature) && decide (h.startTemperature < first.up)) ++
    counted.flatMap fun i => check i .pump (coolLevelPumped (coolLevelAt bank i))

/-! ## FIRE (R118) -/

def gasInRange (g : GasLimits) : Bool :=
  ([g.preSet, g.preRelease, g.alarmSet, g.alarmRelease].all fun v => decide (v ≤ 10000)) &&
    within 1 15 g.setPersistence && within 1 15 g.releasePersistence

def gasOrdered (g : GasLimits) : Bool :=
  decide (g.preRelease < g.preSet) && decide (g.alarmRelease < g.alarmSet) &&
    decide (g.preSet < g.alarmSet)

def lineInRange (e : LineEntry) : Bool :=
  within 0 5 e.kind && within 0 1 e.mode && within 10 2000 e.debounce

/-- A SMOKE or HEAT line names a zone of 1 to 4. -/
def lineNamesZone (e : LineEntry) : Bool :=
  1 < e.kind || decide (e.zones % 16 ≠ 0)

def checkFire (bank : Bank) : List Failure :=
  let f := fireRecordOf bank
  let lines := List.range' 1 12
  check 0 .range (within 0 120 f.countdown && within 1 10 f.pulse && within 1 60 f.feedback) ++
    check 0 .range (gasInRange f.h2 && gasInRange f.co) ++
    check 0 .order (gasOrdered f.h2 && gasOrdered f.co) ++
    (lines.flatMap fun i => check i .range (lineInRange (lineEntryAt bank i))) ++
    lines.flatMap fun i => check i .zone (lineNamesZone (lineEntryAt bank i))

/-! ## GRID (R143, R147, R166, R174) -/

/-- The fields of the rack sequencer in their ranges (R143). -/
def gridSwitchingInRange (g : GridRecord) : Bool :=
  within 0 2000 g.deadBus && within 10 500 g.joinWindow && within 10 3600 g.waitLimit &&
    within 100 10000 g.minPrecharge && within 500 30000 g.prechargeTimeout &&
    within 20 2000 g.contactorProof && within 0 2000 g.releaseDelay && within 0 5000 g.breakLevel &&
    within 0 30000 g.drainTime && within 0 5000 g.deferredDrain && within 1 255 g.hardBreakLimit

/-- The fields of the other four owners in their ranges (R147, R166, R174). -/
def gridOthersInRange (g : GridRecord) : Bool :=
  within 0 5000 g.overrunMargin && within 500 10000 g.overrunTime && within 0 20000 g.containerCap &&
    within 50 1000 g.limitPeriod && within 100 5000 g.silenceTime && within 1 600 g.silentTrip &&
    within 50 5000 g.breakerProof && within 1 600 g.siteSilence

def checkGrid (bank : Bank) : List Failure :=
  let g := gridRecordOf bank
  check 0 .range (gridSwitchingInRange g) ++
    check 0 .order (decide (g.minPrecharge < g.prechargeTimeout)) ++
    check 0 .range (gridOthersInRange g)

/-- The failing checks of a table's bank (R168). -/
def failuresOf (t : TableName) (bank : Bank) : List Failure :=
  match t with
  | .slot => checkSlot bank
  | .cal => checkCal bank
  | .tconv => checkTconv bank
  | .limit => checkLimit bank
  | .rack => checkRack bank
  | .derate => checkDerate bank
  | .ocv => checkOcv bank
  | .cool => checkCool bank
  | .fire => checkFire bank
  | .grid => checkGrid bank

end Sys2Proof.Machine
end

