-- ==== Sys2Proof/Machine/RingCore.lean ====
section
/-!
DEFINITION. The ring controller's operations (chapter 1): nodes and link states (R16, R17), the frames
it sends (R8, R10, R19), the checks of frames that arrive (R8, R13), the event poll list (R18), and
what a SLOT swap and a reset do (R7, R22).
-/

namespace Sys2Proof.Machine

/-! ## Nodes (R7, R16, R17, R22) -/

/-- The side a node starts on. -/
def SidePolicy.start : SidePolicy → RingEnd
  | .auto => .a
  | .aOnly => .a
  | .bOnly => .b

/-- The link state of a miss count under a stale threshold (R16). -/
def linkOf (threshold miss : Nat) : LinkState :=
  if miss = 0 then .online else if miss < threshold then .retrying else .stale

/-- A node as it stands after a reset. -/
def RingNode.fresh (e : SlotEntry) : RingNode :=
  ⟨e.node, e.sidePolicy.start, 0, 0, .online, false, 0#16, false, none⟩

/-- The other ring end. -/
def otherEnd : RingEnd → RingEnd
  | .a => .b
  | .b => .a

/-- A node after a sample reply was accepted from it (R16). -/
def RingNode.answered (n : RingNode) : RingNode :=
  { n with miss := 0, sideMiss := 0, link := .online, heard := true }

/-- A node after a miss (R16, R17). -/
def RingNode.missed (n : RingNode) (policy : SidePolicy) (threshold : Nat) : RingNode :=
  let miss := countUp 255 n.miss
  let sideMiss := countUp 2 n.sideMiss
  let moves := policy = .auto && sideMiss = 2
  { n with
    miss := miss
    sideMiss := if moves then 0 else sideMiss
    side := if moves then otherEnd n.side else n.side
    link := linkOf threshold miss }

/-- The confirmation mark after an accepted reply's echo (R11). -/
def RingNode.echo (n : RingNode) (applied : CellMask) : RingNode :=
  { n with echoed := some applied, confirmed := decide (applied = n.commanded) }

/-- A node carried over a SLOT swap (R7). -/
def RingNode.carried (n : RingNode) (policy : SidePolicy) (threshold : Nat) : RingNode :=
  let moves := policy ≠ .auto && decide (n.side ≠ policy.start)
  { n with
    side := if moves then policy.start else n.side
    sideMiss := if moves then 0 else n.sideMiss
    link := linkOf threshold n.miss }

def State.ringNode (s : State) (node : Nat) : Option RingNode :=
  s.ring.nodes.find? fun n => n.node = node

/-- The side a node is polled through. -/
def State.sideOf (s : State) (node : Nat) : RingEnd :=
  match s.ringNode node with
  | some n => n.side
  | none => .a

def State.staleThreshold (s : State) : Nat :=
  match s.slotHeader with
  | some h => h.staleThreshold
  | none => 0

/-- The ring controller when the SLOT table has swapped. -/
def ringSwapped (s : State) : State :=
  let nodes := s.entries.map fun e =>
    match s.ringNode e.node with
    | some n => n.carried e.sidePolicy s.staleThreshold
    | none => .fresh e
  s.withRing
    { s.ring with
      nodes := nodes
      pollList := s.ring.pollList.filter fun a => nodes.any fun n => n.node = a
      endA := { s.ring.endA with expectation := none }
      endB := { s.ring.endB with expectation := none } }

/-- The first cycle starts at the swap that leaves a SLOT table active (R3). -/
def startRing (s : State) : State :=
  if s.ring.phase = .idle && s.isActive .slot then s.withRing { s.ring with phase := .due } else s

/-- The ring controller at any reset (R22). -/
def ringReset (s : State) : State :=
  startRing (s.withRing { Ring.initial with nodes := s.entries.map .fresh })

/-! ## Ring ends (R13, R14) -/

def Ring.endOf (r : Ring) : RingEnd → EndState
  | .a => r.endA
  | .b => r.endB

def Ring.setEnd (r : Ring) (d : RingEnd) (x : EndState) : Ring :=
  match d with
  | .a => { r with endA := x }
  | .b => { r with endB := x }

/-- One error more of a kind, saturating at 65535. -/
def RingErrors.bump (e : RingErrors) : RingError → RingErrors
  | .framing => { e with framing := countUp 65535 e.framing }
  | .noise => { e with noise := countUp 65535 e.noise }
  | .crc => { e with crc := countUp 65535 e.crc }
  | .address => { e with address := countUp 65535 e.address }
  | .staleEcho => { e with staleEcho := countUp 65535 e.staleEcho }
  | .late => { e with late := countUp 65535 e.late }

/-- A frame is discarded at a ring end: the count of its error rises. -/
def discard (d : RingEnd) (k : RingError) (s : State) : State :=
  let x := s.ring.endOf d
  s.withRing (s.ring.setEnd d { x with errors := x.errors.bump k })

def setExpectation (d : RingEnd) (x : Option Expectation) (s : State) : State :=
  s.withRing (s.ring.setEnd d { s.ring.endOf d with expectation := x })

/-- The expectation of an end stays in force past the end of its slot or turn (R13). -/
def markEnded (d : RingEnd) (s : State) : State :=
  setExpectation d ((s.ring.endOf d).expectation.map ({ · with ended := true })) s

/-! ## Checks of arriving frames (R8, R13) -/

/-- The first failing check of a token frame inside the token phase at end B (R8). -/
def State.tokenError (s : State) (f : TokenFrame) : Option RingError :=
  if !f.lengthOk then some .framing
  else if !f.symbolsOk then some .noise
  else if f.crc ≠ crc16 (Config.tokenBytes f.echo) then some .crc
  else if f.echo ≠ s.ring.cycle then some .staleEcho
  else none

/-- Checks 4 to 6 against an expectation. -/
def expectationError (x : Option Expectation) (node echo : Nat) : Option RingError :=
  match x with
  | none => some .address
  | some e =>
    if node ≠ e.node then some .address
    else if echo ≠ e.cycle then some .staleEcho
    else if e.ended then some .late
    else none

/-- The number of codes of a reply differs from what the expectation calls for; an expectation of an
event reply calls for none, so a sample reply fails against it (log entry 6). -/
def wrongCodes (x : Option Expectation) (codes : Nat) : Bool :=
  match x with
  | none => false
  | some e =>
    match e.wanted with
    | .sample n => decide (codes ≠ n)
    | .event => true

/-- An event reply fails against an expectation of a sample reply (log entry 6). -/
def wrongKind (x : Option Expectation) : Bool :=
  match x with
  | none => false
  | some e =>
    match e.wanted with
    | .sample _ => true
    | .event => false

/-- The first failing check of a sample reply (R13). -/
def State.sampleError (s : State) (d : RingEnd) (f : SampleFrame) : Option RingError :=
  let x := (s.ring.endOf d).expectation
  let bytes :=
    Config.sampleReplyBytes f.node f.echo f.codes f.eventPending f.nodeFault f.applied
  if !f.lengthOk || wrongCodes x f.codes.length then some .framing
  else if !f.symbolsOk then some .noise
  else if f.crc ≠ crc16 bytes then some .crc
  else expectationError x f.node f.echo

/-- The first failing check of an event reply (R13). -/
def State.eventError (s : State) (d : RingEnd) (f : EventFrame) : Option RingError :=
  let x := (s.ring.endOf d).expectation
  let bytes := Config.eventReplyBytes f.node f.echo f.eventPending f.nodeFault f.kind f.channel
  if !f.lengthOk || wrongKind x then some .framing
  else if !f.symbolsOk then some .noise
  else if f.crc ≠ crc16 bytes then some .crc
  else expectationError x f.node f.echo

/-! ## Frames sent (R8, R10, R11, R19) -/

/-- The mask a poll of an entry carries (R11). -/
def State.pollMask (s : State) (e : SlotEntry) : PollMask :=
  match e.nodeKind with
  | .cell =>
    match s.ringNode e.node with
    | some n => if n.confirmed then .unchanged else .mask n.commanded
    | none => .unchanged
  | .junction => .unchanged
  | .plant => .unchanged

/-- A carried mask as the CRC-16 covers it. -/
def PollMask.carried : PollMask → Option CellMask
  | .unchanged => none
  | .mask m => some m

/-- A frame is sent from an end and sets its expectation. -/
def sendPoll (d : RingEnd) (f : RingFrame) (x : Expectation) (s : State) : State :=
  s.withRing (s.ring.setEnd d
    { s.ring.endOf d with expectation := some x, sent := some f })

/-- The loop token of the present cycle leaves end A. -/
def sendToken (s : State) : State :=
  s.withRing (s.ring.setEnd .a
    { s.ring.endA with
      sent := some (.token s.ring.cycle (crc16 (Config.tokenBytes s.ring.cycle))) })

/-- The slot poll of an entry. -/
def slotPoll (e : SlotEntry) (s : State) : State :=
  let c := s.ring.cycle
  let mask := s.pollMask e
  let request := e.requestSet c
  sendPoll (s.sideOf e.node)
    (.poll e.node c request mask (crc16 (Config.pollBytes e.node c request mask.carried)))
    ⟨e.node, c, .sample (e.replyChannels c).length, false⟩ s

/-- The event poll of a node. -/
def eventPoll (node : Nat) (s : State) : State :=
  let c := s.ring.cycle
  sendPoll (s.sideOf node) (.eventPoll node c (crc16 (Config.eventPollBytes node c)))
    ⟨node, c, .event, false⟩ s

/-! ## The event poll list (R18) -/

/-- A node joins the tail of the event poll list unless it is already there. -/
def pollLater (node : Nat) (s : State) : State :=
  if s.ring.pollList.contains node then s
  else s.withRing { s.ring with pollList := s.ring.pollList ++ [node] }

/-! ## The ring state (R9) -/

/-- The token of a cycle is settled: run counts and ring state. -/
def settleToken (s : State) : State :=
  let returned := s.ring.tokenReturned
  let up := if returned then countUp 2 s.ring.returnedRun else 0
  let down := if returned then 0 else countUp 2 s.ring.lostRun
  let next : RingState :=
    match s.ring.ringState with
    | .closed => if down = 2 then .opened else .closed
    | .opened => if up = 2 then .closed else .opened
  let s1 := s.withRing { s.ring with returnedRun := up, lostRun := down, ringState := next }
  if next = s.ring.ringState then s1
  else produceContainerSummary (post (.ringState next s.ring.cycle) s1)

/-! ## Phases (section 1.1) -/

/-- The phase after the token phase or after slot `done - 1`, of `n` slots. -/
def phaseAfter (done n : Nat) : Phase := if done < n then .betweenSlots done else .betweenTurns 0

def setPhase (p : Phase) (s : State) : State := s.withRing { s.ring with phase := p }

def State.eventTurns (s : State) : Nat :=
  match s.slotHeader with
  | some h => h.eventTurns
  | none => 0

/-- A cycle start has come: the first cycle is due, or the event turns are over and the cycle has run
its length (R1, R2). -/
def State.cycleDue (s : State) : Bool :=
  match s.ring.phase with
  | .due => true
  | .betweenTurns done =>
    decide (s.eventTurns ≤ done) && reached s.now s.ring.cycleStart s.ring.cycleLength
  | .idle => false
  | .token => false
  | .betweenSlots _ => false
  | .slot _ => false
  | .turn _ _ => false

/-- The cycle counter at a cycle start: the first cycle keeps the present value (R1, R3). -/
def State.nextCycle (s : State) : Nat :=
  if s.ring.phase = .due then s.ring.cycle else (s.ring.cycle + 1) % 64

/-- The length of a cycle decided at its start (R2). -/
def State.cycleLengthNow (s : State) : Nat :=
  match s.slotHeader with
  | some h => if s.site.mode = .standby then h.cycleLength * h.stretch else h.cycleLength
  | none => 0

/-- The cycle begins: its length is decided and the token sent. -/
def beginCycle (s : State) : State :=
  let s1 := s.withSamples
    { s.samples with racks := s.samples.racks.mapWith fun _ x => { x with junctionTaken := false } }
  sendToken (s1.withRing
    { s1.ring with
      phase := .token
      cycleStart := s.now
      cycleLength := s.cycleLengthNow
      tokenReturned := false })

end Sys2Proof.Machine
end

