-- ==== Sys2Proof/Machine/ConverterFlow.lean ====
section
/-!
DEFINITION. The converter and breaker interface's flow (chapter 9): status messages (R161, R163),
silence (R162), the pulse sequence (R165), the limit period (R160), and the site silence of R185,
whose timers a GRID swap judges together.
-/

namespace Sys2Proof.Machine

/-! ## The limit period (R160) -/

/-- The limit period in ms: the GRID table's, or 1000 ms while none is active. -/
def State.limitPeriod (s : State) : Nat :=
  match s.grid with
  | some g => g.limitPeriod
  | none => 1000

/-- The limit period timer has reached the limit period. -/
def State.periodIsDue (s : State) : Bool := reached s.now s.converter.periodSince s.limitPeriod

/-- The limit period timer is judged: at its expiry a message is due. -/
def periodDue (s : State) : State := if s.periodIsDue then messageDue s else s

/-- The sending of a limit message ends; a waiting one is composed. -/
def messageSent (s : State) : State :=
  let s1 := s.withConverter { s.converter with sending := false }
  if s.converter.waiting then composeMessage s1 else s1

/-! ## Grid state and silence (R162, R163) -/

/-- The grid state the part uses changes: the permit is judged and a container summary produced. -/
def gridActions (before after : GridState) : List (State → State) :=
  if before = after then [] else [judgePermit, produceContainerSummary]

/-- The silence watch expires: the converter becomes silent. -/
def expireSilence (s : State) : State :=
  let before := s.converter.grid
  let s1 := s.withConverter
    { s.converter with
      silent := true
      silentTrip := .running s.now
      silenceWatch := none
      grid := .lost }
  inAnyOrder (workOutContainer :: gridActions before .lost) s1

/-- The silence watch has reached the silence time in force. -/
def State.silenceIsDue (s : State) : Bool :=
  match s.grid with
  | some g => dueOption s.now s.converter.silenceWatch g.silenceTime
  | none => false

/-- The silence watch judged against the silence time in force. -/
def silenceDue (s : State) : State := if s.silenceIsDue then expireSilence s else s

/-- The silent-trip time in force, in ms (0 while no GRID table is active). -/
def State.silentTripTime (s : State) : Nat :=
  match s.grid with
  | some g => g.silentTrip * 1000
  | none => 0

/-- The silent-trip timer has reached the silent-trip time in force. -/
def State.silentTripIsDue (s : State) : Bool :=
  s.isActive .grid && s.converter.silentTrip.due s.now s.silentTripTime

/-- The silent-trip timer expires: CONVERTER_SILENT is sent, and the timer stands at full. -/
def expireSilentTrip (s : State) : State :=
  takeCause .converterSilent none .converterSilent
    (s.withConverter { s.converter with silentTrip := .full s.silentTripTime })

/-- The silent-trip timer judged against the silent-trip time in force. -/
def silentTripDue (s : State) : State := if s.silentTripIsDue then expireSilentTrip s else s

/-! ## Status messages (R161) -/

/-- The converter state shown: STOPPED until the first valid status (R163). -/
def Converter.shownState (c : Converter) : ConverterState :=
  match c.status with
  | some x => x.converter
  | none => .stopped

/-- The grid state of the last valid status, LOST until the first one. -/
def Converter.reportedGrid (c : Converter) : GridState :=
  match c.status with
  | some x => x.grid
  | none => .lost

/-- The status a message carries, if every field lies inside its values (check 3). -/
def statusOf (f : StatusFrame) (now : PartTime) : Option ConverterStatus :=
  match f.converter, f.grid with
  | .named c, .named g =>
    if 0 ≤ f.voltage ∧ f.voltage ≤ 10000 ∧ -20000 ≤ f.current ∧ f.current ≤ 20000 then
      some ⟨f.voltage, f.current, c, g, now⟩
    else none
  | _, _ => none

/-- The bytes of a status frame its CRC-16 covers. -/
def statusBytesOf (f : StatusFrame) : List Byte :=
  Config.statusBytes f.voltage f.current f.converter f.grid

/-- A valid status message is taken: it replaces the last one, restarts the silence watch and ends a
silence (R161, R162). -/
def takeStatus (x : ConverterStatus) (s : State) : State :=
  let c := s.converter
  let shown := decide (c.shownState ≠ x.converter) || decide (c.reportedGrid ≠ x.grid) ||
    decide (c.grid ≠ x.grid)
  let s1 := s.withConverter
    { c with
      status := some x
      grid := x.grid
      silenceWatch := if s.isActive .grid then some s.now else none
      silent := false
      silentTrip := .stopped }
  let ended : List (State → State) :=
    if c.silent then [workOutContainer, judgeContainerLatch .converterSilent] else []
  let grid : List (State → State) := if c.grid = x.grid then [] else [judgePermit]
  let summary : List (State → State) := if shown then [produceContainerSummary] else []
  inAnyOrder (ended ++ grid ++ summary) s1

/-- A converter status message arrives and is checked in order (R161). -/
def receiveStatus (f : StatusFrame) (s : State) : State :=
  let c := s.converter
  if !f.framingOk then
    s.withConverter { c with framingErrors := countUp 65535 c.framingErrors }
  else if f.crc ≠ crc16 (statusBytesOf f) then
    s.withConverter { c with crcErrors := countUp 65535 c.crcErrors }
  else match statusOf f s.now with
    | none => s.withConverter { c with rangeErrors := countUp 65535 c.rangeErrors }
    | some x => takeStatus x s

/-! ## The pulse sequence (R165) -/

/-- The breaker proof time in ms: the GRID table's, or 500 ms while none is active. -/
def State.breakerProof (s : State) : Nat :=
  match s.grid with
  | some g => g.breakerProof
  | none => 500

/-- A pulse has lasted 200 ms. -/
def State.pulseIsDue (s : State) : Bool :=
  s.converter.pulse = .pulsing && reached s.now s.converter.pulseSince 200

/-- The end of a 200 ms pulse: IDLE when the feedback reads open, PROVING otherwise. -/
def endPulse (s : State) : State :=
  let c := s.converter
  if c.breakerClosed then
    s.withConverter { c with pulse := .proving, proofSince := s.now, proofLimit := s.breakerProof }
  else s.withConverter { c with pulse := .idle }

/-- The breaker proof timer has reached its time with the feedback closed. -/
def State.breakerProofIsDue (s : State) : Bool :=
  s.converter.pulse = .proving && s.converter.breakerClosed &&
    reached s.now s.converter.proofSince s.converter.proofLimit

/-- The breaker proof timer expires with the feedback closed (R165). DESIGN CHOICE (log entry 66): the
number of pulses that BREAKER_FAILED carries is the pulse number, also where a request restarted the
numbering. -/
def expireBreakerProof (s : State) : State :=
  let c := s.converter
  if c.pulseNumber < 3 then beginPulse (c.pulseNumber + 1) s
  else post (.breakerFailed c.pulseNumber) (s.withConverter { c with pulse := .failed })

/-- The breaker feedback changes. -/
def changeBreaker (closed : Bool) (s : State) : State :=
  let c := s.converter
  let pulse : PulseState :=
    if closed then c.pulse
    else match c.pulse with
      | .proving => .idle
      | .failed => .idle
      | .idle => .idle
      | .pulsing => .pulsing
  s.withConverter { c with breakerClosed := closed, pulse := pulse }

/-! ## Site silence (R185) -/

/-- The site silence timer expires: AUTONOMOUS is set, and the connect queue emptied. -/
def expireSiteSilence (s : State) : State :=
  let s1 := s.withSite { s.site with autonomous := true, silence := none }
  cancelQueue .siteSilence (produceContainerSummary
    (post (.modeChange s1.site.mode s1.site.mode true .siteSilence) s1))

/-- The site silence timer has reached the site silence time in force. -/
def State.siteSilenceIsDue (s : State) : Bool :=
  match s.grid with
  | some g => dueOption s.now s.site.silence (g.siteSilence * 1000)
  | none => false

/-- The site silence timer judged against the site silence time in force. -/
def siteSilenceDue (s : State) : State :=
  if s.siteSilenceIsDue then expireSiteSilence s else s

/-- A valid downward frame restarts the site silence timer and clears AUTONOMOUS. -/
def siteHeard (s : State) : State :=
  let was := s.site.autonomous
  let s1 := s.withSite
    { s.site with
      silence := if s.isActive .grid then some s.now else none
      autonomous := false }
  if was then
    produceContainerSummary
      (post (.modeChange s1.site.mode s1.site.mode false .siteResumed) s1)
  else s1

/-! ## The GRID swap (R143, R160, R162, R185) -/

/-- The converter's timers at a GRID swap: the silence watch starts at the swap that first makes a GRID
table active, and every running timer is judged against its new time. DESIGN CHOICE (log entry 65): the
limit period first, then the silence watch, then the silent-trip timer. -/
def converterAtGridSwap (first : Bool) (s : State) : State :=
  let s1 := periodDue s
  if first then s1.withConverter { s1.converter with silenceWatch := some s1.now }
  else silentTripDue (silenceDue s1)

/-- The site silence timer at a GRID swap. -/
def siteAtGridSwap (first : Bool) (s : State) : State :=
  if first then s.withSite { s.site with silence := some s.now } else siteSilenceDue s

/-- The owners of the GRID settings at a swap, in no order among them. -/
def gridSwapped (first : Bool) (s : State) : State :=
  inAnyOrder
    [switchAtGridSwap, workOutContainer, converterAtGridSwap first, siteAtGridSwap first] s

/-- The interface at any reset (R167): the breaker feedback is kept as read. -/
def Converter.afterReset (now : PartTime) (gridActive breakerClosed : Bool) : Converter :=
  { Converter.initial with
    periodSince := now
    silenceWatch := if gridActive then some now else none
    breakerClosed := breakerClosed }

end Sys2Proof.Machine
end

