-- ==== Sys2Proof/Machine/Swaps.lean ====
section
/-!
DEFINITION. Table swaps (R175, R176): the banks, what every owning block does at the swap, the
completion of the required set, and the settling of the rack sequencer at the close of a step, where
the switching hold ends and a waiting GRID table swaps (R128, R137, R155).
-/

namespace Sys2Proof.Machine

/-! ## Banks (R175) -/

/-- The banks of a COMMITTED table swap: the pending contents become active with their digest, and the
pending bank becomes a copy of them, CLEAN. -/
def TableState.swap (x : TableState) : TableState :=
  ⟨x.pending, x.pending, .clean, x.pending.map digestOf⟩

def swapBank (t : TableName) (s : State) : State := s.setTable t (s.table t).swap

/-- TABLE_SWAPPED of a table that has swapped. -/
def postSwapped (t : TableName) (s : State) : State :=
  post (.tableSwapped t ((s.table t).digest.getD 0) s.ring.cycle) s

/-- The seven tables of the required set (R176). -/
def requiredTables : List TableName := [.slot, .cal, .tconv, .limit, .rack, .derate, .grid]

/-- The required set is judged after a swap: when it is first complete, the part leaves UNCONFIGURED
for RUN. -/
def judgeRequiredSet (s : State) : State :=
  if !s.tables.requiredSet && requiredTables.all s.isActive then
    changeMode .run .requiredSet (s.withTables { s.tables with requiredSet := true })
  else s

/-! ## The balancing scheduler at a SLOT swap (R71) -/

/-- The balancing records of a SLOT table as they are created, in order of rack, node address and channel.
DESIGN CHOICE (log entry 72): R71 gives a created record its seconds and its state, and the model clears
its commanded bit, its echoed bit and its counted-second mark. -/
def newBalanceRecords (s : State) : List BalanceRecord :=
  (sortBy SlotEntry.comesBefore (s.entriesOfKind .cell)).flatMap fun e =>
    match e.rackOf with
    | some r =>
      (List.range e.cells).map fun c =>
        let budget := (s.dailyBudget r).getD 0
        ⟨r, e.node, c, if budget = 0 then .budgetSpent else .idle, budget, false, false, false⟩
    | none => []

/-- Records whose cell is still fitted keep all their fields. -/
def carryBalance (old new : List BalanceRecord) : List BalanceRecord :=
  new.map fun b => (old.find? b.sameCell).getD b

/-- The node state of CELL nodes over a swap: kept under the same kind and rack. -/
def carryBalanceNodes (old : List BalanceNode) (before after : List SlotEntry) :
    List BalanceNode :=
  (after.filter fun e => e.nodeKind = .cell).map fun e =>
    let stays := before.any fun x =>
      x.node = e.node && x.nodeKind = e.nodeKind && x.rackOf = e.rackOf
    let fresh : BalanceNode := ⟨e.node, false, 0, none⟩
    if stays then (old.find? fun n => n.node = e.node).getD fresh else fresh

def balanceSwapped (before : List SlotEntry) (s : State) : State :=
  s.withBalance
    { s.balance with
      records := carryBalance s.balance.records (newBalanceRecords s)
      nodes := carryBalanceNodes s.balance.nodes before s.entries }

/-! ## The trip unit at a SLOT swap (R154) -/

/-- A node of an awaited set left without an enabled entry in the latch's rack counts as heard. The
latches are judged at the occasions R154 names, of which the swap is none. -/
def tripsAtSlotSwap (s : State) : State :=
  forRacks Rack.all
    (fun r acc =>
      let gone (node : Nat) : Bool :=
        !acc.entries.any fun e => e.node = node && e.rackOf = some r
      markHeard r gone acc) s

/-! ## Ring-path swaps -/

/-- What the blocks need of the tables that were active before a swap. -/
structure Before where
  entries : List SlotEntry
  slotActive : Bool
  entryOf : PerRack (Option RackEntry)
  inForce : PerRack (Option RackEntry)
  derate : Option DerateRecord
  deriving DecidableEq, Repr

def State.before (s : State) : Before :=
  ⟨s.entries, s.isActive .slot, ⟨s.rackEntry .r1, s.rackEntry .r2, s.rackEntry .r3, s.rackEntry .r4⟩,
    ⟨s.rackConfig .r1, s.rackConfig .r2, s.rackConfig .r3, s.rackConfig .r4⟩, s.derate⟩

/-- The blocks at a SLOT swap (R7, R24, R49, R71, R117, R154). -/
def slotSwapped (b : Before) (s : State) : State :=
  tripsAtSlotSwap (refreshGasFault (limitsAtSlotSwap (balanceSwapped b.entries
    (samplesSwapped b.entries (ringSwapped s)))))

/-- A rack's limit set at a RACK swap differs from the one named before (R38). DESIGN CHOICE (log entry
53): the limit set fields of both entries are compared, whether or not the entries are enabled. -/
def limitSetChanged (b : Before) (s : State) (r : Rack) : Bool :=
  match b.entryOf.get r, s.rackEntry r with
  | some x, some y => decide (x.limitSet ≠ y.limitSet)
  | _, _ => false

/-- A rack newly enabled has had no set complete (R129). -/
def forgetSets (b : Before) (s : State) : State :=
  s.withSamples
    { s.samples with
      racks := s.samples.racks.mapWith fun r x =>
        if s.rackEnabled r && (b.inForce.get r).isNone then { x with hadSet := false } else x }

/-- The blocks at a RACK swap (R38, R42, R58). -/
def rackSwapped (b : Before) (s : State) : State :=
  forRacks Rack.all (blindTimerSwapped fun r => (b.inForce.get r).isSome)
    (forgetSets b (limitsAtRackSwap b.inForce.get (clearSides (limitSetChanged b s) s)))

/-- A rack that a swap of these tables withdraws (R142): its RACK entry becomes not enabled, or a SLOT
swap leaves it with no enabled entry. -/
def withdrawn (names : List TableName) (b : Before) (s : State) (r : Rack) : Bool :=
  ((b.inForce.get r).isSome && !s.rackEnabled r) ||
    (names.contains .slot && s.racksWithoutEntry.contains r)

/-- What the owner of a ring-path table does at its swap; a CAL, TCONV or OCV swap asks nothing more.
DESIGN CHOICE (log entry 53): a LIMIT swap clears the counts of every rack's sides, also of a rack whose
RACK entry is not enabled (R38). -/
def ownerAtSwap (b : Before) (t : TableName) (s : State) : State :=
  match t with
  | .slot => slotSwapped b s
  | .limit => clearSides (fun _ => true) s
  | .rack => rackSwapped b s
  | .derate => limitsAtDerateSwap b.derate s
  | .cal | .tconv | .ocv | .cool | .fire | .grid => s

/-- COMMITTED ring-path tables swap together: the banks first, then the events in no order, then what
the owners do under the tables in force once all have swapped, in no order either (R175, log entry 1).
DESIGN CHOICE (log entry 70): what rests on several of them comes last, withdrawn racks first. -/
def swapRingPath (names : List TableName) (s : State) : State :=
  if names.isEmpty then s
  else
    let b := s.before
    let s1 := inAnyOrder (names.map postSwapped)
      (names.foldl (fun acc t => swapBank t acc) s)
    let s2 := inAnyOrder (names.map (ownerAtSwap b)) s1
    let s3 := forRacks (Rack.all.filter (withdrawn names b s2)) withdrawRack s2
    startRing (judgeRequiredSet (powerOnReload s3))

/-- The ring-path tables COMMITTED at this moment. -/
def State.committedRingPath (s : State) : List TableName :=
  TableName.ringPath.filter fun t => (s.table t).state = .committed

/-! ## COOL, FIRE and GRID swaps (R87, R119, R143) -/

/-- The running proof timer of an output stands at or beyond its proof time. -/
def State.proofIsDue (s : State) (o : Output) : Bool :=
  dueOption s.now (s.cooling.outputs.get o).proof (s.proofTime o)

/-- The outputs whose proof timer is due. -/
def State.dueProofs (s : State) : List Output := Output.all.filter s.proofIsDue

/-- A proof timer judged against the proof time in force (R93). -/
def proofDue (o : Output) (s : State) : State := if s.proofIsDue o then expireProof o s else s

/-- The blind hold timer has reached the blind hold time in force. -/
def State.blindHoldIsDue (s : State) : Bool :=
  match s.cool with
  | some h => dueOption s.now s.cooling.blindHold (h.blindHold * 1000)
  | none => false

/-- The blind hold timer judged against the blind hold time in force (R91). -/
def blindHoldDue (s : State) : State := if s.blindHoldIsDue then expireBlindHold s else s

/-- The cooling controller at a COOL swap (R87). DESIGN CHOICE (log entry 57): the level is clipped and
the commands, factor and allowance worked out first, then the proof timers that are due expire, and
the blind hold is judged last. -/
def coolSwapped (first : Bool) (s : State) : State :=
  let levels := match s.cool with
    | some h => h.levels
    | none => 0
  let c := s.cooling
  let above := decide (levels < c.level)
  let s1 := s.withCooling
    { c with
      interval := if first then some s.now else c.interval
      level := if above then levels else c.level
      levelSince := if above then s.now else c.levelSince }
  let s2 := refreshAllowance (refreshFactor (composeCommands s1))
  blindHoldDue (inAnyOrder (s2.dueProofs.map proofDue) s2)

/-- The COOL table swaps. -/
def swapCool (s : State) : State :=
  let first := !s.isActive .cool
  coolSwapped first (postSwapped .cool (swapBank .cool s))

/-- The FIRE table swaps. -/
def swapFire (s : State) : State :=
  let old := s.lineSettings
  fireSwapped old (postSwapped .fire (swapBank .fire s))

/-- The GRID table swaps. -/
def swapGrid (s : State) : State :=
  let first := !s.isActive .grid
  judgeRequiredSet (gridSwapped first (postSwapped .grid (swapBank .grid s)))

/-! ## Settling the rack sequencer (R128, R137, R155) -/

/-- The switching hold ends at the change that takes the last rack out (R137): the limit computer and
the converter hear of it, and a COMMITTED GRID table swaps (R175). -/
def endHold (s : State) : State :=
  if s.sequencer.hold && !s.anySwitching then
    let s1 := workOutContainer (s.withSequencer { s.sequencer with hold := false })
    if (s1.table .grid).state = .committed then swapGrid s1 else s1
  else s

/-- The rack sequencer comes to rest within the step: the WELDED latch is judged (R155), pending
disconnects are granted (R128), and the hold ends when no rack is left switching. A GRID swap at that
end may move racks again, so it is done twice. -/
def settle (s : State) : State :=
  endHold (grantDisconnects 4 (judgeContainerLatch .welded
    (endHold (grantDisconnects 4 (judgeContainerLatch .welded s)))))

/-- The close of a step that may have moved racks: the sequencer settles, then the arbiter. -/
def conclude (s : State) : Host.Outcome State Fault Refusal := finish (settle s)

/-- A step that acts when its condition stands, with nothing that moves racks; otherwise the command
finds nothing to do and the state stays as it is (log entry 2). -/
def actWhen (due : Bool) (act : State → State) (s : State) : Host.Outcome State Fault Refusal :=
  if due then finish (act s) else .next s

/-- The same for a step that may move racks. -/
def moveWhen (due : Bool) (act : State → State) (s : State) : Host.Outcome State Fault Refusal :=
  if due then conclude (act s) else .next s

/-- A request step with an owner that moves no rack (log entry 4). -/
def serve (tag : Byte) (q : Request) (owner : State → Answer) (s : State) :
    Host.Outcome State Fault Refusal :=
  actWhen (s.mayTake tag q) (takeRequest tag q owner) s

/-- A request step with an owner that may move racks. -/
def serveMoving (tag : Byte) (q : Request) (owner : State → Answer) (s : State) :
    Host.Outcome State Fault Refusal :=
  moveWhen (s.mayTake tag q) (takeRequest tag q owner) s

/-! ## TABLE_COMMIT (R173) -/

/-- The swap point of a table is the commit itself (R175). -/
def State.swapsAtCommit (s : State) (t : TableName) : Bool :=
  match t with
  | .cool => !s.isActive .cool
  | .fire => true
  | .grid => !s.sequencer.hold
  | .slot => s.ring.phase = .idle
  | .cal => s.ring.phase = .idle
  | .tconv => s.ring.phase = .idle
  | .limit => s.ring.phase = .idle
  | .rack => s.ring.phase = .idle
  | .derate => s.ring.phase = .idle
  | .ocv => s.ring.phase = .idle

/-- A table swaps now. -/
def swapNow (t : TableName) (s : State) : State :=
  match t with
  | .cool => swapCool s
  | .fire => swapFire s
  | .grid => swapGrid s
  | .slot => swapRingPath [.slot] s
  | .cal => swapRingPath [.cal] s
  | .tconv => swapRingPath [.tconv] s
  | .limit => swapRingPath [.limit] s
  | .rack => swapRingPath [.rack] s
  | .derate => swapRingPath [.derate] s
  | .ocv => swapRingPath [.ocv] s

/-- A bank that has passed its commit becomes COMMITTED, and swaps at once where its swap point is the
commit. -/
def acceptCommit (t : TableName) (s : State) : Answer :=
  let s1 := s.setTable t { s.table t with state := .committed }
  if s1.swapsAtCommit t then ⟨swapNow t s1, .ok, .swap true⟩ else ⟨s1, .ok, .swap false⟩

/-- Steps 4 to 7 of R173 on an EDITED bank. -/
def judgeCommit (t : TableName) (digest : Code) (bank : Bank) (s : State) : Answer :=
  if t = .fire && !s.quiet then ⟨s, .fireActive, .nothing⟩
  else if digestOf bank ≠ digest then ⟨s, .digestMismatch, .digest (digestOf bank)⟩
  else match firstFailure (failuresOf t bank) with
    | some (index, reason) => ⟨s, .invalidTable, .invalid index reason⟩
    | none => acceptCommit t s

/-- TABLE_COMMIT (R173). -/
def answerCommit (table : Option TableName) (digest : Code) (s : State) : Answer :=
  match table with
  | none => ⟨s, .badRequest, .nothing⟩
  | some t =>
    match (s.table t).state, (s.table t).pending with
    | .clean, _ => ⟨s, .already, .nothing⟩
    | .committed, _ => ⟨s, .commitPending, .nothing⟩
    | .edited, some bank => judgeCommit t digest bank s
    | .edited, none => ⟨s, .already, .nothing⟩

/-! ## TABLE_WRITE and TABLE_READ (R170, R171) -/

/-- A count of images lies in 1..32. -/
def countInRange (n : Nat) : Bool := within 1 32 n

/-- A bank of blank images (R169). -/
def blankBank (t : TableName) : Bank :=
  List.replicate t.positions (List.replicate t.imageLength 0#8)

/-- The images a frame carries, `length` bytes each. -/
def imagesOf (length : Nat) : Nat → List Byte → List Image
  | 0, _ => []
  | n + 1, data => data.take length :: imagesOf length n (data.drop length)

/-- Images written into a bank from an index on. -/
def writeImages (first : Nat) : List Image → Bank → Bank
  | [], bank => bank
  | im :: rest, bank => writeImages (first + 1) rest (bank.set first im)

/-- The pending bank after an accepted write. -/
def TableState.write (x : TableState) (t : TableName) (first : Nat) (images : List Image) :
    TableState :=
  { x with
    pending := some (writeImages first images (x.pending.getD (blankBank t)))
    state := .edited }

/-- TABLE_WRITE (R170). -/
def answerWrite (table : Option TableName) (first count : Nat) (data : List Byte) (s : State) :
    Answer :=
  match table with
  | none => ⟨s, .badRequest, .nothing⟩
  | some t =>
    if !countInRange count || data.length ≠ count * t.imageLength then ⟨s, .badRequest, .nothing⟩
    else if t.positions < first + count then ⟨s, .badIndex, .positions t.positions⟩
    else if (s.table t).state = .committed then ⟨s, .commitPending, .nothing⟩
    else
      ⟨s.setTable t ((s.table t).write t first (imagesOf t.imageLength count data)), .ok, .nothing⟩

/-- The bank a TABLE_READ names. -/
def TableState.bank (x : TableState) : BankName → Option Bank
  | .active => x.active
  | .pending => x.pending

/-- TABLE_READ (R171). -/
def answerRead (table : Option TableName) (bank : Option BankName) (first count : Nat) (s : State) :
    Answer :=
  match table, bank with
  | some t, some b =>
    if !countInRange count then ⟨s, .badRequest, .nothing⟩
    else if t.positions < first + count then ⟨s, .badIndex, .nothing⟩
    else match (s.table t).bank b with
      | none => ⟨s, .notConfigured, .nothing⟩
      | some images =>
        ⟨s, .ok, .images ((images.drop first).take count) (s.table t).state (s.table t).digest⟩
  | _, _ => ⟨s, .badRequest, .nothing⟩

/-- A table after a pin or command reset (R177). -/
def TableState.afterReset (x : TableState) : TableState :=
  ⟨x.active, x.active, .clean, x.digest⟩

end Sys2Proof.Machine
end

