-- ==== Sys2Proof/Machine/BalanceCommands.lean ====
section
/-!
DEFINITION. The commands of the balancing scheduler (chapter 4).
-/

namespace Sys2Proof.Machine

/-- ONE_SECOND_TIMER_EXPIRY (R73): the timer runs again from the boundary. -/
def execOneSecondTimerExpiry (s : State) : Host.Outcome State Fault Refusal :=
  actWhen (reached s.now s.balance.secondSince 1000)
    (fun x => secondBoundary
      (x.withBalance { x.balance with secondSince := x.balance.secondSince + 1000 })) s

/-- DAILY_RELOAD_TIMER_EXPIRY (R72): the timer runs again from that expiry. -/
def execDailyReloadTimerExpiry (s : State) : Host.Outcome State Fault Refusal :=
  actWhen (reached s.now s.balance.dailySince 86400000)
    (fun x => reload (fun _ => true)
      (x.withBalance { x.balance with dailySince := x.balance.dailySince + 86400000 })) s

/-- The cool-down timer of a node has reached its time (R79). -/
def State.coolDownIsDue (s : State) (node : Nat) : Bool :=
  match (s.balanceNode node).bind (·.coolDown) with
  | some c => reached s.now c.since (c.seconds * 1000)
  | none => false

/-- The cool-down timer of a node stops, and a node with no BALANCE_FAULT mark resumes (R79). -/
def endCoolDown (node : Nat) (s : State) : State :=
  resumeRecords node (mapBalanceNode node ({ · with coolDown := none }) s)

/-- COOL_DOWN_TIMER_EXPIRY (R79). -/
def execCoolDownTimerExpiry (node : Nat) (s : State) : Host.Outcome State Fault Refusal :=
  actWhen (s.coolDownIsDue node) (endCoolDown node) s

/-! ## BALANCE_ENABLE and BUDGET_RELOAD (R72, R81) -/

/-- The mask is empty or names a rack whose RACK entry is not enabled. -/
def State.badBalanceMask (s : State) (mask : RackMask) : Bool :=
  decide (mask = 0) || (racksOf mask).any fun r => !s.rackEnabled r

/-- ON for one rack: the flag is set, and its nodes' echo faults are cleared. -/
def enableBalance (r : Rack) (s : State) : State :=
  let s1 := s.setRackBalance r { s.balance.racks.get r with enabled := true }
  (s1.cellNodes r).foldl
    (fun acc node =>
      resumeRecords node (mapBalanceNode node ({ · with fault := false, mismatches := 0 }) acc)) s1

/-- OFF for one rack: the flag is cleared, and its ACTIVE records end at once. -/
def disableBalance (r : Rack) (s : State) : State :=
  endActive (fun b => b.rack = r)
    (s.setRackBalance r { s.balance.racks.get r with enabled := false })

/-- BALANCE_ENABLE's answer (R81). -/
def answerBalanceEnable (mask : RackMask) (on : Bool) (s : State) : Answer :=
  if !s.isActive .rack then ⟨s, .notConfigured, .nothing⟩
  else if s.badBalanceMask mask then ⟨s, .badRequest, .nothing⟩
  else ⟨forRacks (racksOf mask) (if on then enableBalance else disableBalance) s, .ok, .nothing⟩

/-- BALANCE_ENABLE (R81). -/
def execBalanceEnable (tag : Byte) (racks : RackMask) (on : Bool) (s : State) :
    Host.Outcome State Fault Refusal :=
  serve tag (.balanceEnable racks on) (answerBalanceEnable racks on) s

/-- BUDGET_RELOAD's answer (R72). -/
def answerBudgetReload (mask : RackMask) (s : State) : Answer :=
  if !s.isActive .rack then ⟨s, .notConfigured, .nothing⟩
  else if s.badBalanceMask mask then ⟨s, .badRequest, .nothing⟩
  else ⟨reload (fun r => (racksOf mask).contains r) s, .ok, .nothing⟩

/-- BUDGET_RELOAD (R72). -/
def execBudgetReload (tag : Byte) (racks : RackMask) (s : State) :
    Host.Outcome State Fault Refusal :=
  serve tag (.budgetReload racks) (answerBudgetReload racks) s

end Sys2Proof.Machine
end

