-- ==== Sys2Proof/Machine/ConverterCommands.lean ====
section
/-!
DEFINITION. The commands of the converter and breaker interface (chapter 9).
-/

namespace Sys2Proof.Machine

/-- LIMIT_PERIOD_EXPIRY (R160). -/
def execLimitPeriodExpiry (s : State) : Host.Outcome State Fault Refusal :=
  actWhen s.periodIsDue messageDue s

/-- LIMIT_MESSAGE_SENT (R160): the sending of a limit message ends. -/
def execLimitMessageSent (s : State) : Host.Outcome State Fault Refusal :=
  actWhen s.converter.sending messageSent s

/-- CONVERTER_STATUS (R161). -/
def execConverterStatus (f : StatusFrame) (s : State) : Host.Outcome State Fault Refusal :=
  conclude (receiveStatus f s)

/-- SILENCE_WATCH_EXPIRY (R162). -/
def execSilenceWatchExpiry (s : State) : Host.Outcome State Fault Refusal :=
  actWhen s.silenceIsDue expireSilence s

/-- SILENT_TRIP_EXPIRY (R162). -/
def execSilentTripExpiry (s : State) : Host.Outcome State Fault Refusal :=
  moveWhen s.silentTripIsDue expireSilentTrip s

/-- BREAKER_PULSE_END (R165). -/
def execBreakerPulseEnd (s : State) : Host.Outcome State Fault Refusal :=
  actWhen s.pulseIsDue endPulse s

/-- BREAKER_PROOF_EXPIRY (R165). -/
def execBreakerProofExpiry (s : State) : Host.Outcome State Fault Refusal :=
  actWhen s.breakerProofIsDue expireBreakerProof s

/-- BREAKER_FEEDBACK_CHANGE (R165). -/
def execBreakerFeedbackChange (closed : Bool) (s : State) : Host.Outcome State Fault Refusal :=
  finish (changeBreaker closed s)

end Sys2Proof.Machine
end

