-- ==== Sys2Proof/Machine/CoolingCommands.lean ====
section
/-!
DEFINITION. The commands of the cooling controller (chapter 5).
-/

namespace Sys2Proof.Machine

/-! ## The control interval (R87) -/

/-- The control interval timer has reached the interval in force. -/
def State.intervalIsDue (s : State) : Bool :=
  match s.cool with
  | some h => dueOption s.now s.cooling.interval (h.interval * 1000)
  | none => false

/-- The blind state judged at an expiry (R91). -/
def judgeBlindState (s : State) : State :=
  match s.hottest, s.cooling.blind with
  | none, .clear => s.withCooling { s.cooling with blind := .holding, blindHold := some s.now }
  | none, .holding => s
  | none, .fallback => s
  | some _, .clear => s
  | some _, .holding => s.withCooling { s.cooling with blind := .clear, blindHold := none }
  | some t, .fallback =>
    post (.coolingRecovered s.cooling.level t) (s.withCooling { s.cooling with blind := .clear })

/-- The step of the ladder at a level and a control temperature (R89). -/
def ladderStep (h : CoolHeader) (level : Nat → CoolLevel) (k : Nat) (t : Int) : Nat :=
  let up := if k = 0 then h.startTemperature else (level k).up
  if k < h.levels ∧ up ≤ t then k + 1
  else if 0 < k ∧ t < (level k).down then k - 1
  else k

/-- The ladder steps at an expiry (R89). -/
def stepLadder (s : State) : State :=
  match (s.table .cool).active, s.hottest with
  | some bank, some t =>
    let k := s.cooling.level
    let next := ladderStep (coolHeaderOf bank) (coolLevelAt bank) k t
    if s.site.mode ≠ .standby ∧ s.cooling.blind ≠ .fallback ∧ next ≠ k ∧
        s.dwell ≤ elapsed s.now s.cooling.levelSince then setLevel next s
    else s
  | _, _ => s

/-- The heater demand judged at an expiry (R92). -/
def judgeHeater (s : State) : State :=
  match s.cool, s.coldest with
  | some h, some t =>
    if s.cooling.blind = .fallback then s
    else if t < h.heaterOn then setHeaterDemand true s
    else if h.heaterOff ≤ t then setHeaterDemand false s
    else s
  | _, _ => s

/-- A COMMITTED COOL table swaps before anything else is done at the expiry. -/
def swapCoolIfCommitted (s : State) : State :=
  if (s.table .cool).state = .committed then swapCool s else s

/-- The steps of an expiry, in order. -/
def controlStep (s : State) : State :=
  let s1 := swapCoolIfCommitted s
  let s2 := s1.withCooling { s1.cooling with interval := some s1.now }
  judgeCoolingLoss (judgeHeater (stepLadder (judgeBlindState s2)))

/-- CONTROL_INTERVAL_EXPIRY (R87). -/
def execControlIntervalExpiry (s : State) : Host.Outcome State Fault Refusal :=
  moveWhen s.intervalIsDue controlStep s

/-- BLIND_HOLD_TIMER_EXPIRY (R91). -/
def execBlindHoldTimerExpiry (s : State) : Host.Outcome State Fault Refusal :=
  actWhen s.blindHoldIsDue expireBlindHold s

/-! ## Outputs (R93, R95) -/

/-- An output's feedback input changes: its proof timer follows, and the commands are composed again,
since a compressor's feedback is one of their inputs. -/
def changeOutputFeedback (o : Output) (on : Bool) (s : State) : State :=
  let x := s.cooling.outputs.get o
  composeCommands (s.setOutput o (x.settle s.now x.command on))

/-- OUTPUT_FEEDBACK_CHANGE (R86, R93). -/
def execOutputFeedbackChange (o : Output) (on : Bool) (s : State) :
    Host.Outcome State Fault Refusal :=
  finish (changeOutputFeedback o on s)

/-- PROOF_TIMER_EXPIRY (R93). -/
def execProofTimerExpiry (o : Output) (s : State) : Host.Outcome State Fault Refusal :=
  moveWhen (s.proofIsDue o) (expireProof o) s

/-- The outputs whose status is FAILED or STUCK_ON. -/
def State.faultyOutputs (s : State) : List Output :=
  Output.all.filter fun o => (s.cooling.outputs.get o).status ≠ .normal

/-- Every status becomes NORMAL. -/
def clearStatuses (s : State) : State :=
  s.withCooling
    { s.cooling with
      outputs := s.cooling.outputs.mapWith fun _ x => { x with status := .normal } }

/-- COOLING_FAULT_CLEAR's answer (R95). -/
def answerCoolingFaultClear (s : State) : Answer :=
  let faulty := s.faultyOutputs
  if faulty.isEmpty then ⟨s, .already, .nothing⟩
  else ⟨statusesChanged (faulty.contains .pump) (clearStatuses s), .ok, .outputs faulty⟩

/-- COOLING_FAULT_CLEAR (R95). -/
def execCoolingFaultClear (tag : Byte) (s : State) : Host.Outcome State Fault Refusal :=
  serveMoving tag .coolingFaultClear answerCoolingFaultClear s

end Sys2Proof.Machine
end

