-- ==== Sys2Proof/Machine/FireCommands.lean ====
section
/-!
DEFINITION. The commands of the fire and gas unit (chapter 6).
-/

namespace Sys2Proof.Machine

/-- A line's reading changes (R104). -/
def changeReading (l : Line) (reading : LineClass) (s : State) : State :=
  s.setLine l ((s.fire.lines.get l).read s.now reading)

/-- LINE_READING_CHANGE (R104). -/
def execLineReadingChange (l : Line) (reading : LineClass) (s : State) :
    Host.Outcome State Fault Refusal :=
  finish (changeReading l reading s)

/-- LINE_DEBOUNCE_EXPIRY (R104). -/
def execLineDebounceExpiry (l : Line) (s : State) : Host.Outcome State Fault Refusal :=
  moveWhen (s.debounceIsDue l) (debounceDue l) s

/-- The horn's pattern has run its 500 ms on or its 1500 ms off (R113). -/
def State.hornIsDue (s : State) : Bool :=
  s.fire.stage = .preAlarm && reached s.now s.fire.hornSince (if s.fire.horn then 500 else 1500)

/-- The horn turns over. -/
def toggleHorn (s : State) : State :=
  s.withFire { s.fire with horn := !s.fire.horn, hornSince := s.now }

/-- HORN_PATTERN_TOGGLE (R113). -/
def execHornPatternToggle (s : State) : Host.Outcome State Fault Refusal :=
  actWhen s.hornIsDue toggleHorn s

/-- The countdown has run its time (R114). -/
def State.countdownIsDue (s : State) : Bool :=
  s.fire.stage = .countdown &&
    dueOption s.now s.fire.countdown (s.fireRecord.countdown * 1000)

/-- COUNTDOWN_EXPIRY (R114). -/
def execCountdownExpiry (s : State) : Host.Outcome State Fault Refusal :=
  moveWhen s.countdownIsDue expireCountdown s

/-- The release pulse has run its time (R115). -/
def State.releaseIsDue (s : State) : Bool :=
  dueOption s.now s.fire.pulse (s.fireRecord.pulse * 1000)

/-- The release output is deasserted. -/
def endRelease (s : State) : State := s.withFire { s.fire with release := false, pulse := none }

/-- RELEASE_PULSE_END (R115). -/
def execReleasePulseEnd (s : State) : Host.Outcome State Fault Refusal :=
  actWhen s.releaseIsDue endRelease s

/-- The feedback watch has run its time (R115). DESIGN CHOICE (log entry 59): the feedback time is that of
the FIRE table in force at the expiry, also where a FIRE swap came while the watch ran. -/
def State.feedbackIsDue (s : State) : Bool :=
  s.fire.watch = .awaiting && dueOption s.now s.fire.watchSince (s.fireRecord.feedback * 1000)

/-- FEEDBACK_WATCH_EXPIRY (R115). -/
def execFeedbackWatchExpiry (s : State) : Host.Outcome State Fault Refusal :=
  actWhen s.feedbackIsDue expireWatch s

/-- FIRE_ACK (R108). -/
def execFireAck (tag : Byte) (s : State) : Host.Outcome State Fault Refusal :=
  serveMoving tag .fireAck answerFireAck s

/-- FIRE_RESET (R111). -/
def execFireReset (tag : Byte) (s : State) : Host.Outcome State Fault Refusal :=
  serveMoving tag .fireReset answerFireReset s

end Sys2Proof.Machine
end

