-- ==== Sys2Proof/Machine/Resets.lean ====
section
/-!
DEFINITION. The three resets (spec/00_scope.md, "Resets"; R22, R48, R70, R85, R103, R122, R145, R158,
R167, R177, R187). What a kind of reset keeps is settled first, then every block takes its reset value
under the tables that are left, and the feedbacks that read closed are judged. The readings of the
input pins are kept, and so are the model's own fields.
-/

namespace Sys2Proof.Machine

/-! ## What each kind of reset keeps -/

/-- The tables, limits, balancing and trip records lost by a power-on reset, with the hard-break
counts. -/
def losePower (s : State) : State :=
  let s1 := s.withTables .initial
  let s2 := s1.withLimits .initial
  let s3 := s2.withBalance .initial
  let s4 := s3.withTrips .initial
  s4.withSequencer
    { s4.sequencer with racks := s4.sequencer.racks.mapWith fun _ x => { x with hardBreaks := 0 } }

/-- The table store after a pin or command reset (R177). -/
def Tables.afterReset (x : Tables) : Tables :=
  ⟨x.tables.mapWith fun _ t => t.afterReset, x.requiredSet⟩

/-- A balancing record after a pin or command reset (R85). -/
def BalanceRecord.afterReset (b : BalanceRecord) : BalanceRecord :=
  { b with state := .idle, commanded := false, echoed := false, counted := false }

/-- The scheduler after a pin or command reset (R85): the timers run from the end of the reset. -/
def Balance.afterReset (now : PartTime) (x : Balance) : Balance where
  records := x.records.map .afterReset
  nodes := x.nodes.map fun n => ⟨n.node, false, 0, none⟩
  racks := x.racks.mapWith fun _ r => ⟨r.enabled, .notYet, none, true⟩
  reloadPending := false
  dailySince := now
  secondSince := now

/-- The trip unit after a pin or command reset (R158). -/
def Trips.afterReset (x : Trips) : Trips where
  racks := .fill .initial
  container := .initial
  history := x.history.map fun h => { h with awaited := [] }
  sequence := x.sequence

/-- What a pin or command reset keeps. -/
def keepTables (s : State) : State :=
  let s1 := s.withTables s.tables.afterReset
  let s2 := s1.withLimits
    { Limits.initial with racks := s.limits.racks.mapWith fun _ x => x.kept }
  let s3 := s2.withBalance (s.balance.afterReset 0)
  s3.withTrips s.trips.afterReset

/-! ## Every reset -/

/-- The cooling controller at any reset (R103): the feedback readings are kept, and an output whose
feedback reads on has its proof timer running. -/
def coolingReset (s : State) : State :=
  s.withCooling
    { Cooling.initial with
      levelSince := s.now
      interval := if s.isActive .cool then some s.now else none
      outputs := s.cooling.outputs.mapWith fun _ x =>
        { OutputState.initial with
          feedback := x.feedback
          proof := if x.feedback then some s.now else none }
      allowance := match s.cool with
        | some h => h.normalAllowance
        | none => 0 }

/-- The rack sequencer at any reset (R145). -/
def switchReset (s : State) : State :=
  s.withSequencer
    { Sequencer.initial with
      racks := s.sequencer.racks.mapWith fun _ x => x.afterReset s.now x.hardBreaks }

/-- The site link interface at any reset (R187). -/
def siteReset (s : State) : State :=
  s.withSite
    { Site.initial with
      mode := if s.tables.requiredSet then .run else .unconfigured
      silence := if s.isActive .grid then some s.now else none }

/-- The container limits and their zero conditions at any reset (R70). -/
def limitsReset (s : State) : State :=
  s.withLimits { s.limits with container := ⟨0, 0⟩, zeros := s.zeroConditions }

/-- The fire and gas unit at any reset (R122). -/
def fireReset (s : State) : State := refreshGasFault (s.withFire (s.fire.afterReset s.now))

/-- The converter and breaker interface at any reset (R167). -/
def converterReset (s : State) : State :=
  s.withConverter (.afterReset s.now (s.isActive .grid) s.converter.breakerClosed)

/-- Every block at its reset value, at part time 0, under the tables that are left; the WELDED causes of
R145 follow. -/
def resetBlocks (s : State) : State :=
  weldedAtReset (limitsReset (fireReset (coolingReset (samplesReset (ringReset
    (converterReset (switchReset (siteReset (s.withNow 0)))))))))

/-- POWER_ON_RESET. -/
def execPowerOnReset (s : State) : Host.Outcome State Fault Refusal :=
  conclude (resetBlocks (losePower s))

/-- PIN_RESET. -/
def execPinReset (s : State) : Host.Outcome State Fault Refusal :=
  conclude (resetBlocks (keepTables s))

/-- COMMAND_RESET (R184): it begins when the reply of the RESET_PART has been sent to its end. -/
def execCommandReset (s : State) : Host.Outcome State Fault Refusal :=
  moveWhen (s.site.reset = .due) (fun x => resetBlocks (keepTables x)) s

end Sys2Proof.Machine
end

