-- ==== Sys2Proof/Machine/RingCommands.lean ====
section
/-!
DEFINITION. The commands of the cell ring (chapter 1): cycle start, token, poll slots, event turns and
the frames that arrive, with the rack set complete they bring about (R39).
-/

namespace Sys2Proof.Machine

/-! ## Rack set complete (R39, R181) -/

/-- The rack summary is produced at the set completes whose cycle counter is a multiple of the summary
divisor (R181). -/
def State.summaryDue (s : State) : Bool :=
  match s.slotHeader with
  | some h => decide (s.ring.cycle % h.divisor = 0)
  | none => false

/-- Rack set complete goes to the four blocks, with no order among them (R39), and produces the rack
summary (R181). DESIGN CHOICE (log entry 71): the summary falls anywhere among the four, so it may show
what stood before or after any of them. -/
def postSetComplete (r : Rack) (s : State) : State :=
  inAnyOrder
    ([limitSetComplete r, balanceSetComplete r, switchSetComplete r, tripSetComplete r] ++
      if s.summaryDue then [produceRackSummary r] else []) s

/-- The rack's set is complete: aggregates, MISMATCH, and the posting. -/
def rackSetComplete (r : Rack) (s : State) : State :=
  let s1 := prepareSet r s
  postSetComplete r
    (s1.setRackSamples r { s1.samples.racks.get r with hadSet := true })

/-- The entry is the last of its rack's slots in the cycle. -/
def State.lastOfRack (s : State) (e : SlotEntry) (r : Rack) : Bool :=
  (s.entries.filter fun x => x.rackOf = some r).getLast? = some e

/-- A slot outcome is taken: codes, staleness, trace reports, and then the plant notice or the count
toward rack set complete (R25, R39, R43). -/
def takeOutcome (e : SlotEntry) (outcome : SlotOutcome) (link : LinkState) (s : State) : State :=
  let s1 := traceOutcome e outcome (checkStale e link (takeCodes e outcome s))
  match e.rackOf with
  | some r => if s1.lastOfRack e r then rackSetComplete r s1 else s1
  | none => if e.nodeKind = .plant then plantNotice e.node s1 else s1

/-! ## CYCLE_START (R1, R2, R3) -/

/-- The steps of a cycle start: the counter, the swaps, the length and the token. -/
def startCycle (s : State) : State :=
  let s1 := s.withRing { s.ring with cycle := s.nextCycle }
  beginCycle (swapRingPath s1.committedRingPath s1)

/-- CYCLE_START. -/
def execCycleStart (s : State) : Host.Outcome State Fault Refusal :=
  moveWhen s.cycleDue startCycle s

/-! ## Token phase (R8, R9) -/

/-- A token frame arrives at a ring end (R8): outside the token phase of its cycle it counts as LATE at
either end. DEDUCED (log entry 6): a token with another counter than the present cycle's counts as LATE
at end A also inside a token phase, while at end B the echo check comes first and counts it as
STALE_ECHO; the present cycle's token has no effect at end A there. -/
def receiveToken (d : RingEnd) (f : TokenFrame) (s : State) : State :=
  if s.ring.phase = .token then
    match d with
    | .a => if f.echo = s.ring.cycle then s else discard .a .late s
    | .b =>
      match s.tokenError f with
      | some k => discard .b k s
      | none => s.withRing { s.ring with tokenReturned := true }
  else discard d .late s

/-- LOOP_TOKEN (R8): a token frame outside the token phase of its cycle counts as LATE, and inside it end
B takes it (receiveToken; log entry 6). -/
def execLoopToken (d : RingEnd) (f : TokenFrame) (s : State) : Host.Outcome State Fault Refusal :=
  finish (receiveToken d f s)

/-- The token phase ends and the first slot, or the event turns, may begin. -/
def endTokenPhase (s : State) : State := setPhase (phaseAfter 0 s.entries.length) (settleToken s)

/-- TOKEN_PHASE_END (R9). -/
def execTokenPhaseEnd (s : State) : Host.Outcome State Fault Refusal :=
  actWhen (decide (s.ring.phase = .token)) endTokenPhase s

/-! ## Poll slots (R10, R12, R15) -/

/-- The entry whose slot comes next, while the ring stands between slots. -/
def State.nextSlot (s : State) : Option (Nat × SlotEntry) :=
  match s.ring.phase with
  | .betweenSlots k => (s.entries[k]?).map fun e => (k, e)
  | .idle => none
  | .due => none
  | .token => none
  | .slot _ => none
  | .betweenTurns _ => none
  | .turn _ _ => none

/-- The slot begins: its poll is sent. -/
def startSlot (s : State) : State :=
  match s.nextSlot with
  | some (k, e) => setPhase (.slot k) (slotPoll e s)
  | none => s

/-- POLL_SLOT_START (R10). -/
def execPollSlotStart (s : State) : Host.Outcome State Fault Refusal :=
  actWhen s.nextSlot.isSome startSlot s

/-- The slot outcome of an accepted reply. -/
def outcomeOf (s : State) (e : SlotEntry) (f : SampleFrame) : SlotOutcome :=
  if f.nodeFault then .servedFaulted
  else .sample ((e.replyChannels s.ring.cycle).zip f.codes) s.now

/-- The echo of an accepted reply of a CELL node, in the scheduler and in the ring controller, against
the mask last handed before this reply (R11, R78). -/
def takeEcho (e : SlotEntry) (applied : CellMask) (s : State) : State :=
  if e.nodeKind = .cell then
    let commanded := match s.ringNode e.node with
      | some n => n.commanded
      | none => 0#16
    echoCheck e.node applied commanded (mapRingNode e.node (·.echo applied) s)
  else s

/-- A sample reply is accepted (R12). -/
def acceptSample (d : RingEnd) (f : SampleFrame) (e : SlotEntry) (s : State) : State :=
  let s1 := setExpectation d none (mapRingNode e.node RingNode.answered s)
  let s2 := takeEcho e f.applied s1
  let s3 := if f.eventPending then pollLater e.node s2 else s2
  takeOutcome e (outcomeOf s e f) .online s3

/-- A sample reply arrives at a ring end. -/
def receiveSample (d : RingEnd) (f : SampleFrame) (s : State) : State :=
  match s.sampleError d f with
  | some k => discard d k s
  | none =>
    match s.entryOf f.node with
    | some e => acceptSample d f e s
    | none => s

/-- SAMPLE_REPLY (R12, R13). -/
def execSampleReply (d : RingEnd) (f : SampleFrame) (s : State) :
    Host.Outcome State Fault Refusal :=
  conclude (receiveSample d f s)

/-- The entry of the slot under way. -/
def State.presentSlot (s : State) : Option (Nat × SlotEntry) :=
  match s.ring.phase with
  | .slot k => (s.entries[k]?).map fun e => (k, e)
  | .idle => none
  | .due => none
  | .token => none
  | .betweenSlots _ => none
  | .betweenTurns _ => none
  | .turn _ _ => none

/-- The poll of a node sent through an end still stands unanswered. -/
def State.unanswered (s : State) (d : RingEnd) (node : Nat) : Bool :=
  match (s.ring.endOf d).expectation with
  | some x => x.node = node && x.cycle = s.ring.cycle && !x.ended
  | none => false

/-- A slot ends without an accepted reply: the miss (R15, R16, R17). -/
def takeMiss (e : SlotEntry) (s : State) : State :=
  let s1 := markEnded (s.sideOf e.node) s
  let s2 := mapRingNode e.node (·.missed e.sidePolicy s.staleThreshold) s1
  let link := match s2.ringNode e.node with
    | some n => n.link
    | none => .online
  takeOutcome e .miss link s2

/-- The slot under way ends. -/
def endSlot (s : State) : State :=
  match s.presentSlot with
  | some (k, e) =>
    let s1 := if s.unanswered (s.sideOf e.node) e.node then takeMiss e s else s
    setPhase (phaseAfter (k + 1) s1.entries.length) s1
  | none => s

/-- POLL_SLOT_END (R15). -/
def execPollSlotEnd (s : State) : Host.Outcome State Fault Refusal :=
  moveWhen s.presentSlot.isSome endSlot s

/-! ## Event turns (R19, R20, R21) -/

/-- The event turn that comes next, numbered from 0. -/
def State.nextTurn (s : State) : Option Nat :=
  match s.ring.phase with
  | .betweenTurns j => if j < s.eventTurns then some j else none
  | .idle => none
  | .due => none
  | .token => none
  | .betweenSlots _ => none
  | .slot _ => none
  | .turn _ _ => none

/-- The event turn begins: the node at the head of the event poll list is polled; a turn with an empty
list passes idle (node 0). -/
def startTurn (s : State) : State :=
  match s.nextTurn with
  | none => s
  | some j =>
    match s.ring.pollList with
    | [] => setPhase (.turn j 0) s
    | node :: rest =>
      setPhase (.turn j node) (eventPoll node (s.withRing { s.ring with pollList := rest }))

/-- EVENT_TURN_START (R19). -/
def execEventTurnStart (s : State) : Host.Outcome State Fault Refusal :=
  actWhen s.nextTurn.isSome startTurn s

/-- An event kind names a channel (R20). -/
def eventNamesChannel : NodeEventCode → Bool
  | .cellHwOv => true
  | .cellHwUv => true
  | .senseOpen => true
  | .nothing => false
  | .nodeRestart => false
  | .bleedHot => false
  | .nodeFault => false
  | .other _ => false

/-- An event kind is one the node's kind may report, with a fitted channel where it names one (R20). -/
def eventUsable (e : SlotEntry) (kind : NodeEventCode) (channel : Nat) : Bool :=
  match kind with
  | .nodeRestart => true
  | .nodeFault => true
  | .senseOpen => e.channels.contains channel
  | .cellHwOv => e.nodeKind = .cell && decide (channel < e.cells)
  | .cellHwUv => e.nodeKind = .cell && decide (channel < e.cells)
  | .bleedHot => e.nodeKind = .cell
  | .nothing => false
  | .other _ => false

/-- What follows a usable node event in the blocks it is handed to (R21). -/
def eventActions (e : SlotEntry) (kind : NodeEventCode) (channel : Nat) (stamp : PartTime) :
    List (State → State) :=
  match kind with
  | .nodeRestart =>
    [mapRingNode e.node ({ · with confirmed := false }),
      fun s => if e.nodeKind = .cell then balanceRestart e.node s else s,
      sampleRestart e.node, restartHeard e.node]
  | .cellHwOv => [takeCause .nodeHwOv e.rackOf (.nodeHw e.node channel stamp)]
  | .cellHwUv => [takeCause .nodeHwUv e.rackOf (.nodeHw e.node channel stamp)]
  | .senseOpen => [senseOpened e channel]
  | .bleedHot => [bleedHot e]
  | .nodeFault => [nodeFaulted e.node]
  | .nothing => []
  | .other _ => []

/-- The event of an accepted event reply is handled (R20, R21). DESIGN CHOICE (log entry 32): the
NODE_EVENT of an unusable reply carries the channel field of its frame, also where its kind names no
channel. -/
def handleEvent (e : SlotEntry) (kind : NodeEventCode) (channel : Nat) (s : State) : State :=
  if kind = .nothing then s
  else if eventUsable e kind channel then
    let named := if eventNamesChannel kind then some channel else none
    inAnyOrder
      (post (.nodeEvent true e.node e.rackOf kind named s.now s.ring.cycle) ::
        eventActions e kind channel s.now) s
  else post (.nodeEvent false e.node none kind (some channel) s.now s.ring.cycle) s

/-- An event reply arrives at a ring end. -/
def receiveEvent (d : RingEnd) (f : EventFrame) (s : State) : State :=
  match s.eventError d f with
  | some k => discard d k s
  | none =>
    let s1 := setExpectation d none s
    let s2 := if f.eventPending then pollLater f.node s1 else s1
    match s.entryOf f.node with
    | some e => handleEvent e f.kind f.channel s2
    | none => s2

/-- EVENT_REPLY (R13, R20, R21). -/
def execEventReply (d : RingEnd) (f : EventFrame) (s : State) : Host.Outcome State Fault Refusal :=
  conclude (receiveEvent d f s)

/-- The event turn under way: its number and the node polled in it. -/
def State.presentTurn (s : State) : Option (Nat × Nat) :=
  match s.ring.phase with
  | .turn j node => some (j, node)
  | .idle => none
  | .due => none
  | .token => none
  | .betweenSlots _ => none
  | .slot _ => none
  | .betweenTurns _ => none

/-- The event turn ends: a node that did not answer goes to the tail of the list (R19). -/
def endTurn (s : State) : State :=
  match s.presentTurn with
  | none => s
  | some (j, node) =>
    let d := s.sideOf node
    let s1 := if s.unanswered d node then pollLater node (markEnded d s) else s
    setPhase (.betweenTurns (j + 1)) s1

/-- EVENT_TURN_END (R19). -/
def execEventTurnEnd (s : State) : Host.Outcome State Fault Refusal :=
  actWhen s.presentTurn.isSome endTurn s

end Sys2Proof.Machine
end

