-- ==== Sys2Proof/Machine/SiteCommands.lean ====
section
/-!
DEFINITION. The commands of the site link interface (chapter 11): downward frames (R178, R179), the
upward link (R180), site silence (R185), SET_MODE, RESET_PART and READ_STATUS, and the sample
processor's requests READ_RACK, READ_CELLS, TRACE_SET and TRACE_CLEAR.
-/

namespace Sys2Proof.Machine

/-! ## DOWNWARD_FRAME (R178, R179, R185) -/

/-- What a downward frame turns out to be: a failed check with its flag, a valid frame that is no
request, or a request. -/
inductive FrameVerdict
  | framing | length | crc | kind
  | request (x : Tagged)
  deriving DecidableEq, Repr

/-- Checks 1 to 4 of R178, the first failure deciding. -/
def frameVerdict (f : DownFrame) : FrameVerdict :=
  if f.marker ≠ 0xA5#8 || f.malformed then .framing
  else if f.length.toNat = 0 || 2048 < f.length.toNat || f.body.length ≠ f.length.toNat then .length
  else if f.crc ≠ crc16 (wordBytes f.length ++ f.body) then .crc
  else match f.body with
    | kind :: tag :: request :: args =>
      if kind = Config.requestFrameKind then .request ⟨tag, Config.parseRequest request args⟩
      else .kind
    | _ => .kind

/-- A link error flag is set. -/
def flagError (set : LinkErrors → LinkErrors) (s : State) : State :=
  s.withSite { s.site with linkErrors := set s.site.linkErrors }

/-- What a downward frame does by its verdict: a frame that passes checks 1 to 3 is valid, restarts the
site silence timer and clears AUTONOMOUS. -/
def receiveFrame (v : FrameVerdict) (s : State) : State :=
  match v with
  | .framing => flagError ({ · with framing := true }) s
  | .length => flagError ({ · with length := true }) s
  | .crc => flagError ({ · with crc := true }) s
  | .kind => flagError ({ · with kind := true }) (siteHeard s)
  | .request x => offerRequest x (siteHeard s)

/-- DOWNWARD_FRAME (R178). -/
def execDownwardFrame (frame : DownFrame) (s : State) : Host.Outcome State Fault Refusal :=
  finish (receiveFrame (frameVerdict frame) s)

/-- UNKNOWN_REQUEST (R179): an unknown kind, or arguments malformed for the kind. -/
def execUnknownRequest (tag : Byte) (kind : Byte) (s : State) : Host.Outcome State Fault Refusal :=
  serve tag (.unknown kind) (fun x => ⟨x, .badRequest, .nothing⟩) s

/-! ## UPWARD_FRAME_SENT (R180, R184) -/

/-- The frame under way is the OK reply of a RESET_PART. -/
def resetReply (f : UpFrame) : Bool :=
  match f with
  | .reply r => r.request = .resetPart && r.result = .ok
  | .event _ => false
  | .rack _ => false
  | .container _ => false
  | .trace _ => false

/-- The frame under way has been sent to its end: the link is free, and after the reply of a RESET_PART
that was taken the command reset is due. -/
def frameSent (s : State) : State :=
  let ends : Bool := match s.site.link with
    | some f => resetReply f && decide (s.site.reset = .taken)
    | none => false
  s.withSite { s.site with link := none, reset := if ends then .due else s.site.reset }

/-- UPWARD_FRAME_SENT (R180). -/
def execUpwardFrameSent (s : State) : Host.Outcome State Fault Refusal :=
  actWhen s.site.link.isSome frameSent s

/-- SITE_SILENCE_EXPIRY (R185). -/
def execSiteSilenceExpiry (s : State) : Host.Outcome State Fault Refusal :=
  moveWhen s.siteSilenceIsDue expireSiteSilence s

/-! ## SET_MODE (R183) and RESET_PART (R184) -/

/-- The mode an argument names. -/
def modeNamed : ModeArg → Option Mode
  | .run => some .run
  | .standby => some .standby
  | .other => none

/-- Every rack is OPEN or LOCKED. -/
def State.racksIdle (s : State) : Bool :=
  Rack.all.all fun r => s.rackState r = .opened || s.rackState r = .locked

/-- SET_MODE's answer, its conditions judged in the order of R183. -/
def answerSetMode (arg : ModeArg) (s : State) : Answer :=
  match modeNamed arg with
  | none => ⟨s, .badRequest, .nothing⟩
  | some m =>
    if s.site.mode = .unconfigured then ⟨s, .notConfigured, .nothing⟩
    else if s.site.mode = m then ⟨s, .already, .nothing⟩
    else if m = .standby && !(s.racksIdle && s.quiet) then ⟨s, .wrongMode, .nothing⟩
    else ⟨changeMode m .setMode s, .ok, .nothing⟩

/-- SET_MODE (R183). -/
def execSetMode (tag : Byte) (arg : ModeArg) (s : State) : Host.Outcome State Fault Refusal :=
  serve tag (.setMode arg) (answerSetMode arg) s

/-- RESET_PART may be taken: every rack OPEN, LOCKED or FAULT, and no release pulse under way. -/
def State.mayReset (s : State) : Bool :=
  (Rack.all.all fun r =>
    s.rackState r = .opened || s.rackState r = .locked || s.rackState r = .fault) &&
    s.fire.pulse.isNone

/-- RESET_PART's answer: once it is taken, no further request is. -/
def answerResetPart (s : State) : Answer :=
  if s.mayReset then ⟨s.withSite { s.site with reset := .taken }, .ok, .nothing⟩
  else ⟨s, .busy, .nothing⟩

/-- RESET_PART (R184). -/
def execResetPart (tag : Byte) (s : State) : Host.Outcome State Fault Refusal :=
  serve tag .resetPart answerResetPart s

/-! ## READ_STATUS (R186) -/

/-- The time left to a length of a running time. DESIGN CHOICE (log entry 82): 0 where none runs. -/
def leftOf (now : PartTime) (since : Option PartTime) (ms : Nat) : Nat :=
  match since with
  | some t => ms - elapsed now t
  | none => 0

/-- R14's line for one node. -/
def RingNode.report (n : RingNode) : NodeReport := ⟨n.node, n.side, n.link, n.miss, n.heard⟩

/-- R102's line for one output. -/
def OutputState.report (now : PartTime) (x : OutputState) : OutputReport :=
  ⟨x.command, x.feedback, x.status, elapsedOption now x.proof⟩

/-- R121's line for one detector line. -/
def LineState.report (now : PartTime) (kind : LineKind) (x : LineState) : LineReport :=
  { reading := x.reading
    taken := x.taken
    candidate := x.candidate.map (·.reading)
    elapsed := elapsedOption now (x.candidate.map (·.since))
    kind := kind
    faulted := x.faulted
    latch := x.latch
    acknowledged := x.acknowledged }

/-- R177's line for one table. -/
def TableState.report (x : TableState) : TableReport := ⟨x.active.isSome, x.state, x.digest⟩

/-- The contents of a READ_STATUS reply (R14, R67, R102, R121, R144, R157, R159, R161, R163, R165, R177,
R186). The grid state is the converter's report while a valid status gives it and the converter is not
silent. -/
def statusReportOf (s : State) : StatusReport where
  partCode := "C24"
  revision := Config.siliconRevision
  mode := s.site.mode
  autonomous := s.site.autonomous
  silenceElapsed := s.site.silence.map (elapsed s.now)
  eventLost := s.site.eventLost
  postCounter := s.site.postCounter
  fifoFill := s.site.fifo.length
  replyFill := s.site.replies.length
  eventFill := s.site.events.length
  traceFill := s.site.traces.length
  linkErrors := s.site.linkErrors
  errorsA := s.ring.endA.errors
  errorsB := s.ring.endB.errors
  ringState := s.ring.ringState
  nodes := s.ring.nodes.map fun n => n.report
  limits := s.limits.container
  zeros := s.limits.zeros
  level := s.cooling.level
  levelSince := s.cooling.levelSince
  dwellLeft := s.dwell - elapsed s.now s.cooling.levelSince
  blind := s.cooling.blind
  blindHoldElapsed := s.cooling.blindHold.map (elapsed s.now)
  heaterDemand := s.cooling.heaterDemand
  outputs := s.cooling.outputs.mapWith fun _ x => x.report s.now
  ventilation := s.cooling.ventilation
  coolingFactor := s.cooling.factor
  coolingCaps := s.coolingCaps
  allowance := s.cooling.allowance
  lossMark := s.cooling.lossMark
  lines := s.fire.lines.mapWith fun l x => x.report s.now (s.lineSettings l).kind
  zones := [1, 2, 3, 4].map fun z => ⟨s.zoneLatched z, s.zoneDegraded z⟩
  stage := s.fire.stage
  countdownLeft := s.countdownLeft
  countdownHeld := s.fire.held
  release := s.fire.release
  pulseLeft := leftOf s.now s.fire.pulse (s.fireRecord.pulse * 1000)
  watch := s.fire.watch
  horn := s.fire.horn
  h2 := s.fire.h2
  co := s.fire.co
  gas := s.fire.gas
  gasFault := s.fire.gasFault
  fireTable := s.isActive .fire
  rackStates := s.sequencer.racks.mapWith fun _ x => x.state
  queue := s.sequencer.queue
  slot := s.sequencer.slot
  hold := s.sequencer.hold
  latches := s.trips.container
  sequence := s.trips.sequence
  historyFill := s.trips.history.length
  lastMessage := s.converter.lastMessage
  framingErrors := s.converter.framingErrors
  crcErrors := s.converter.crcErrors
  rangeErrors := s.converter.rangeErrors
  status := s.converter.status
  converter := s.converter.shownState
  grid := s.converter.grid
  gridReported := s.converter.status.isSome && !s.converter.silent
  permit := s.converter.permit
  pulse := s.converter.pulse
  pulseNumber := s.converter.pulseNumber
  breakerClosed := s.converter.breakerClosed
  tables := s.tables.tables.mapWith fun _ x => x.report
  requiredSet := s.tables.requiredSet

/-- What READ_STATUS clears once it is in the reply: the link error flags, and the ring and converter
error counts. -/
def clearErrors (s : State) : State :=
  let s1 := s.withSite { s.site with linkErrors := .clear }
  let s2 := s1.withRing
    { s1.ring with
      endA := { s1.ring.endA with errors := .zero }
      endB := { s1.ring.endB with errors := .zero } }
  s2.withConverter { s2.converter with framingErrors := 0, crcErrors := 0, rangeErrors := 0 }

/-- READ_STATUS's answer. -/
def answerReadStatus (s : State) : Answer := ⟨clearErrors s, .ok, .status (statusReportOf s)⟩

/-- READ_STATUS (R186). -/
def execReadStatus (tag : Byte) (s : State) : Host.Outcome State Fault Refusal :=
  serve tag .readStatus answerReadStatus s

/-! ## READ_RACK (R44, R67, R84, R144, R157) -/

/-- R84's line for one CELL node; a node that does not cool down has 0 left (log entry 82). -/
def BalanceNode.report (now : PartTime) (n : BalanceNode) : BalanceNodeReport :=
  let left := match n.coolDown with
    | some c => c.seconds * 1000 - elapsed now c.since
    | none => 0
  ⟨n.node, n.fault, n.mismatches, left⟩

/-- A rack's place in the connect queue, from 1. -/
def placeIn (queue : List QueueEntry) (r : Rack) : Option Nat :=
  (queue.findIdx? fun e => e.rack = r).map (· + 1)

/-- The wait time left of a queued rack in ms (R127); 0 for another (log entry 82). -/
def State.waitLeft (s : State) (since : Option PartTime) : Nat :=
  match s.grid with
  | some g => leftOf s.now since (g.waitLimit * 1000)
  | none => 0

/-- The contents of a READ_RACK reply. DESIGN CHOICE (log entry 73): the time an overrun start has run
(R157) is counted to the present part time, and is 0 while the start is absent. -/
def rackReportOf (r : Rack) (s : State) : RackReport :=
  let x := s.samples.racks.get r
  let c := s.limits.racks.get r
  let b := s.balance.racks.get r
  let q := s.sequencer.racks.get r
  let l := s.trips.racks.get r
  let queuedAt := (s.sequencer.queue.find? fun e => e.rack = r).map (·.queuedAt)
  { rack := r
    aggregates := x.aggregates
    mismatch := x.mismatch
    blind := x.blind
    blindElapsed := x.blindTimer.elapsed s.now
    q := c.q
    r := c.r
    soc := s.soc r
    chargeQuality := c.quality
    gap := c.gap
    topCount := c.topCount
    bottomCount := c.bottomCount
    restStart := c.restStart
    restLasted := c.restLasted
    factors := c.factors
    limit := c.limit
    lastEvaluation := c.lastEvaluation
    balanceEnabled := b.enabled
    eligibility := b.eligibility
    activeRecords := (s.activeRecords.filter fun y => y.rack = r).length
    lastLimit := b.lastLimit
    balanceNodes :=
      (s.balance.nodes.filter fun n => (s.cellNodes r).contains n.node).map (·.report s.now)
    reloadLeft := 86400000 - elapsed s.now s.balance.dailySince
    state := q.state
    faultKind := q.faultKind
    operation := q.operation
    mainCommand := q.mainCommand
    prechargeCommand := q.prechargeCommand
    mainClosed := q.mainClosed
    prechargeClosed := q.prechargeClosed
    mainWatch := q.mainWatch.elapsed s.now
    prechargeWatch := q.prechargeWatch.elapsed s.now
    timerElapsed := elapsedOption s.now (q.timer.map (·.since))
    prechargeUsed := q.prechargeUsed
    disconnectPending := q.disconnectPending
    queuePlace := placeIn s.sequencer.queue r
    queuedAt := queuedAt
    waitLeft := s.waitLeft queuedAt
    attempts := q.attempts
    budgetSpent := q.budgetSpent
    oldestLeaves := q.attempts.head?.map (· + 600000)
    hardBreaks := q.hardBreaks
    latches := l
    overrunRun := elapsedOption s.now l.overrunStart }

/-- READ_RACK's answer: a rack outside 1..4 is BAD_INDEX (R179). -/
def answerReadRack (rack : Nat) (s : State) : Answer :=
  match Rack.ofNumber rack with
  | some r => ⟨s, .ok, .rack (rackReportOf r s)⟩
  | none => ⟨s, .badIndex, .nothing⟩

/-- READ_RACK (R44). -/
def execReadRack (tag : Byte) (rack : Nat) (s : State) : Host.Outcome State Fault Refusal :=
  serve tag (.readRack rack) (answerReadRack rack) s

/-! ## READ_CELLS (R44) -/

/-- The records of a rack in a node range, in record order. -/
def State.recordsIn (s : State) (r : Rack) (first last : Nat) : List Record :=
  (s.rackRecords r).filter fun x => first ≤ x.node && x.node ≤ last

/-- The bytes of a record in a READ_CELLS reply, a free size for each of the three shapes R44 and R84
give it: bare, with levels, and a cell voltage's with levels and balancing record (log entry 12). -/
def Record.bytes (x : Record) : Nat :=
  Config.cellsRecordBytes x.kind.hasLevels (decide (x.kind = .cellVoltage))

/-- The nodes of the records, each once, in record order. -/
def nodesOf (records : List Record) : List Nat := (records.map (·.node)).eraseDups

/-- The leading nodes whose records fit whole into so many bytes. -/
def fitting (records : List Record) : Nat → List Nat → List Nat
  | _, [] => []
  | room, node :: rest =>
    let size := ((records.filter fun x => x.node = node).map Record.bytes).sum
    if size ≤ room then node :: fitting records (room - size) rest else []

/-- The nodes a reply carries: as many whole nodes as fit into a frame of 2048 bytes. -/
def nodesCarried (records : List Record) : List Nat :=
  fitting records (2048 - Config.cellsReplyHeaderBytes) (nodesOf records)

/-- R44's and R84's line for one record. -/
def State.cellReport (s : State) (x : Record) : CellReport :=
  { node := x.node
    channel := x.channel
    value := x.value
    stamp := x.stamp
    quality := x.quality
    minimum := x.minimum
    maximum := x.maximum
    high := x.high.map fun y => (y.level, y.acknowledged)
    low := x.low.map fun y => (y.level, y.acknowledged)
    balance :=
      if x.kind = .cellVoltage then
        s.balance.records.find? fun b => b.node = x.node && b.channel = x.channel
      else none }

/-- The extremes of the carried records restart from their latest values. -/
def clearExtremes (r : Rack) (nodes : List Nat) (s : State) : State :=
  s.withSamples
    { s.samples with
      records := s.samples.records.map fun x =>
        if x.rack = some r && nodes.contains x.node then
          { x with minimum := x.value, maximum := x.value }
        else x }

/-- READ_CELLS's answer: a rack outside 1..4, or a node range outside 1..56 or running backward, is
BAD_INDEX (R179); the last node carried is named where the range is cut short. -/
def answerReadCells (rack first last : Nat) (clear : Bool) (s : State) : Answer :=
  match Rack.ofNumber rack with
  | none => ⟨s, .badIndex, .nothing⟩
  | some r =>
    if first < 1 || 56 < last || last < first then ⟨s, .badIndex, .nothing⟩
    else
      let records := s.recordsIn r first last
      let nodes := nodesCarried records
      let carried := records.filter fun x => nodes.contains x.node
      let lastNode := if carried.length < records.length then nodes.getLast? else none
      ⟨if clear then clearExtremes r nodes s else s, .ok, .cells (carried.map s.cellReport) lastNode⟩

/-- READ_CELLS (R44). -/
def execReadCells (tag : Byte) (rack firstNode lastNode : Nat) (clear : Bool) (s : State) :
    Host.Outcome State Fault Refusal :=
  serve tag (.readCells rack firstNode lastNode clear) (answerReadCells rack firstNode lastNode clear)
    s

/-! ## TRACE_SET and TRACE_CLEAR (R45, R47) -/

/-- The trace entry at the index of a node and channel. -/
def State.traceAt (s : State) (node channel : Nat) : Option TraceEntry :=
  (s.samples.trace[traceIndex node channel]?).join

/-- TRACE_SET's answer. -/
def answerTraceSet (node channel count : Nat) (s : State) : Answer :=
  let written := setTrace (traceIndex node channel) (some ⟨node, channel, count⟩) s
  if node < 1 || 56 < node || 19 < channel then ⟨s, .badIndex, .nothing⟩
  else match s.traceAt node channel with
    | none => ⟨written, .ok, .nothing⟩
    | some e =>
      if e.node = node && e.channel = channel then ⟨written, .ok, .nothing⟩
      else ⟨s, .traceConflict, .traceHolder e.node e.channel⟩

/-- TRACE_SET (R45). -/
def execTraceSet (tag : Byte) (node channel count : Nat) (s : State) :
    Host.Outcome State Fault Refusal :=
  serve tag (.traceSet node channel count) (answerTraceSet node channel count) s

/-- TRACE_CLEAR's answer. -/
def answerTraceClear (target : TraceTarget) (s : State) : Answer :=
  match target with
  | .all => ⟨s.withSamples { s.samples with trace := List.replicate 32 none }, .ok, .nothing⟩
  | .one node channel =>
    match s.traced node channel with
    | some _ => ⟨setTrace (traceIndex node channel) none s, .ok, .nothing⟩
    | none => ⟨s, .already, .nothing⟩

/-- TRACE_CLEAR (R47). -/
def execTraceClear (tag : Byte) (target : TraceTarget) (s : State) :
    Host.Outcome State Fault Refusal :=
  serve tag (.traceClear target) (answerTraceClear target) s

end Sys2Proof.Machine
end

