-- ==== Sys2Proof/Machine/SwitchCommands.lean ====
section
/-!
DEFINITION. The commands of the rack sequencer (chapter 7).
-/

namespace Sys2Proof.Machine

/-- CONNECT (R126). -/
def execConnect (tag : Byte) (racks : RackMask) (s : State) : Host.Outcome State Fault Refusal :=
  serveMoving tag (.connect racks) (answerConnect racks) s

/-- DISCONNECT (R133): a rack granted the slot drains within the same request. -/
def execDisconnect (tag : Byte) (racks : RackMask) (s : State) : Host.Outcome State Fault Refusal :=
  serveMoving tag (.disconnect racks) (answerDisconnect racks) s

/-- CLEAR_FAULT (R141). -/
def execClearFault (tag : Byte) (racks : RackMask) (s : State) : Host.Outcome State Fault Refusal :=
  serveMoving tag (.clearFault racks) (answerClearFault racks) s

/-- CONTACTOR_FEEDBACK_CHANGE (R123, R124, R132, R136). -/
def execContactorFeedbackChange (r : Rack) (c : Contactor) (closed : Bool) (s : State) :
    Host.Outcome State Fault Refusal :=
  conclude (changeFeedback r c closed s)

/-- WATCH_TIMER_EXPIRY (R124). -/
def execWatchTimerExpiry (r : Rack) (c : Contactor) (s : State) :
    Host.Outcome State Fault Refusal :=
  moveWhen (s.watchIsDue r c) (expireRackWatch r c) s

/-- WAIT_TIMER_EXPIRY (R127). -/
def execWaitTimerExpiry (r : Rack) (s : State) : Host.Outcome State Fault Refusal :=
  moveWhen (s.waitIsDue r) (expireWait r) s

/-- PRECHARGE_TIMEOUT (R131). -/
def execPrechargeTimeout (r : Rack) (s : State) : Host.Outcome State Fault Refusal :=
  moveWhen (s.operationDue r .precharging .precharge) (expirePrecharge r) s

/-- CLOSE_PROOF_EXPIRY (R132). -/
def execCloseProofExpiry (r : Rack) (s : State) : Host.Outcome State Fault Refusal :=
  moveWhen (s.operationDue r .joining .closeProof) (expireCloseProof r) s

/-- PRECHARGE_RELEASE_DELAY_END (R132). -/
def execPrechargeReleaseDelayEnd (r : Rack) (s : State) : Host.Outcome State Fault Refusal :=
  moveWhen (s.operationDue r .joining .releaseDelay) (endReleaseDelay r) s

/-- DRAIN_TIMER_EXPIRY (R134). -/
def execDrainTimerExpiry (r : Rack) (s : State) : Host.Outcome State Fault Refusal :=
  moveWhen (s.operationDue r .draining .drain) (expireDrain r) s

/-- OPEN_PROOF_EXPIRY (R136). -/
def execOpenProofExpiry (r : Rack) (s : State) : Host.Outcome State Fault Refusal :=
  moveWhen (s.operationDue r .opening .openProof) (expireOpenProof r) s

/-- The oldest precharge attempt of a rack has left its window (R130). -/
def State.attemptIsDue (s : State) (r : Rack) : Bool :=
  (s.sequencer.racks.get r).attempts.any fun t => reached s.now t 600000

/-- PRECHARGE_ATTEMPT_EXPIRY (R130). -/
def execPrechargeAttemptExpiry (r : Rack) (s : State) : Host.Outcome State Fault Refusal :=
  actWhen (s.attemptIsDue r) (dropAttempts r) s

end Sys2Proof.Machine
end

