-- ==== Sys2Proof/Machine/TableCommands.lean ====
section
/-!
DEFINITION. The commands of the table store (chapter 10).
-/

namespace Sys2Proof.Machine

/-- TABLE_WRITE (R170). -/
def execTableWrite (tag : Byte) (table : Option TableName) (first count : Nat) (data : List Byte)
    (s : State) : Host.Outcome State Fault Refusal :=
  serve tag (.tableWrite table first count data) (answerWrite table first count data) s

/-- TABLE_READ (R171). -/
def execTableRead (tag : Byte) (table : Option TableName) (bank : Option BankName)
    (first count : Nat) (s : State) : Host.Outcome State Fault Refusal :=
  serve tag (.tableRead table bank first count) (answerRead table bank first count) s

/-- TABLE_COMMIT (R173). -/
def execTableCommit (tag : Byte) (table : Option TableName) (digest : Code) (s : State) :
    Host.Outcome State Fault Refusal :=
  serveMoving tag (.tableCommit table digest) (answerCommit table digest) s

end Sys2Proof.Machine
end

