-- ==== Sys2Proof/Machine/TripCommands.lean ====
section
/-!
DEFINITION. The commands of the trip unit (chapter 8), and the blind timer whose expiry sends it a
cause (R42).
-/

namespace Sys2Proof.Machine

/-- BLIND_TIMER_EXPIRY (R42). -/
def execBlindTimerExpiry (r : Rack) (s : State) : Host.Outcome State Fault Refusal :=
  moveWhen (s.blindIsDue r) (fun x => expireBlind r (x.blindTime r) x) s

/-! ## CLEAR_TRIP (R156) -/

/-- The container kinds a CLEAR_TRIP acknowledges. -/
def TripKind.ackableKinds : List TripKind := [.converterSilent, .welded, .emergency]

/-- A latch a CLEAR_TRIP names: of a rack, or of the container. -/
abbrev LatchName := Option Rack × TripKind

/-- A named latch of the state. -/
def State.latchNamed (s : State) : LatchName → Latch
  | (some r, k) => (s.trips.racks.get r).latch k
  | (none, k) => s.trips.container.latch k

/-- The latches a CLEAR_TRIP of some racks acknowledges, as they stand. -/
def State.clearable (s : State) (racks : List Rack) : List LatchName :=
  ((racks.flatMap fun r => TripKind.rackKinds.map fun k => ((some r, k) : LatchName)) ++
    TripKind.ackableKinds.map fun k => ((none, k) : LatchName)).filter fun n =>
      (s.latchNamed n).standing

/-- A named latch is acknowledged. -/
def ackLatch (n : LatchName) (s : State) : State :=
  match n with
  | (some r, k) =>
    s.setRackLatches r
      ((s.trips.racks.get r).put k (((s.trips.racks.get r).latch k).acked))
  | (none, k) =>
    s.withTrips
      { s.trips with container := s.trips.container.put k ((s.trips.container.latch k).acked) }

/-- Steps 1 to 3 of R156. DESIGN CHOICE (log entry 69): step 3 judges the latches of the racks named
alone, although R154 lets each CLEAR_TRIP judge "the rack's latches". -/
def clearTrips (racks : List Rack) (names : List LatchName) (s : State) : State :=
  let s1 := names.foldl (fun acc n => ackLatch n acc) s
  let s2 := forRacks racks acknowledgeSides s1
  let s3 := forRacks racks judgeRackLatches s2
  TripKind.ackableKinds.foldl (fun acc k => judgeContainerLatch k acc) s3

/-- CLEAR_TRIP's answer. -/
def answerClearTrip (mask : RackMask) (s : State) : Answer :=
  let racks := racksOf mask
  let names := s.clearable racks
  if names.isEmpty && !racks.any s.rackTripSide then ⟨s, .already, .nothing⟩
  else
    let s1 := clearTrips racks names s
    ⟨s1, .ok, .clearTrip names (names.filter fun n => !(s1.latchNamed n).standing)⟩

/-- CLEAR_TRIP (R156). -/
def execClearTrip (tag : Byte) (racks : RackMask) (s : State) : Host.Outcome State Fault Refusal :=
  serveMoving tag (.clearTrip racks) (answerClearTrip racks) s

/-- EMERGENCY_OPEN's answer (R150). -/
def answerEmergencyOpen (s : State) : Answer :=
  ⟨takeCause .emergency none .emergency s, .ok, .nothing⟩

/-- EMERGENCY_OPEN (R150). -/
def execEmergencyOpen (tag : Byte) (s : State) : Host.Outcome State Fault Refusal :=
  serveMoving tag .emergencyOpen answerEmergencyOpen s

/-- READ_TRIPS's answer (R153). -/
def answerReadTrips (s : State) : Answer :=
  ⟨s, .ok, .trips s.trips.history s.trips.sequence⟩

/-- READ_TRIPS (R153). -/
def execReadTrips (tag : Byte) (s : State) : Host.Outcome State Fault Refusal :=
  serve tag .readTrips answerReadTrips s

/-- CLEAR_TRIP_HISTORY's answer (R153). -/
def answerClearTripHistory (s : State) : Answer :=
  if s.trips.history.isEmpty then ⟨s, .already, .nothing⟩
  else ⟨s.withTrips { s.trips with history := [] }, .ok, .nothing⟩

/-- CLEAR_TRIP_HISTORY (R153). -/
def execClearTripHistory (tag : Byte) (s : State) : Host.Outcome State Fault Refusal :=
  serve tag .clearTripHistory answerClearTripHistory s

end Sys2Proof.Machine
end

