-- ==== Sys2Proof/Machine/Dispatch.lean ====
section
/-!
DEFINITION. The meaning of every command, one arm per constructor of Instr.
-/

namespace Sys2Proof.Machine

def exec (i : Instr) (s : State) : Host.Outcome State Fault Refusal :=
  match i with
  | .powerOnReset => Sys2Proof.Machine.execPowerOnReset s
  | .pinReset => Sys2Proof.Machine.execPinReset s
  | .commandReset => Sys2Proof.Machine.execCommandReset s
  | .cycleStart => Sys2Proof.Machine.execCycleStart s
  | .loopToken d frame => Sys2Proof.Machine.execLoopToken d frame s
  | .tokenPhaseEnd => Sys2Proof.Machine.execTokenPhaseEnd s
  | .pollSlotStart => Sys2Proof.Machine.execPollSlotStart s
  | .sampleReply d frame => Sys2Proof.Machine.execSampleReply d frame s
  | .pollSlotEnd => Sys2Proof.Machine.execPollSlotEnd s
  | .eventTurnStart => Sys2Proof.Machine.execEventTurnStart s
  | .eventReply d frame => Sys2Proof.Machine.execEventReply d frame s
  | .eventTurnEnd => Sys2Proof.Machine.execEventTurnEnd s
  | .blindTimerExpiry rack => Sys2Proof.Machine.execBlindTimerExpiry rack s
  | .oneSecondTimerExpiry => Sys2Proof.Machine.execOneSecondTimerExpiry s
  | .dailyReloadTimerExpiry => Sys2Proof.Machine.execDailyReloadTimerExpiry s
  | .coolDownTimerExpiry node => Sys2Proof.Machine.execCoolDownTimerExpiry node s
  | .controlIntervalExpiry => Sys2Proof.Machine.execControlIntervalExpiry s
  | .blindHoldTimerExpiry => Sys2Proof.Machine.execBlindHoldTimerExpiry s
  | .outputFeedbackChange output on => Sys2Proof.Machine.execOutputFeedbackChange output on s
  | .proofTimerExpiry output => Sys2Proof.Machine.execProofTimerExpiry output s
  | .coolingFaultClear tag => Sys2Proof.Machine.execCoolingFaultClear tag s
  | .lineReadingChange line reading => Sys2Proof.Machine.execLineReadingChange line reading s
  | .lineDebounceExpiry line => Sys2Proof.Machine.execLineDebounceExpiry line s
  | .hornPatternToggle => Sys2Proof.Machine.execHornPatternToggle s
  | .countdownExpiry => Sys2Proof.Machine.execCountdownExpiry s
  | .releasePulseEnd => Sys2Proof.Machine.execReleasePulseEnd s
  | .feedbackWatchExpiry => Sys2Proof.Machine.execFeedbackWatchExpiry s
  | .fireAck tag => Sys2Proof.Machine.execFireAck tag s
  | .fireReset tag => Sys2Proof.Machine.execFireReset tag s
  | .connect tag racks => Sys2Proof.Machine.execConnect tag racks s
  | .disconnect tag racks => Sys2Proof.Machine.execDisconnect tag racks s
  | .clearFault tag racks => Sys2Proof.Machine.execClearFault tag racks s
  | .contactorFeedbackChange rack contactor closed => Sys2Proof.Machine.execContactorFeedbackChange rack contactor closed s
  | .watchTimerExpiry rack contactor => Sys2Proof.Machine.execWatchTimerExpiry rack contactor s
  | .waitTimerExpiry rack => Sys2Proof.Machine.execWaitTimerExpiry rack s
  | .prechargeTimeout rack => Sys2Proof.Machine.execPrechargeTimeout rack s
  | .closeProofExpiry rack => Sys2Proof.Machine.execCloseProofExpiry rack s
  | .prechargeReleaseDelayEnd rack => Sys2Proof.Machine.execPrechargeReleaseDelayEnd rack s
  | .drainTimerExpiry rack => Sys2Proof.Machine.execDrainTimerExpiry rack s
  | .openProofExpiry rack => Sys2Proof.Machine.execOpenProofExpiry rack s
  | .clearTrip tag racks => Sys2Proof.Machine.execClearTrip tag racks s
  | .emergencyOpen tag => Sys2Proof.Machine.execEmergencyOpen tag s
  | .readTrips tag => Sys2Proof.Machine.execReadTrips tag s
  | .clearTripHistory tag => Sys2Proof.Machine.execClearTripHistory tag s
  | .limitPeriodExpiry => Sys2Proof.Machine.execLimitPeriodExpiry s
  | .limitMessageSent => Sys2Proof.Machine.execLimitMessageSent s
  | .converterStatus frame => Sys2Proof.Machine.execConverterStatus frame s
  | .silenceWatchExpiry => Sys2Proof.Machine.execSilenceWatchExpiry s
  | .silentTripExpiry => Sys2Proof.Machine.execSilentTripExpiry s
  | .breakerPulseEnd => Sys2Proof.Machine.execBreakerPulseEnd s
  | .breakerProofExpiry => Sys2Proof.Machine.execBreakerProofExpiry s
  | .breakerFeedbackChange closed => Sys2Proof.Machine.execBreakerFeedbackChange closed s
  | .tableWrite tag table first count data => Sys2Proof.Machine.execTableWrite tag table first count data s
  | .tableRead tag table bank first count => Sys2Proof.Machine.execTableRead tag table bank first count s
  | .tableCommit tag table digest => Sys2Proof.Machine.execTableCommit tag table digest s
  | .downwardFrame frame => Sys2Proof.Machine.execDownwardFrame frame s
  | .unknownRequest tag kind => Sys2Proof.Machine.execUnknownRequest tag kind s
  | .upwardFrameSent => Sys2Proof.Machine.execUpwardFrameSent s
  | .siteSilenceExpiry => Sys2Proof.Machine.execSiteSilenceExpiry s
  | .setMode tag arg => Sys2Proof.Machine.execSetMode tag arg s
  | .resetPart tag => Sys2Proof.Machine.execResetPart tag s
  | .readStatus tag => Sys2Proof.Machine.execReadStatus tag s
  | .readRack tag rack => Sys2Proof.Machine.execReadRack tag rack s
  | .readCells tag rack firstNode lastNode clear => Sys2Proof.Machine.execReadCells tag rack firstNode lastNode clear s
  | .traceSet tag node channel count => Sys2Proof.Machine.execTraceSet tag node channel count s
  | .traceClear tag target => Sys2Proof.Machine.execTraceClear tag target s
  | .balanceEnable tag racks on => Sys2Proof.Machine.execBalanceEnable tag racks on s
  | .budgetReload tag racks => Sys2Proof.Machine.execBudgetReload tag racks s
  | .prechargeAttemptExpiry rack => Sys2Proof.Machine.execPrechargeAttemptExpiry rack s

end Sys2Proof.Machine
end

