-- ==== Sys2Proof/Safety.lean ====
section
/-!
DEFINITION. What a safe run of the part is, in the terms the statements use: which parts of State a
step leaves alone, the invariants every step keeps, and the shape of a request step.
-/

namespace Sys2Proof

/-! ## Commands -/

/-- The request whose taking a command is, with its tag (R179); none for a command that takes none. -/
def Instr.request : Instr → Option Machine.Tagged
  | .powerOnReset => none
  | .pinReset => none
  | .commandReset => none
  | .cycleStart => none
  | .loopToken _ _ => none
  | .tokenPhaseEnd => none
  | .pollSlotStart => none
  | .sampleReply _ _ => none
  | .pollSlotEnd => none
  | .eventTurnStart => none
  | .eventReply _ _ => none
  | .eventTurnEnd => none
  | .blindTimerExpiry _ => none
  | .oneSecondTimerExpiry => none
  | .dailyReloadTimerExpiry => none
  | .coolDownTimerExpiry _ => none
  | .controlIntervalExpiry => none
  | .blindHoldTimerExpiry => none
  | .outputFeedbackChange _ _ => none
  | .proofTimerExpiry _ => none
  | .coolingFaultClear tag => some ⟨tag, .coolingFaultClear⟩
  | .lineReadingChange _ _ => none
  | .lineDebounceExpiry _ => none
  | .hornPatternToggle => none
  | .countdownExpiry => none
  | .releasePulseEnd => none
  | .feedbackWatchExpiry => none
  | .fireAck tag => some ⟨tag, .fireAck⟩
  | .fireReset tag => some ⟨tag, .fireReset⟩
  | .connect tag racks => some ⟨tag, .connect racks⟩
  | .disconnect tag racks => some ⟨tag, .disconnect racks⟩
  | .clearFault tag racks => some ⟨tag, .clearFault racks⟩
  | .contactorFeedbackChange _ _ _ => none
  | .watchTimerExpiry _ _ => none
  | .waitTimerExpiry _ => none
  | .prechargeTimeout _ => none
  | .closeProofExpiry _ => none
  | .prechargeReleaseDelayEnd _ => none
  | .drainTimerExpiry _ => none
  | .openProofExpiry _ => none
  | .clearTrip tag racks => some ⟨tag, .clearTrip racks⟩
  | .emergencyOpen tag => some ⟨tag, .emergencyOpen⟩
  | .readTrips tag => some ⟨tag, .readTrips⟩
  | .clearTripHistory tag => some ⟨tag, .clearTripHistory⟩
  | .limitPeriodExpiry => none
  | .limitMessageSent => none
  | .converterStatus _ => none
  | .silenceWatchExpiry => none
  | .silentTripExpiry => none
  | .breakerPulseEnd => none
  | .breakerProofExpiry => none
  | .breakerFeedbackChange _ => none
  | .tableWrite tag t first count data => some ⟨tag, .tableWrite t first count data⟩
  | .tableRead tag t bank first count => some ⟨tag, .tableRead t bank first count⟩
  | .tableCommit tag t digest => some ⟨tag, .tableCommit t digest⟩
  | .downwardFrame _ => none
  | .unknownRequest tag kind => some ⟨tag, .unknown kind⟩
  | .upwardFrameSent => none
  | .siteSilenceExpiry => none
  | .setMode tag arg => some ⟨tag, .setMode arg⟩
  | .resetPart tag => some ⟨tag, .resetPart⟩
  | .readStatus tag => some ⟨tag, .readStatus⟩
  | .readRack tag rack => some ⟨tag, .readRack rack⟩
  | .readCells tag rack lo hi clear => some ⟨tag, .readCells rack lo hi clear⟩
  | .traceSet tag node ch count => some ⟨tag, .traceSet node ch count⟩
  | .traceClear tag target => some ⟨tag, .traceClear target⟩
  | .balanceEnable tag racks on => some ⟨tag, .balanceEnable racks on⟩
  | .budgetReload tag racks => some ⟨tag, .budgetReload racks⟩
  | .prechargeAttemptExpiry _ => none

/-- The commands in which a rack set can become complete (R39): a slot ends with a reply or a miss. -/
def Instr.endsSlot : Instr → Bool
  | .powerOnReset => false
  | .pinReset => false
  | .commandReset => false
  | .cycleStart => false
  | .loopToken _ _ => false
  | .tokenPhaseEnd => false
  | .pollSlotStart => false
  | .sampleReply _ _ => true
  | .pollSlotEnd => true
  | .eventTurnStart => false
  | .eventReply _ _ => false
  | .eventTurnEnd => false
  | .blindTimerExpiry _ => false
  | .oneSecondTimerExpiry => false
  | .dailyReloadTimerExpiry => false
  | .coolDownTimerExpiry _ => false
  | .controlIntervalExpiry => false
  | .blindHoldTimerExpiry => false
  | .outputFeedbackChange _ _ => false
  | .proofTimerExpiry _ => false
  | .coolingFaultClear _ => false
  | .lineReadingChange _ _ => false
  | .lineDebounceExpiry _ => false
  | .hornPatternToggle => false
  | .countdownExpiry => false
  | .releasePulseEnd => false
  | .feedbackWatchExpiry => false
  | .fireAck _ => false
  | .fireReset _ => false
  | .connect _ _ => false
  | .disconnect _ _ => false
  | .clearFault _ _ => false
  | .contactorFeedbackChange _ _ _ => false
  | .watchTimerExpiry _ _ => false
  | .waitTimerExpiry _ => false
  | .prechargeTimeout _ => false
  | .closeProofExpiry _ => false
  | .prechargeReleaseDelayEnd _ => false
  | .drainTimerExpiry _ => false
  | .openProofExpiry _ => false
  | .clearTrip _ _ => false
  | .emergencyOpen _ => false
  | .readTrips _ => false
  | .clearTripHistory _ => false
  | .limitPeriodExpiry => false
  | .limitMessageSent => false
  | .converterStatus _ => false
  | .silenceWatchExpiry => false
  | .silentTripExpiry => false
  | .breakerPulseEnd => false
  | .breakerProofExpiry => false
  | .breakerFeedbackChange _ => false
  | .tableWrite _ _ _ _ _ => false
  | .tableRead _ _ _ _ _ => false
  | .tableCommit _ _ _ => false
  | .downwardFrame _ => false
  | .unknownRequest _ _ => false
  | .upwardFrameSent => false
  | .siteSilenceExpiry => false
  | .setMode _ _ => false
  | .resetPart _ => false
  | .readStatus _ => false
  | .readRack _ _ => false
  | .readCells _ _ _ _ _ => false
  | .traceSet _ _ _ _ => false
  | .traceClear _ _ => false
  | .balanceEnable _ _ _ => false
  | .budgetReload _ _ => false
  | .prechargeAttemptExpiry _ => false

end Sys2Proof

namespace Sys2Proof.Machine

/-! ## Frames -/

/-- The parts of State. -/
inductive Block
  | now | ring | samples | limits | balance | cooling | fire | sequencer | trips | converter | tables
  | site | choices | pending
  deriving DecidableEq, Repr

/-- A part of State is the same in two states. -/
def Block.same (s t : State) : Block → Prop
  | .now => t.now = s.now
  | .ring => t.ring = s.ring
  | .samples => t.samples = s.samples
  | .limits => t.limits = s.limits
  | .balance => t.balance = s.balance
  | .cooling => t.cooling = s.cooling
  | .fire => t.fire = s.fire
  | .sequencer => t.sequencer = s.sequencer
  | .trips => t.trips = s.trips
  | .converter => t.converter = s.converter
  | .tables => t.tables = s.tables
  | .site => t.site = s.site
  | .choices => t.choices = s.choices
  | .pending => t.pending = s.pending

/-- Everything outside the named parts is the same in two states. -/
def State.sameBut (s t : State) (touched : List Block) : Prop :=
  ∀ b : Block, b ∉ touched → b.same s t

/-! ## Request steps (R179) -/

/-- A request stands at the head of the FIFO with so many behind it, and may be taken: the reply queue
has room and no RESET_PART has been taken. -/
def State.offers (s : State) (x : Tagged) (rest : List Tagged) : Prop :=
  s.site.fifo = x :: rest ∧ s.site.replies.length < 8 ∧ s.site.reset = .none

/-- A state with the head of its FIFO taken and its reply queued, and nothing else changed. -/
def State.answered (s : State) (x : Tagged) (rest : List Tagged) (result : Result)
    (body : ReplyBody) : State :=
  s.withSite
    { s.site with
      fifo := rest
      replies := s.site.replies ++ [⟨x.tag, x.request, result, body⟩] }

/-- The replies that have not yet been sent to their end, oldest first: the one on the upward link and
the queue. -/
def Site.unsentReplies (x : Site) : List Reply :=
  (match x.link with
    | some (.reply r) => [r]
    | _ => []) ++ x.replies

/-! ## Invariants -/

/-- The request FIFO, the reply, event and trace report queues, the trip history and the trace table are
within the lengths their chapters give them (R45, R153, R179, R182). -/
structure State.QueuesBounded (s : State) : Prop where
  fifo : s.site.fifo.length ≤ 4
  replies : s.site.replies.length ≤ 8
  events : s.site.events.length ≤ 32
  traces : s.site.traces.length ≤ 16
  history : s.trips.history.length ≤ 16
  traceTable : s.samples.trace.length = 32

/-- The heater is never commanded beside a compressor, commanded or still running by its feedback, and
a compressor never without the pump (R86). -/
structure State.HeaterInterlocked (s : State) : Prop where
  compressor1 : (s.cooling.outputs.get .heater).command = true →
    (s.cooling.outputs.get .compressor1).command = false ∧
      (s.cooling.outputs.get .compressor1).feedback = false
  compressor2 : (s.cooling.outputs.get .heater).command = true →
    (s.cooling.outputs.get .compressor2).command = false ∧
      (s.cooling.outputs.get .compressor2).feedback = false
  pump1 : (s.cooling.outputs.get .compressor1).command = true →
    (s.cooling.outputs.get .pump).command = true
  pump2 : (s.cooling.outputs.get .compressor2).command = true →
    (s.cooling.outputs.get .pump).command = true

/-- A table of the store is consistent: its digest is the active bank's, a CLEAN pending bank is a copy
of the active one, and a pending bank in another state holds a table (R169, R172). -/
structure TableState.Consistent (x : TableState) : Prop where
  digest : x.digest = x.active.map digestOf
  clean : x.state = .clean → x.pending = x.active
  edited : x.state ≠ .clean → x.pending.isSome = true

/-- Every table of the store is consistent. -/
def State.TablesConsistent (s : State) : Prop := ∀ t : TableName, (s.table t).Consistent

/-- A rack that holds a trip latch, or any rack while a container latch is set, is not QUEUED,
PRECHARGING, JOINING or CONNECTED (R138). -/
def State.TrippedRacksApart (s : State) : Prop :=
  ∀ r : Rack, s.latchedFor r = true →
    s.rackState r ≠ .queued ∧ s.rackState r ≠ .precharging ∧ s.rackState r ≠ .joining ∧
      s.rackState r ≠ .connected

/-- What the sequencer's own rules say of its racks: a rack stands in the connect queue exactly when its
state is QUEUED, and not twice (R127); its operation is protective only while it is DRAINING or OPENING
(R138, R139). -/
structure State.SequencerKept (s : State) : Prop where
  queued : ∀ r : Rack, (∃ e ∈ s.sequencer.queue, e.rack = r) ↔ s.rackState r = .queued
  once : (s.sequencer.queue.map (·.rack)).Nodup
  protective : ∀ r : Rack, (s.sequencer.racks.get r).operation.protective = true →
    s.rackState r = .draining ∨ s.rackState r = .opening

/-- No contactor of a rack is commanded closed. -/
def State.commandedOpen (s : State) (r : Rack) : Prop :=
  (s.sequencer.racks.get r).mainCommand = false ∧
    (s.sequencer.racks.get r).prechargeCommand = false

/-! ## Settled states -/

/-- The rack sequencer is at rest: the WELDED latch is not one that clears now (R155), no pending
disconnect can be granted the slot (R128), and the switching hold stands only while a rack is
switching (R137). -/
structure State.Settled (s : State) : Prop where
  welded : s.trips.container.welded.standing = true → s.containerGone .welded = false
  granted : s.grantable = none
  hold : s.sequencer.hold = true → s.anySwitching = true

/-! ## Safe runs -/

/-- One step of the part that stops for no reason. -/
def Steps (s t : State) : Prop := step s = .next t

end Sys2Proof.Machine
end

