-- ==== Sys2Proof/Certificates/Slice0/Obligations.lean ====
section
/-!
DEFINITION. The statements about the model, for the provers. The rules they come from are named in
each docstring; what is the model's own choice is named with its log entry.
-/

open Sys2Proof Sys2Proof.Machine

/-! ## The step, the queues and the upward link -/

/-- A step runs the command at the front of the queue on the state with the queue's rest. On an empty
queue it lets one millisecond of part time pass and changes nothing else: that clause is the model's
choice, log entry 2. -/
def Obligations.StepRunsFrontCommand : Prop :=
  (∀ (c : Instr) (rest : List Instr) (s : State), s.pending = c :: rest →
    step s = exec c (s.withPending rest)) ∧
  (∀ s : State, s.pending = [] → step s = .next (s.withNow (s.now + 1)))

/-- Every command takes a next state in every state: no rule of the manual stops the part. -/
def Obligations.EveryCommandAnswersNext : Prop :=
  ∀ (c : Instr) (s : State), ∃ t, exec c s = .next t

/-- The arbiter that closes every step (R180): a busy link grants nothing; a free link takes a
reply, then an event, then a state report, and a trace report only when no state report waits; with
nothing waiting nothing changes. State reports go out in turn (R181): the first filled place from
the pointer on is sent and emptied, the other places are kept, and the pointer moves to the place
after it. A container summary carries EVENT_LOST as it stands when it is sent, and clears it (R182).
(That a free link grants nothing while a command reset is due is the model's choice, log entry 5:
R184 only says that the reset begins once its reply has been sent.) -/
def Obligations.ArbiterGrantsByClass : Prop :=
  (∀ s : State,
    (∀ f, s.site.link = some f → arbitrate s = s) ∧
    (s.site.link = none → s.site.reset = .due → arbitrate s = s) ∧
    (s.site.link = none → s.site.reset ≠ .due →
      (∀ r rest, s.site.replies = r :: rest →
        arbitrate s = s.withSite { s.site with link := some (.reply r), replies := rest }) ∧
      (s.site.replies = [] → ∀ e rest, s.site.events = e :: rest →
        arbitrate s = s.withSite { s.site with link := some (.event e), events := rest }) ∧
      (s.site.replies = [] → s.site.events = [] → (∀ p, s.site.filled p = false) →
        (∀ t rest, s.site.traces = t :: rest →
          arbitrate s = s.withSite { s.site with link := some (.trace t), traces := rest }) ∧
        (s.site.traces = [] → arbitrate s = s)))) ∧
  (∀ (s : State) (before after : List Place) (p : Place),
    s.site.link = none → s.site.reset ≠ .due → s.site.replies = [] → s.site.events = [] →
    s.site.pointer.ringFrom = before ++ p :: after → (∀ q ∈ before, s.site.filled q = false) →
    s.site.filled p = true →
    (arbitrate s).site.pointer = p.next ∧
    (∀ q, (arbitrate s).site.filled q = (s.site.filled q && decide (q ≠ p))) ∧
    (arbitrate s).site.link =
      (match p with
        | .rack1 => s.site.rackPlaces.r1.map UpFrame.rack
        | .rack2 => s.site.rackPlaces.r2.map UpFrame.rack
        | .rack3 => s.site.rackPlaces.r3.map UpFrame.rack
        | .rack4 => s.site.rackPlaces.r4.map UpFrame.rack
        | .container => s.site.containerPlace.map fun x =>
            UpFrame.container { x with eventLost := s.site.eventLost }) ∧
    (arbitrate s).site.eventLost = (s.site.eventLost && decide (p ≠ .container)) ∧
    (arbitrate s).site.traces = s.site.traces ∧
    s.sameBut (arbitrate s) [.site])


/-- Posting an event (R182): it takes the part time and its number; the post counter advances, wrapping;
a queue of 32 drops it, sets EVENT_LOST and produces a container summary. (That the number is the post
counter as it stands before it advances is the model's reading, log entry 19.) -/
def Obligations.EventsAreNumberedAndBounded : Prop :=
  ∀ (e : Event) (s : State),
    (s.site.events.length < 32 →
      post e s = s.withSite
        { s.site with
          events := s.site.events ++ [⟨s.site.postCounter, s.now, e⟩]
          postCounter := s.site.postCounter + 1 }) ∧
    (32 ≤ s.site.events.length →
      post e s = s.withSite
        { s.site with
          postCounter := s.site.postCounter + 1
          eventLost := true
          containerPlace := some { containerSummaryOf s with eventLost := true } })

/-- A request that is not at the head of the FIFO, that finds the reply queue full, or that follows a
RESET_PART is not taken (R179, R184); its command then changes nothing (log entry 4). -/
def Obligations.RequestsNotOfferedWait : Prop :=
  ∀ (c : Instr) (x : Tagged) (s : State), c.request = some x →
    ¬ (∃ rest, s.offers x rest) → exec c s = .next s

/-- Every request that is taken leaves the FIFO and is answered exactly once, by a reply that echoes its
tag and its kind and comes after every reply not yet sent (R179). -/
def Obligations.EveryTakenRequestIsAnsweredOnce : Prop :=
  ∀ (c : Instr) (x : Tagged) (rest : List Tagged) (s : State), c.request = some x →
    s.offers x rest →
    ∃ t result body, exec c s = .next t ∧ t.site.fifo = rest ∧
      t.site.unsentReplies = s.site.unsentReplies ++ [⟨x.tag, x.request, result, body⟩]

/-- Every step keeps six lengths: the request FIFO holds at most 4 requests, the reply queue 8
replies, the event queue 32 events, the trace report queue 16 reports and the trip history 16
records, and the trace table has 32 entries (R45, R153, R179, R182). -/
def Obligations.QueuesStayBounded : Prop :=
  ∀ s t : State, s.QueuesBounded → step s = .next t → t.QueuesBounded

/-- Every step keeps the interlocks of the plant outputs: the heater is never commanded beside a
compressor that is commanded or reads on, and no compressor is commanded without the pump (R86). -/
def Obligations.HeaterStaysInterlocked : Prop :=
  ∀ s t : State, s.HeaterInterlocked → step s = .next t → t.HeaterInterlocked

/-- Every step keeps every table consistent: the digest is the active bank's, a CLEAN pending bank is a
copy of the active one, and a bank that waits holds a table (R169, R172). -/
def Obligations.TablesStayConsistent : Prop :=
  ∀ s t : State, s.TablesConsistent → step s = .next t → t.TablesConsistent

/-- Every step keeps tripped racks apart from the bus: a rack that holds a trip latch, or any rack while
a container latch is set, is not QUEUED, PRECHARGING, JOINING or CONNECTED (R138, R126). With it every
step keeps what the sequencer's own rules say of its racks: a rack stands in the connect queue exactly
when it is QUEUED, and not twice (R127), and its operation is protective only while it is DRAINING or
OPENING (R138, R139). -/
def Obligations.TrippedRacksStayApart : Prop :=
  ∀ s t : State, s.TrippedRacksApart → s.SequencerKept → step s = .next t →
    t.TrippedRacksApart ∧ t.SequencerKept

/-- The five invariants hold in the reset state. -/
def Obligations.InvariantsHoldAtReset : Prop :=
  State.reset.QueuesBounded ∧ State.reset.HeaterInterlocked ∧ State.reset.TablesConsistent ∧
    State.reset.TrippedRacksApart ∧ State.reset.SequencerKept

/-- No command closes a contactor but one in which a rack set can become complete, the end of a poll
slot by a reply or by a miss: a rack whose contactors are both commanded open stays so over every
other command (R129, R131, R132). -/
def Obligations.ContactorsCloseOnlyAtSetComplete : Prop :=
  ∀ (c : Instr) (s t : State) (r : Rack), c.endsSlot = false → exec c s = .next t →
    s.commandedOpen r → t.commandedOpen r

/-- EMERGENCY_OPEN opens the container (R150): from every state in which it is taken, every contactor of
every rack is commanded open in the same step, the EMERGENCY latch stands unacknowledged, and the
breaker's trip output is on, unless its pulse sequence has FAILED (R165). -/
def Obligations.EmergencyOpensEveryRack : Prop :=
  ∀ (tag : Byte) (rest : List Tagged) (s : State), s.offers ⟨tag, .emergencyOpen⟩ rest →
    ∃ t, exec (.emergencyOpen tag) s = .next t ∧ (∀ r, t.commandedOpen r) ∧
      t.trips.container.emergency = ⟨true, false⟩ ∧
      t.converter.pulse = (if s.converter.pulse = .failed then .failed else .pulsing) ∧
      (t.converter.tripOutput = true ↔ s.converter.pulse ≠ .failed)

/-! ## Resets -/

/-- A power-on reset with every input at rest leaves the part in its reset state, whatever came before;
only the model's own fields, the count of free choices and the waiting commands, are kept (log
entry 3). -/
def Obligations.PowerOnResetGivesResetState : Prop :=
  ∀ s : State,
    (∀ r, (s.sequencer.racks.get r).mainClosed = false ∧
      (s.sequencer.racks.get r).prechargeClosed = false) →
    (∀ o, (s.cooling.outputs.get o).feedback = false) →
    (∀ l, (s.fire.lines.get l).reading = .normal) →
    s.converter.breakerClosed = false →
    exec .powerOnReset s =
      .next { State.reset with choices := s.choices, pending := s.pending }

/-- What every reset leaves in the ring controller (the table of R22): counter 0, ring CLOSED, no
expectation, counts 0, an empty poll list, every enabled node on its starting side with its counts,
marks and mask cleared, and the scan cycle running if a SLOT table is active. A pin reset always
begins; a command reset begins when the reply of the RESET_PART has been sent. (That no echoed mask is
kept is the model's choice, log entry 16: R22 does not name it.) -/
def Obligations.ResetsClearTheRing : Prop :=
  ∀ (s t : State),
    (exec .powerOnReset s = .next t ∨ exec .pinReset s = .next t ∨
      (s.site.reset = .due ∧ exec .commandReset s = .next t)) →
    t.ring.cycle = 0 ∧ t.ring.ringState = .closed ∧ t.ring.returnedRun = 0 ∧
      t.ring.lostRun = 0 ∧ t.ring.endA.expectation = none ∧ t.ring.endB.expectation = none ∧
      t.ring.endA.errors = .zero ∧ t.ring.endB.errors = .zero ∧ t.ring.pollList = [] ∧
      t.ring.phase = (if t.isActive .slot then .due else .idle) ∧
      t.ring.nodes = t.entries.map fun e =>
        { node := e.node
          side := match e.sidePolicy with
            | .auto => .a
            | .aOnly => .a
            | .bOnly => .b
          miss := 0
          sideMiss := 0
          link := .online
          heard := false
          commanded := 0#16
          confirmed := false
          echoed := none }

/-- What a pin reset, and the command reset that is due, keep (R158, R177, R187): the active tables
with their digests, the required-set mark and the trip sequence; the pending banks become copies,
CLEAN, and the part is in RUN if the required set was complete. Kept too are Q, r and the charge
quality of every rack (R70), the remaining seconds of every balancing record and the balancing
enable flags (R85), and the hard-break counts (R145). With every contactor open no latch is set,
the breaker's trip output is off (R167) and the trip history is kept, no record of it awaiting a rack. A
rack whose contactor reads closed
stands in FAULT WELDED instead of OPEN, the WELDED latch is set and the breaker is tripped (R145).
-/
def Obligations.ResetsKeepTables : Prop :=
  ∀ (c : Instr) (s : State), (c = .pinReset ∨ (c = .commandReset ∧ s.site.reset = .due)) →
    ∃ t, exec c s = .next t ∧
      (∀ n, t.table n = ⟨(s.table n).active, (s.table n).active, .clean, (s.table n).digest⟩) ∧
      t.tables.requiredSet = s.tables.requiredSet ∧
      t.site.mode = (if s.tables.requiredSet then .run else .unconfigured) ∧
      t.site.fifo = [] ∧ t.site.replies = [] ∧
      (∀ r, (t.limits.racks.get r).q = (s.limits.racks.get r).q ∧
        (t.limits.racks.get r).r = (s.limits.racks.get r).r ∧
        (t.limits.racks.get r).quality = (s.limits.racks.get r).quality ∧
        (t.balance.racks.get r).enabled = (s.balance.racks.get r).enabled ∧
        (t.sequencer.racks.get r).hardBreaks = (s.sequencer.racks.get r).hardBreaks) ∧
      t.balance.records.map (fun b => (b.rack, b.node, b.channel, b.remaining)) =
        s.balance.records.map (fun b => (b.rack, b.node, b.channel, b.remaining)) ∧
      ((∀ r, (s.sequencer.racks.get r).mainClosed = false ∧
          (s.sequencer.racks.get r).prechargeClosed = false) →
        t.trips.sequence = s.trips.sequence ∧ t.trips.racks = .fill .initial ∧
        t.trips.container = .initial ∧ t.converter.pulse = .idle ∧ t.converter.tripOutput = false ∧
        t.trips.history = s.trips.history.map fun x => { x with awaited := [] }) ∧
      (∀ r, (s.sequencer.racks.get r).mainClosed = true ∨
          (s.sequencer.racks.get r).prechargeClosed = true →
        t.rackState r = .fault ∧ (t.sequencer.racks.get r).faultKind = some .welded ∧
        t.trips.container.welded = ⟨true, false⟩ ∧ t.converter.pulse = .pulsing ∧
        t.converter.tripOutput = true)

/-! ## The cell ring (chapter 1) -/

/-- CYCLE_START when a cycle is due and no ring-path table is COMMITTED (R1, R2, R3, R8): the counter
advances modulo 64, but not at the first cycle; the length is the SLOT header's, stretched in
STANDBY; the token of the new counter leaves end A; and nothing else happens but what settling the
rack sequencer and the arbiter bring. -/
def Obligations.CycleStartSendsToken : Prop :=
  ∀ (s : State) (h : SlotHeader), s.cycleDue = true → s.slotHeader = some h →
    (∀ n ∈ TableName.ringPath, (s.table n).state ≠ .committed) →
    let cycle := if s.ring.phase = .due then s.ring.cycle else (s.ring.cycle + 1) % 64
    exec .cycleStart s = .next (arbitrate (settle
      { s with
        samples := { s.samples with
          racks := s.samples.racks.mapWith fun _ x => { x with junctionTaken := false } }
        ring := { s.ring with
          cycle := cycle
          phase := .token
          cycleStart := s.now
          cycleLength := if s.site.mode = .standby then h.cycleLength * h.stretch else h.cycleLength
          tokenReturned := false
          endA := { s.ring.endA with
            sent := some (.token cycle (crc16 (Config.tokenBytes cycle))) } } }))

/-- LOOP_TOKEN (R8): outside the token phase a token frame counts as LATE against its end; inside it a
token at end B is discarded at the first failing check of length, line symbol, CRC and echo, against
end B, and otherwise makes the cycle's token returned, and one at end A with another cycle's counter
counts as LATE there, being outside the token phase of its cycle. (Two parts are the model's readings,
log entry 6: that the present cycle's token has no effect at end A, and that another cycle's counter
counts as STALE_ECHO at end B, where R8 can also be read as LATE.) -/
def Obligations.TokensAreChecked : Prop :=
  ∀ (d : RingEnd) (f : TokenFrame) (s : State),
    (s.ring.phase ≠ .token →
      exec (.loopToken d f) s = .next (arbitrate (discard d .late s))) ∧
    (s.ring.phase = .token →
      (f.echo = s.ring.cycle → exec (.loopToken .a f) s = .next (arbitrate s)) ∧
      (f.echo ≠ s.ring.cycle →
        exec (.loopToken .a f) s = .next (arbitrate (discard .a .late s))) ∧
      (f.lengthOk = false →
        exec (.loopToken .b f) s = .next (arbitrate (discard .b .framing s))) ∧
      (f.lengthOk = true → f.symbolsOk = false →
        exec (.loopToken .b f) s = .next (arbitrate (discard .b .noise s))) ∧
      (f.lengthOk = true → f.symbolsOk = true → f.crc ≠ crc16 (Config.tokenBytes f.echo) →
        exec (.loopToken .b f) s = .next (arbitrate (discard .b .crc s))) ∧
      (f.lengthOk = true → f.symbolsOk = true → f.crc = crc16 (Config.tokenBytes f.echo) →
        (f.echo ≠ s.ring.cycle →
          exec (.loopToken .b f) s = .next (arbitrate (discard .b .staleEcho s))) ∧
        (f.echo = s.ring.cycle →
          exec (.loopToken .b f) s =
            .next (arbitrate { s with ring := { s.ring with tokenReturned := true } }))))

/-- TOKEN_PHASE_END (R9): a returned token raises the one run count and clears the other, a lost one the
reverse; the ring opens at the second token lost in a row and closes at the second returned; a change
posts RING_STATE and produces a container summary. -/
def Obligations.TokenPhaseEndSettlesRing : Prop :=
  ∀ s : State, s.ring.phase = .token →
    let up := if s.ring.tokenReturned then min 2 (s.ring.returnedRun + 1) else 0
    let down := if s.ring.tokenReturned then 0 else min 2 (s.ring.lostRun + 1)
    let state : RingState :=
      if s.ring.ringState = .closed ∧ down = 2 then .opened
      else if s.ring.ringState = .opened ∧ up = 2 then .closed
      else s.ring.ringState
    let settled : State := { s with
      ring := { s.ring with
        returnedRun := up, lostRun := down, ringState := state
        phase := if s.entries = [] then .betweenTurns 0 else .betweenSlots 0 } };
    (state = s.ring.ringState → exec .tokenPhaseEnd s = .next (arbitrate settled)) ∧
    (state ≠ s.ring.ringState →
      exec .tokenPhaseEnd s = .next (arbitrate
        (produceContainerSummary (post (.ringState state s.ring.cycle) settled))))

/-- POLL_SLOT_START (R5, R10, R11): the node of the next entry is polled through its current side, with
the present cycle counter, the request set of R5 and a bleed mask only while its last one is not
confirmed, its CRC-16 over these four fields; the end's expectation becomes a sample reply with the
number of codes called for. -/
def Obligations.PollSlotStartPollsNode : Prop :=
  ∀ (s : State) (k : Nat) (e : SlotEntry) (n : RingNode),
    s.ring.phase = .betweenSlots k → s.entries[k]? = some e → s.ringNode e.node = some n →
    let c := s.ring.cycle
    let temperatures : Bool :=
      decide (c &&& e.tempMask = e.tempMatch ∧ 0 < e.temperatures)
    let request : RequestSet := match e.nodeKind with
      | .cell => .cells temperatures
      | .junction => .junction
      | .plant => .plant
    let mask : Option CellMask :=
      if e.nodeKind = .cell ∧ n.confirmed = false then some n.commanded else none
    let codes := match e.nodeKind with
      | .cell => e.cells + if temperatures then e.temperatures else 0
      | .junction => 4
      | .plant => 5
    let frame := RingFrame.poll e.node c request
      (match mask with
        | some m => .mask m
        | none => .unchanged)
      (crc16 (Config.pollBytes e.node c request mask))
    let polled := s.ring.setEnd n.side
      { s.ring.endOf n.side with
        expectation := some ⟨e.node, c, .sample codes, false⟩, sent := some frame }
    exec .pollSlotStart s = .next (arbitrate { s with ring := { polled with phase := .slot k } })

/-- A reply that fails a check is discarded at the first it fails and counted at its end (R13), sample
replies and event replies alike: FRAMING, NOISE, CRC, ADDRESS (also where the end expects nothing),
STALE_ECHO and LATE, in this order. The discard raises the count of that error at that end,
saturating at 65535 (R14), and changes nothing else. (A reply of the other kind than the one its end
expects is left out: log entry 6.) -/
def Obligations.BadRepliesAreDiscarded : Prop :=
  (∀ (d : RingEnd) (k : RingError) (s : State),
    s.sameBut (discard d k s) [.ring] ∧
    { (discard d k s).ring with endA := s.ring.endA, endB := s.ring.endB } = s.ring ∧
    (discard d k s).ring.endOf (otherEnd d) = s.ring.endOf (otherEnd d) ∧
    (discard d k s).ring.endOf d =
      { s.ring.endOf d with errors := (s.ring.endOf d).errors.bump k } ∧
    (∀ e : RingErrors,
      e.bump .framing = { e with framing := if e.framing < 65535 then e.framing + 1 else 65535 } ∧
      e.bump .noise = { e with noise := if e.noise < 65535 then e.noise + 1 else 65535 } ∧
      e.bump .crc = { e with crc := if e.crc < 65535 then e.crc + 1 else 65535 } ∧
      e.bump .address = { e with address := if e.address < 65535 then e.address + 1 else 65535 } ∧
      e.bump .staleEcho =
        { e with staleEcho := if e.staleEcho < 65535 then e.staleEcho + 1 else 65535 } ∧
      e.bump .late = { e with late := if e.late < 65535 then e.late + 1 else 65535 })) ∧
  (∀ (d : RingEnd) (f : SampleFrame) (g : EventFrame) (s : State),
    let x := (s.ring.endOf d).expectation
    let crcOf := crc16
      (Config.sampleReplyBytes f.node f.echo f.codes f.eventPending f.nodeFault f.applied)
    let drop (k : RingError) : Prop :=
      exec (.sampleReply d f) s = .next (arbitrate (settle (discard d k s)))
    let dropEvent (k : RingError) : Prop :=
      exec (.eventReply d g) s = .next (arbitrate (settle (discard d k s)))
    let eventCrc := crc16
      (Config.eventReplyBytes g.node g.echo g.eventPending g.nodeFault g.kind g.channel);
    (f.lengthOk = false → drop .framing) ∧
    (∀ e n, f.lengthOk = true → x = some e → e.wanted = .sample n → f.codes.length ≠ n →
      drop .framing) ∧
    (f.lengthOk = true → (∀ e, x = some e → e.wanted = .sample f.codes.length) →
      (f.symbolsOk = false → drop .noise) ∧
      (f.symbolsOk = true → f.crc ≠ crcOf → drop .crc) ∧
      (f.symbolsOk = true → f.crc = crcOf →
        (x = none → drop .address) ∧
        (∀ e, x = some e →
          (f.node ≠ e.node → drop .address) ∧
          (f.node = e.node → f.echo ≠ e.cycle → drop .staleEcho) ∧
          (f.node = e.node → f.echo = e.cycle → e.ended = true → drop .late)))) ∧
    (g.lengthOk = false → dropEvent .framing) ∧
    (g.lengthOk = true → (∀ e, x = some e → e.wanted = .event) →
      (g.symbolsOk = false → dropEvent .noise) ∧
      (g.symbolsOk = true → g.crc ≠ eventCrc → dropEvent .crc) ∧
      (g.symbolsOk = true → g.crc = eventCrc →
        (x = none → dropEvent .address) ∧
        (∀ e, x = some e →
          (g.node ≠ e.node → dropEvent .address) ∧
          (g.node = e.node → g.echo ≠ e.cycle → dropEvent .staleEcho) ∧
          (g.node = e.node → g.echo = e.cycle → e.ended = true → dropEvent .late)))))

/-- SAMPLE_REPLY accepted (R12, R16, R18, R25): the node is ONLINE with its miss counts at 0 and its
heard mark set, the end's expectation is used up, and a set event-pending flag puts the node in the
poll list. Of a node that is not faulted, by its mark or by the reply's flag, the codes are filed
one after another at the channels of the reply, and the records of the next state are those that the
filing leaves; of a faulted node no code reaches a record, and its fresh records are STALE where its
empty-slot count reaches the stale threshold (R26). Each code is filed as R30 states: a valid one
gives its record the value, the stamp and the quality of the conversion, takes it into minimum and
maximum and judges it against the levels; an invalid one makes the record INVALID and changes
nothing else of it; and one on a channel whose sense-open mark is set changes nothing. -/
def Obligations.AcceptedReplyMarksNode : Prop :=
  (∀ (d : RingEnd) (f : SampleFrame) (e : SlotEntry) (n : RingNode) (s : State),
    s.sampleError d f = none → s.entryOf f.node = some e → s.ringNode e.node = some n →
    ∃ t m, exec (.sampleReply d f) s = .next t ∧ t.ringNode e.node = some m ∧
      m.miss = 0 ∧ m.sideMiss = 0 ∧ m.link = .online ∧ m.heard = true ∧ m.side = n.side ∧
      (t.ring.endOf d).expectation = none ∧
      t.ring.pollList =
        (if f.eventPending ∧ f.node ∉ s.ring.pollList then s.ring.pollList ++ [f.node]
          else s.ring.pollList) ∧
      ∀ y, s.sampleNode e.node = some y → 1 ≤ s.staleThreshold →
        (f.nodeFault = false → y.faulted = false →
          t.samples.records =
            (((e.replyChannels s.ring.cycle).zip f.codes).foldl
              (fun acc x => fileCode e s.now x.1 x.2 acc) s).samples.records) ∧
        (f.nodeFault = true ∨ y.faulted = true →
          t.samples.records = s.samples.records.map fun r =>
            if s.staleThreshold ≤ min 255 (y.emptySlots + 1) ∧ r.node = e.node ∧
                (r.quality = .fresh ∨ r.quality = .range) then
              { r with quality := .stale }
            else r)) ∧
  (∀ (e : SlotEntry) (stamp : PartTime) (channel : Nat) (code : Code) (r : Record) (s : State),
    s.record e.node channel = some r →
    let t := fileCode e stamp channel code s;
    (∀ v range, s.convert e channel code = .value v range →
      (s.senseOpen e.node channel = true → t = s) ∧
      (s.senseOpen e.node channel = false →
        let set := r.rack.bind s.limitSet
        t.record e.node channel = some
          { r with
            value := some v
            stamp := some stamp
            quality := if range then .range else .fresh
            minimum := some (r.minimum.elim v (min · v))
            maximum := some (r.maximum.elim v (max · v))
            high := set.elim r.high fun l => r.high.map (·.judge l r.kind.highSide v)
            low := set.elim r.low fun l => r.low.map (·.judge l r.kind.lowSide v) })) ∧
    (s.convert e channel code = .invalid →
      t.record e.node channel = some { r with quality := .invalid }) ∧
    (∀ node c, node ≠ e.node ∨ c ≠ channel → t.record node c = s.record node c))

/-- POLL_SLOT_END without an accepted reply (R15, R16, R17): the node's miss count rises by one, its
link state follows the stale threshold, an AUTO node changes side at its second miss there, and the
reply that comes too late will find its slot ended. With an accepted reply the ring only goes on to
the next slot, or to the event turns. A node whose link is then STALE, or whose empty-slot count has
reached the stale threshold, has every fresh record STALE; no other record changes (R25, R26). -/
def Obligations.SlotEndTakesMiss : Prop :=
  ∀ (s : State) (k : Nat) (e : SlotEntry) (n : RingNode),
    s.ring.phase = .slot k → s.entries[k]? = some e → s.ringNode e.node = some n →
    (s.unanswered n.side e.node = true →
      ∃ t m, exec .pollSlotEnd s = .next t ∧ t.ringNode e.node = some m ∧
        m.miss = (if n.miss < 255 then n.miss + 1 else 255) ∧
        m.link = (if m.miss < s.staleThreshold then .retrying else .stale) ∧
        m.heard = n.heard ∧
        (e.sidePolicy = .auto ∧ 1 ≤ n.sideMiss → m.side = otherEnd n.side ∧ m.sideMiss = 0) ∧
        (¬ (e.sidePolicy = .auto ∧ 1 ≤ n.sideMiss) →
          m.side = n.side ∧ m.sideMiss = if n.sideMiss < 2 then n.sideMiss + 1 else 2) ∧
        (t.ring.endOf n.side).expectation =
          (s.ring.endOf n.side).expectation.map (fun x => { x with ended := true }) ∧
        (∀ y, s.sampleNode e.node = some y →
          t.samples.records = s.samples.records.map fun r =>
            if (m.link = .stale ∨ s.staleThreshold ≤ min 255 (y.emptySlots + 1)) ∧
                r.node = e.node ∧ (r.quality = .fresh ∨ r.quality = .range) then
              { r with quality := .stale }
            else r)) ∧
    (s.unanswered n.side e.node = false →
      exec .pollSlotEnd s = .next (arbitrate (settle { s with
        ring := { s.ring with
          phase := if k + 1 < s.entries.length then .betweenSlots (k + 1)
            else .betweenTurns 0 } })))

/-- EVENT_TURN_START and EVENT_TURN_END (R19). The node at the head of the event poll list leaves it and
is polled through its current side, its end expecting an event reply; with an empty list the turn
passes idle. At the end of the turn a node that did not answer goes back to the tail of the list, and
its late reply will find the turn ended; an idle turn (node 0, an address no node has) ends without
that; the ring goes on to the next turn. -/
def Obligations.EventTurnsPollTheList : Prop :=
  (∀ (s : State) (j : Nat), s.ring.phase = .betweenTurns j → j < s.eventTurns →
    (s.ring.pollList = [] →
      exec .eventTurnStart s =
        .next (arbitrate { s with ring := { s.ring with phase := .turn j 0 } })) ∧
    (∀ node rest n, s.ring.pollList = node :: rest → s.ringNode node = some n →
      let c := s.ring.cycle
      let polled := Ring.setEnd { s.ring with pollList := rest } n.side
        { s.ring.endOf n.side with
          expectation := some ⟨node, c, .event, false⟩
          sent := some (.eventPoll node c (crc16 (Config.eventPollBytes node c))) }
      exec .eventTurnStart s =
        .next (arbitrate { s with ring := { polled with phase := .turn j node } }))) ∧
  (∀ (s : State) (j node : Nat) (n : RingNode), s.ring.phase = .turn j node →
    s.ringNode node = some n →
    (s.unanswered n.side node = false →
      exec .eventTurnEnd s =
        .next (arbitrate { s with ring := { s.ring with phase := .betweenTurns (j + 1) } })) ∧
    (s.unanswered n.side node = true →
      let ring := s.ring.setEnd n.side
        { s.ring.endOf n.side with
          expectation := (s.ring.endOf n.side).expectation.map fun x => { x with ended := true } }
      exec .eventTurnEnd s = .next (arbitrate { s with
        ring := { ring with
          phase := .betweenTurns (j + 1)
          pollList := if node ∈ s.ring.pollList then s.ring.pollList
            else s.ring.pollList ++ [node] } }))) ∧
  (∀ (s : State) (j : Nat), s.ring.phase = .turn j 0 → s.unanswered (s.sideOf 0) 0 = false →
    exec .eventTurnEnd s =
      .next (arbitrate { s with ring := { s.ring with phase := .betweenTurns (j + 1) } }))

/-- EVENT_REPLY accepted (R18, R20, R21): whatever it carries, the expectation is used up and a set
event-pending flag puts the node at the tail of the poll list. A reply that carries no event changes
nothing more. One that is not usable is posted with its usable mark clear and does nothing else (the
channel it carries where its kind names none is the model's choice, log entry 32). A usable one acts:
NODE_FAULT sets the node's faulted mark, SENSE_OPEN the channel's mark with its record INVALID, or
changes nothing in the sample processor while the mark stands, and NODE_RESTART clears both kinds of
mark (R31) and the mask confirmation (R11), and of a CELL node the echo fault (R80); BLEED_HOT starts
the cool-down and leaves no record of the node ACTIVE (R79; its time while no RACK table is active is the
model's choice, log entry 35); CELL_HW_OV and CELL_HW_UV set their latch and take the rack off the bus,
at once for OV (R146, R148). -/
def Obligations.EventRepliesAreTaken : Prop :=
  ∀ (d : RingEnd) (f : EventFrame) (e : SlotEntry) (s : State),
    s.eventError d f = none → s.entryOf f.node = some e →
    let ring := s.ring.setEnd d { s.ring.endOf d with expectation := none }
    let listed : State := { s with
      ring := { ring with
        pollList := if f.eventPending ∧ f.node ∉ s.ring.pollList then s.ring.pollList ++ [f.node]
          else s.ring.pollList } }
    let cellChannel : Prop := e.nodeKind = .cell ∧ f.channel < e.cells
    let usable : Prop := match f.kind with
      | .nothing => False
      | .nodeRestart => True
      | .nodeFault => True
      | .senseOpen => f.channel ∈ e.channels
      | .cellHwOv => cellChannel
      | .cellHwUv => cellChannel
      | .bleedHot => e.nodeKind = .cell
      | .other _ => False
    (f.kind = .nothing → exec (.eventReply d f) s = .next (arbitrate (settle listed))) ∧
    (f.kind ≠ .nothing → ¬ usable → exec (.eventReply d f) s = .next (arbitrate (settle
      (post (.nodeEvent false f.node none f.kind (some f.channel) s.now s.ring.cycle) listed)))) ∧
    (usable → ∃ t, exec (.eventReply d f) s = .next t ∧
      (t.ring.endOf d).expectation = none ∧ t.ring.pollList = listed.ring.pollList ∧
      (f.kind = .nodeFault → t.samples = { s.samples with
        nodes := s.samples.nodes.map fun n =>
          if n.node = f.node then { n with faulted := true } else n }) ∧
      (f.kind = .nodeFault → s.Settled → t.ring = listed.ring ∧
        t.site.postCounter = s.site.postCounter + 1) ∧
      (f.kind = .nodeRestart →
        t.samples = { s.samples with
          nodes := s.samples.nodes.map fun n =>
            if n.node = f.node then { n with faulted := false, senseOpen := 0#20 } else n } ∧
        (∀ n ∈ t.ring.nodes, n.node = f.node → n.confirmed = false) ∧
        (e.nodeKind = .cell → ∀ n ∈ t.balance.nodes, n.node = f.node →
          n.fault = false ∧ n.mismatches = 0)) ∧
      (f.kind = .senseOpen → s.senseOpen f.node f.channel = true → t.samples = s.samples) ∧
      (f.kind = .senseOpen → s.senseOpen f.node f.channel = false →
        (∀ n ∈ t.samples.nodes, n.node = f.node → f.channel < 20 →
          n.senseOpen.getLsbD f.channel = true) ∧
        t.record f.node f.channel =
          (s.record f.node f.channel).map fun r => { r with quality := .invalid }) ∧
      (f.kind = .bleedHot →
        (∀ n ∈ t.balance.nodes, n.node = f.node →
          n.coolDown = some ⟨s.now, s.coolDownTime e⟩) ∧
        (∀ b ∈ t.balance.records, b.node = f.node → b.state ≠ .idle ∧ b.state ≠ .active)) ∧
      (∀ r, e.rackOf = some r →
        (f.kind = .cellHwOv → (t.trips.racks.get r).nodeHwOv = ⟨true, false⟩ ∧
          ⟨f.node, false⟩ ∈ (t.trips.racks.get r).ovAwaited ∧ t.commandedOpen r) ∧
        (f.kind = .cellHwUv → (t.trips.racks.get r).nodeHwUv = ⟨true, false⟩ ∧
          ⟨f.node, false⟩ ∈ (t.trips.racks.get r).uvAwaited ∧ t.rackState r ≠ .connected)))

/-! ## Samples and levels (chapter 2) -/

/-- Cell voltage codes are converted as R27 states, with the CAL entry of the channel: 65535 is
invalid and makes its record INVALID with its value held; a result below 0 is 0 FRESH, one above
5000 is 5000 RANGE, any other is itself FRESH; the quotient is exact and rounded down; and a RANGE
value is a fresh one. The codes of junction channels 0 to 2 are converted as R28 states, with the
CAL entry of the channel too: the rack current as a signed code saturated to -5000..5000, the two
voltages saturated to 0..10000, a saturated value RANGE and every other FRESH. -/
def Obligations.CalibratedConversions : Prop :=
  (∀ (cal : CalEntry) (code : Code),
    let raw : Int := code.toNat
    let mV := Int.fdiv ((raw + cal.offset) * cal.gain + 163840) 327680
    convertCellVoltage cal code =
      if raw = 65535 then .invalid
      else if raw + cal.offset < 0 then .value 0 false
      else if mV > 5000 then .value 5000 true
      else .value mV false) ∧
  (∀ (s : State) (bank : Bank) (e : SlotEntry) (channel : Nat) (code : Code),
    (s.table .cal).active = some bank → e.nodeKind = .cell → channel < 16 →
    s.convert e channel code = convertCellVoltage (calEntry bank e.node channel) code) ∧
  Quality.range.isFresh = true ∧
  (∀ (s : State) (bank : Bank) (e : SlotEntry) (channel : Nat) (stamp : PartTime) (r : Record),
    (s.table .cal).active = some bank → e.nodeKind = .cell → channel < 16 →
    s.record e.node channel = some r →
    (fileCode e stamp channel 65535#16 s).record e.node channel =
      some { r with quality := .invalid }) ∧
  (∀ (s : State) (bank : Bank) (e : SlotEntry) (channel : Nat) (code : Code),
    (s.table .cal).active = some bank → e.nodeKind = .junction →
    let cal := calEntry bank e.node channel
    let worked (raw : Int) : Int := Int.fdiv ((raw + cal.offset) * cal.gain + 16384) 32768;
    (channel = 0 → s.convert e channel code =
      if code.toInt = -32768 then .invalid
      else if worked code.toInt < -5000 then .value (-5000) true
      else if worked code.toInt > 5000 then .value 5000 true
      else .value (worked code.toInt) false) ∧
    (channel = 1 ∨ channel = 2 → s.convert e channel code =
      if code.toNat = 65535 then .invalid
      else if (code.toNat : Int) + cal.offset < 0 then .value 0 false
      else if worked code.toNat > 10000 then .value 10000 true
      else .value (worked code.toNat) false))

/-- A side at NORMAL climbs at the sample that completes the set persistence, not before: to TRIP when
every sample of the run is beyond the trip threshold, to WARN when one of them is not; both counts
are then 0 (R34). A side at WARN counts the samples beyond the trip threshold toward TRIP and those
inside the warn release threshold toward NORMAL, moves at the one that completes the persistence with
both counts 0, and clears the count a sample does not raise (R35). A side at TRIP that has not been
acknowledged stays there whatever samples come; one that has been leaves at the sample that completes
the release persistence inside the trip release threshold, to NORMAL where that sample is inside the
warn release threshold and to WARN otherwise. CLEAR_TRIP acknowledges every side at TRIP of the racks it
names, and one whose release persistence stands falls at once, by its latest value; no other side
changes (R36, R156). (That the acknowledgement only sets the flag where no limit set judges the rack's
samples, as at a RACK entry that is not enabled (R33), is the model's reading, log entry 22.) -/
def Obligations.LevelsMoveByPersistence : Prop :=
  (∀ (set : LimitSet) (side : LevelSide) (vs : List Int) (x : SideState),
    x.level = .normal → x.setCount = 0 → 1 ≤ set.setPersistence →
    (∀ v ∈ vs, beyond side v (set.side side).warnSet = true) →
    let y := vs.foldl (fun acc v => acc.judge set side v) x;
    (vs.length < set.setPersistence → y.level = .normal ∧ y.setCount = vs.length) ∧
    (vs.length = set.setPersistence →
      ((∀ v ∈ vs, (set.side side).tripsAt side v = true) → y.level = .trip) ∧
      ((∃ v ∈ vs, (set.side side).tripsAt side v = false) → y.level = .warn) ∧
      y.setCount = 0 ∧ y.releaseCount = 0)) ∧
  (∀ (set : LimitSet) (side : LevelSide) (vs : List Int) (x : SideState), x.level = .trip →
    (x.acknowledged = false →
      (vs.foldl (fun acc v => acc.judge set side v) x).level = .trip) ∧
    (x.acknowledged = true → x.releaseCount = 0 → 1 ≤ set.releasePersistence →
      (∀ v ∈ vs, (set.side side).tripReleasesAt side v = true) →
      (vs.length < set.releasePersistence →
        (vs.foldl (fun acc v => acc.judge set side v) x).level = .trip) ∧
      (vs.length = set.releasePersistence →
        (vs.foldl (fun acc v => acc.judge set side v) x).level ≠ .trip))) ∧
  (∀ (set : LimitSet) (side : LevelSide) (v : Int) (x : SideState), x.level = .warn →
    let beyondTrip := (set.side side).tripsAt side v
    let insideWarn := inside side v (set.side side).warnRelease
    x.judge set side v =
      if beyondTrip = true then
        if set.setPersistence ≤ x.setCount + 1 then
          { x with level := .trip, setCount := 0, releaseCount := 0, acknowledged := false }
        else { x with setCount := x.setCount + 1, releaseCount := 0 }
      else if insideWarn = true then
        if set.releasePersistence ≤ x.releaseCount + 1 then
          { x with level := .normal, setCount := 0, releaseCount := 0, acknowledged := false }
        else { x with setCount := 0, releaseCount := x.releaseCount + 1 }
      else { x with setCount := 0, releaseCount := 0 }) ∧
  (∀ (set : LimitSet) (side : LevelSide) (v : Int) (x : SideState), x.level = .trip →
    (x.judge set side v).level ≠ .trip →
    x.judge set side v =
      { x with
        level := if inside side v (set.side side).warnRelease then .normal else .warn
        setCount := 0, releaseCount := 0, acknowledged := false }) ∧
  (∀ (tag : Byte) (mask : RackMask) (rest : List Tagged) (s : State),
    s.offers ⟨tag, .clearTrip mask⟩ rest →
    (s.samples.records.map fun x => (x.node, x.channel)).Nodup →
    let acked (set : Option LimitSet) (side : LevelSide) (v : Option Int) (x : SideState) :
        SideState :=
      if x.level = .trip then
        match set, v with
        | some l, some value =>
          if l.releasePersistence ≤ x.releaseCount then
            { x with
              level := if inside side value (l.side side).warnRelease then .normal else .warn
              setCount := 0, releaseCount := 0, acknowledged := false }
          else { x with acknowledged := true }
        | _, _ => { x with acknowledged := true }
      else x
    ∃ t, exec (.clearTrip tag mask) s = .next t ∧
      t.samples.records = s.samples.records.map fun x =>
        match x.rack with
        | some r =>
          if r ∈ racksOf mask then
            { x with
              high := x.high.map (acked (s.limitSet r) x.kind.highSide x.value)
              low := x.low.map (acked (s.limitSet r) x.kind.lowSide x.value) }
          else x
        | none => x)

/-- What a rack set complete works out of the rack's records, and BLIND. R40: Vmax and Vmin are the
extremes of the fresh cell voltages, a RANGE one among them, and Tmax and Tmin of the fresh cell
temperatures, each at the first record that has it; n, Vsum and Vmean are of the same voltages; and
the records are counted by quality. R41: the two run counts follow |floor(Vsum / 100) - rack
voltage| against the mismatch limit, MISMATCH is set at a beyond run of 3 and cleared at a within
run of 3, and a set that is not complete, or an entry that is not enabled, leaves all three. R42: BLIND stands exactly while a record
is not fresh, the junction node counts as stale or MISMATCH is set; its timer runs from 0 when it
begins while the RACK entry is enabled, and is stopped when it ends. R39: the SAMPLE_REPLY or the
missed POLL_SLOT_END that brings the outcome of a rack's last slot completes the set: the next
state's aggregates are those of its records, its run counts and MISMATCH are those of R41, and BLIND
then stands as R42 states, complete set or not, entry enabled or not. BLIND_TIMER_EXPIRY at a timer that has reached the blind time: the timer
stands at its full value, the BLIND latch is set, and the rack is not CONNECTED (R148). -/
def Obligations.BlindTimerTripsRack : Prop :=
  (∀ (s : State) (r : Rack) (e : RackEntry), s.rackConfig r = some e →
    (s.samples.racks.get r).blindTimer.due s.now (e.blindTime * 1000) = true →
    ∃ t, exec (.blindTimerExpiry r) s = .next t ∧
      t.samples = { s.samples with
        racks := s.samples.racks.set r
          { s.samples.racks.get r with blindTimer := .full (e.blindTime * 1000) } } ∧
      (t.trips.racks.get r).blind = ⟨true, false⟩ ∧ t.rackState r ≠ .connected) ∧
  (∀ (s : State) (r : Rack),
    let a := ((rackSetComplete r s).samples.racks.get r).aggregates
    let records := s.samples.records.filter fun x => x.rack = some r
    let fresh (k : RecordKind) : List Record := records.filter fun x =>
      decide (x.kind = k ∧ (x.quality = .fresh ∨ x.quality = .range) ∧ x.value.isSome)
    let volts := (fresh .cellVoltage).filterMap (·.value)
    let firstOf (found : Option AtChannel) (k : RecordKind) (worse : Int → Int → Prop) : Prop :=
      (found = none ↔ fresh k = []) ∧
      ∀ m, found = some m → ∃ before x after, fresh k = before ++ x :: after ∧
        x.node = m.node ∧ x.channel = m.channel ∧ x.value = some m.value ∧
        (∀ y ∈ before, ∀ v, y.value = some v → worse v m.value ∧ v ≠ m.value) ∧
        (∀ y ∈ after, ∀ v, y.value = some v → worse v m.value)
    firstOf a.vmax .cellVoltage (· ≤ ·) ∧ firstOf a.vmin .cellVoltage (· ≥ ·) ∧
    firstOf a.tmax .cellTemperature (· ≤ ·) ∧ firstOf a.tmin .cellTemperature (· ≥ ·) ∧
    a.n = volts.length ∧
    (volts = [] → a.vsum = none ∧ a.vmean = none) ∧
    (volts ≠ [] → a.vsum = some volts.sum ∧ a.vmean = some (Int.fdiv volts.sum volts.length)) ∧
    a.staleCount = records.countP (fun x => decide (x.quality = .stale)) ∧
    a.invalidCount = records.countP (fun x => decide (x.quality = .invalid))) ∧
  (∀ (s : State) (r : Rack) (e : RackEntry), s.rackConfig r = some e →
    let x := s.samples.racks.get r
    let y := (checkMismatch r s).samples.racks.get r;
    (s.mismatchDifference r = none → y = x) ∧
    (∀ d, s.mismatchDifference r = some d →
      y.beyondRun = (if e.mismatchLimit < d then min 3 (x.beyondRun + 1) else 0) ∧
      y.withinRun = (if e.mismatchLimit < d then 0 else min 3 (x.withinRun + 1)) ∧
      y.mismatch = if y.beyondRun = 3 then true else if y.withinRun = 3 then false
        else x.mismatch)) ∧
  (∀ (s : State) (r : Rack) (j : SlotEntry) (v : Record) (w sum : Int),
    s.junctionOf r = some j → s.record j.node 1 = some v → v.value = some w →
    (s.samples.racks.get r).aggregates.vsum = some sum →
    s.mismatchDifference r =
      if (v.quality = .fresh ∨ v.quality = .range) ∧ ∀ x ∈ s.samples.records,
          x.rack = some r → x.kind = .cellVoltage → x.quality = .fresh ∨ x.quality = .range
      then some (Int.fdiv sum 100 - w).natAbs else none) ∧
  (∀ (s : State) (r : Rack),
    let x := s.samples.racks.get r
    let y := (refreshBlind r s).samples.racks.get r;
    (y.blind = true ↔
      (∃ c ∈ s.samples.records, c.rack = some r ∧ (c.quality = .stale ∨ c.quality = .invalid)) ∨
      (∃ j, s.junctionOf r = some j ∧ s.nodeStale j.node = true) ∨ x.mismatch = true) ∧
    y.blindTimer =
      if y.blind = x.blind then x.blindTimer
      else if y.blind = true ∧ s.rackEnabled r = true then .running s.now
      else .stopped) ∧
  (∀ (c : Instr) (s : State) (e : SlotEntry) (r : Rack),
    (c = .pollSlotEnd ∧ (∃ k, s.ring.phase = .slot k ∧ s.entries[k]? = some e) ∧
        s.unanswered (s.sideOf e.node) e.node = true) ∨
      (∃ d f, c = .sampleReply d f ∧ s.sampleError d f = none ∧ s.entryOf f.node = some e) →
    e.rackOf = some r → (s.entries.filter fun j => j.rackOf = some r).getLast? = some e →
    ∃ t, exec c s = .next t ∧
      let x := s.samples.racks.get r
      let y := t.samples.racks.get r;
      y.hadSet = true ∧ y.aggregates = t.aggregatesOf r ∧
      (y.blind = true ↔
        (∃ c ∈ t.samples.records, c.rack = some r ∧ (c.quality = .stale ∨ c.quality = .invalid)) ∨
        (∃ j, s.junctionOf r = some j ∧ t.nodeStale j.node = true) ∨ y.mismatch = true) ∧
      refreshBlind r t = t ∧
      (s.rackConfig r = none ∨ t.mismatchDifference r = none →
        y.beyondRun = x.beyondRun ∧ y.withinRun = x.withinRun ∧ y.mismatch = x.mismatch) ∧
      ∀ j d, s.rackConfig r = some j → t.mismatchDifference r = some d →
        y.beyondRun = (if j.mismatchLimit < d then min 3 (x.beyondRun + 1) else 0) ∧
        y.withinRun = (if j.mismatchLimit < d then 0 else min 3 (x.withinRun + 1)) ∧
        y.mismatch = (if y.beyondRun = 3 then true else if y.withinRun = 3 then false
          else x.mismatch))

/-- READ_RACK and READ_CELLS: a rack outside 1..4, or a node range outside 1..56 or running
backward, is BAD_INDEX, as R179 states; otherwise, as R44 states, the reply carries what stands, for
READ_CELLS the records of the whole nodes that fit; with the clear option the minimum and maximum of
the carried records become their latest values afterwards, and nothing else changes. (How many bytes
a record takes is free, log entry 12.) -/
def Obligations.ReadRackAndCells : Prop :=
  ∀ (tag : Byte) (k first last : Nat) (clear : Bool) (rest : List Tagged) (s : State),
    (s.offers ⟨tag, .readRack k⟩ rest →
      (∀ r, Rack.ofNumber k = some r →
        exec (.readRack tag k) s = .next (arbitrate
          (s.answered ⟨tag, .readRack k⟩ rest .ok (.rack (rackReportOf r s))))) ∧
      (Rack.ofNumber k = none →
        exec (.readRack tag k) s = .next (arbitrate
          (s.answered ⟨tag, .readRack k⟩ rest .badIndex .nothing)))) ∧
    (s.offers ⟨tag, .readCells k first last clear⟩ rest →
      (Rack.ofNumber k = none ∨ first < 1 ∨ 56 < last ∨ last < first →
        exec (.readCells tag k first last clear) s = .next (arbitrate
          (s.answered ⟨tag, .readCells k first last clear⟩ rest .badIndex .nothing))) ∧
      (∀ r, Rack.ofNumber k = some r → 1 ≤ first → last ≤ 56 → first ≤ last →
        let records := s.samples.records.filter fun x =>
          decide (x.rack = some r ∧ first ≤ x.node ∧ x.node ≤ last)
        let nodes := nodesCarried records
        let carried := records.filter fun x => nodes.contains x.node
        let body := ReplyBody.cells (carried.map s.cellReport)
          (if carried.length < records.length then nodes.getLast? else none)
        let cleared : List Record := s.samples.records.map fun x =>
          if clear = true ∧ x.rack = some r ∧ x.node ∈ nodes then
            { x with minimum := x.value, maximum := x.value }
          else x
        exec (.readCells tag k first last clear) s = .next (arbitrate
          (({ s with samples := { s.samples with records := cleared } } : State).answered
            ⟨tag, .readCells k first last clear⟩ rest .ok body))))

/-- TRACE_SET (R45): BAD_INDEX outside nodes 1..56 and channels 0..19; at an entry that is empty or holds
the same channel the entry is written; one that holds another channel stays, and is named in a
TRACE_CONFLICT. -/
def Obligations.TraceSetWritesItsEntry : Prop :=
  ∀ (tag : Byte) (node channel count : Nat) (rest : List Tagged) (s : State),
    let x : Tagged := ⟨tag, .traceSet node channel count⟩
    let index := (node % 32) ^^^ ((2 * channel) % 32)
    let written : State := { s with samples := { s.samples with
      trace := s.samples.trace.set index (some ⟨node, channel, count⟩) } }
    s.offers x rest →
    (node < 1 ∨ 56 < node ∨ 19 < channel →
      exec (.traceSet tag node channel count) s =
        .next (arbitrate (s.answered x rest .badIndex .nothing))) ∧
    (1 ≤ node → node ≤ 56 → channel ≤ 19 →
      (s.samples.trace[index]? = some none →
        exec (.traceSet tag node channel count) s =
          .next (arbitrate (written.answered x rest .ok .nothing))) ∧
      (∀ e, s.samples.trace[index]? = some (some e) →
        (e.node = node → e.channel = channel →
          exec (.traceSet tag node channel count) s =
            .next (arbitrate (written.answered x rest .ok .nothing))) ∧
        (e.node ≠ node ∨ e.channel ≠ channel →
          exec (.traceSet tag node channel count) s =
            .next (arbitrate (s.answered x rest .traceConflict
              (.traceHolder e.node e.channel))))))

/-- TRACE_CLEAR as R47 states it: a node and channel held at its index has its entry made invalid, one
not held is answered ALREADY, and "all" makes every entry invalid. The next state is given whole, so
no TRACE_DONE is posted and the queued reports stay. -/
def Obligations.TraceClearRule : Prop :=
  ∀ (tag : Byte) (rest : List Tagged) (s : State), s.samples.trace.length = 32 →
    (∀ node channel, s.offers ⟨tag, .traceClear (.one node channel)⟩ rest →
      let x : Tagged := ⟨tag, .traceClear (.one node channel)⟩
      let index := traceIndex node channel;
      ((∃ n, s.samples.trace[index]? = some (some ⟨node, channel, n⟩)) →
        exec (.traceClear tag (.one node channel)) s = .next (arbitrate
          (({ s with samples := { s.samples with
            trace := s.samples.trace.set index none } } : State).answered x rest .ok .nothing))) ∧
      ((¬ ∃ n, s.samples.trace[index]? = some (some ⟨node, channel, n⟩)) →
        exec (.traceClear tag (.one node channel)) s =
          .next (arbitrate (s.answered x rest .already .nothing)))) ∧
    (s.offers ⟨tag, .traceClear .all⟩ rest →
      ∃ cleared : List (Option TraceEntry), cleared.length = 32 ∧ (∀ e ∈ cleared, e = none) ∧
        exec (.traceClear tag .all) s = .next (arbitrate
          (({ s with samples := { s.samples with trace := cleared } } : State).answered
            ⟨tag, .traceClear .all⟩ rest .ok .nothing)))

/-! ## Charge and limits (chapter 3) -/

/-- Integration of a rack with a current over a time as R52 states it: the tenths are carried in r,
the floor is toward minus infinity, Q is held within 0..Qmax with r then 0, and ten milliseconds of
-1 dA lower Q by exactly 1. An evaluation counts the anchor conditions up to the persistence, or
clears both counts while the rack is BLIND or has no fresh junction sample (R54); the count that
reaches the persistence from below sets the charge to full or empty, KNOWN, with r 0 and no rest,
and posts SOC_ANCHOR with the charge before and after, the quality before, the SOC worked out again
and the junction stamp (R55). In quality UNKNOWN it times the rest from the first junction stamp at
a small current (R56), and a rest that is complete, with a Vmean and an OCV curve, makes the
estimate of R57 and posts SOC_ANCHOR with the kind OCV. A rack set complete evaluates the rack in
this order: the integration, the anchor check, the rest estimate. -/
def Obligations.ChargeIntegration : Prop :=
  (∀ (x : RackCharge) (qmax : Nat) (i : Int) (last stamp : PartTime),
    x.quality ≠ .unknown → x.lastStamp = some last → x.q ≤ qmax → x.r ≤ 9 →
    -5000 ≤ i → i ≤ 5000 →
    let dt : Int := ((stamp - last).toNat : Nat)
    1 ≤ dt → dt ≤ 2000 →
    let t := i * dt + x.r
    let q : Int := x.q + Int.fdiv t 10
    let y := x.integrate qmax i stamp;
    -10000000 ≤ t ∧ t ≤ 10000009 ∧ 0 ≤ t - 10 * Int.fdiv t 10 ∧ t - 10 * Int.fdiv t 10 ≤ 9 ∧
    (q < 0 → y.q = 0 ∧ y.r = 0) ∧
    (qmax < q → y.q = qmax ∧ y.r = 0) ∧
    (0 ≤ q → q ≤ qmax → (y.q : Int) = q ∧ (y.r : Int) = t - 10 * Int.fdiv t 10) ∧
    y.q ≤ qmax) ∧
  (∀ qmax q : Nat, 1 ≤ q → q ≤ qmax →
    addCharge qmax q (-1 * 1 + 0) = (q - 1, 9) ∧
    (List.range 10).foldl (fun (p : Nat × Nat) _ => addCharge qmax p.1 (-1 * 1 + p.2)) (q, 0) =
      (q - 1, 0)) ∧
  (∀ (s : State) (r : Rack) (e : RackEntry) (d : DerateRecord)
      (fresh : Option (Int × PartTime)),
    let x := s.limits.racks.get r
    let y := s.samples.racks.get r
    let t := anchorCheck r e d fresh s
    let after := t.limits.racks.get r
    let posts (k : AnchorKind) (stamp : PartTime) : Prop := t.site =
      (post (.socAnchor r k x.q after.q x.quality (t.soc r) stamp) s).site;
    (fresh = none ∨ y.blind = true → after.topCount = 0 ∧ after.bottomCount = 0 ∧
      after.q = x.q ∧ after.r = x.r ∧ after.quality = x.quality ∧ t.site = s.site) ∧
    (∀ i stamp, fresh = some (i, stamp) → y.blind = false → x.topDue = false →
      x.bottomDue = false → x.topCount ≤ d.anchorPersistence →
      x.bottomCount ≤ d.anchorPersistence → 1 ≤ d.anchorPersistence →
      let top : Prop := 0 < i ∧ i ≤ d.taperCurrent ∧
        ∃ v, y.aggregates.vmax = some v ∧ d.topAnchor ≤ v.value
      let bottom : Prop := -(d.taperCurrent : Int) ≤ i ∧ i ≤ 0 ∧
        ∃ v, y.aggregates.vmin = some v ∧ v.value ≤ d.bottomAnchor
      let reaches (n : Nat) : Prop := n + 1 = d.anchorPersistence;
      (top → after.topCount = min d.anchorPersistence (x.topCount + 1)) ∧
      (¬ top → after.topCount = 0) ∧
      (bottom → after.bottomCount = min d.anchorPersistence (x.bottomCount + 1)) ∧
      (¬ bottom → after.bottomCount = 0) ∧
      (top → reaches x.topCount → after.q = e.qmax ∧ after.r = 0 ∧ after.quality = .known ∧
        after.restStart = none ∧ posts .top stamp) ∧
      (bottom → reaches x.bottomCount → after.q = 0 ∧ after.r = 0 ∧ after.quality = .known ∧
        after.restStart = none ∧ posts .bottom stamp) ∧
      (¬ (top ∧ reaches x.topCount) → ¬ (bottom ∧ reaches x.bottomCount) →
        after.q = x.q ∧ after.r = x.r ∧ after.quality = x.quality ∧
          after.restStart = x.restStart ∧ t.site = s.site))) ∧
  (∀ (s : State) (r : Rack) (e : RackEntry) (d : DerateRecord)
      (fresh : Option (Int × PartTime)),
    let x := s.limits.racks.get r
    let y := s.samples.racks.get r
    let t := restCheck r e d fresh s
    let after := t.limits.racks.get r;
    (x.quality ≠ .unknown → after = { x with restStart := none } ∧ t.site = s.site) ∧
    (x.quality = .unknown →
      (y.blind = true ∨ (∃ i stamp, fresh = some (i, stamp) ∧ d.restCurrent < i.natAbs) →
        after = { x with restStart := none } ∧ t.site = s.site) ∧
      (y.blind = false → fresh = none → after = x ∧ t.site = s.site) ∧
      (∀ i stamp, fresh = some (i, stamp) → y.blind = false → i.natAbs ≤ d.restCurrent →
        let start := x.restStart.getD stamp
        let complete : Prop := d.restTime * 1000 ≤ (stamp - start).toNat;
        (¬ complete ∨ y.aggregates.vmean = none ∨ (s.table .ocv).active = none →
          after = { x with restStart := some start } ∧ t.site = s.site) ∧
        (∀ v bank, complete → y.aggregates.vmean = some v → (s.table .ocv).active = some bank →
          after = { x with
            restStart := none
            r := 0
            quality := .estimated
            q := (Int.fdiv (curveAt v (ocvCurve bank) * e.qmax) 10000).toNat } ∧
          t.site =
            (post (.socAnchor r .ocv x.q after.q .unknown (t.soc r) stamp) s).site)))) ∧
  (∀ (s : State) (r : Rack) (e : RackEntry) (d : DerateRecord), s.rackConfig r = some e →
    s.derate = some d →
    let fresh := s.junctionFresh r
    let integrated : State := match fresh with
      | some (i, stamp) =>
        s.setRackCharge r ((s.limits.racks.get r).integrate e.qmax i stamp)
      | none => s
    let y := (restCheck r e d fresh (anchorCheck r e d fresh integrated)).limits.racks.get r
    let z := (limitSetComplete r s).limits.racks.get r;
    z.q = y.q ∧ z.r = y.r ∧ z.quality = y.quality ∧ z.lastStamp = y.lastStamp ∧ z.gap = y.gap ∧
      z.topCount = y.topCount ∧ z.bottomCount = y.bottomCount ∧ z.restStart = y.restStart) ∧
  (∀ (before after : List Breakpoint) (p q : Breakpoint) (v : Int),
    (before ++ p :: q :: after).Pairwise (fun a b => a.x < b.x) →
    (p.x ≤ v → v ≤ q.x → curveAt v (before ++ p :: q :: after) =
      p.y + Int.fdiv ((q.y - p.y) * (v - p.x)) (q.x - p.x)) ∧
    (before = [] → v ≤ p.x → curveAt v (p :: q :: after) = p.y) ∧
    (after = [] → q.x ≤ v → curveAt v (before ++ [p, q]) = q.y))

/-- The voltage taper of each direction as R60 states it, the taper voltages in their order; a RANGE cell
voltage takes part in Vmax at its value, so 5000 mV tapers the charge direction to 0; the voltage
factors of an evaluation are these tapers of the aggregates' Vmax and Vmin. The SOC factor of each
direction as R61 states it: 1024 on the safe side of the taper start, the rounded-down share of the
way to the end beyond it, and the unknown-SOC cap in both directions while the charge quality is
UNKNOWN. -/
def Obligations.VoltageAndSocTapers : Prop :=
  (∀ (d : DerateRecord), d.chargeStart < d.chargeEnd → d.dischargeEnd < d.dischargeStart →
    (∀ v : AtChannel,
      (v.value ≤ d.chargeStart → chargeTaper d (some v) = 1024) ∧
      (d.chargeStart < v.value → v.value < d.chargeEnd → (chargeTaper d (some v) : Int) =
        Int.fdiv (1024 * (d.chargeEnd - v.value)) (d.chargeEnd - d.chargeStart)) ∧
      (d.chargeEnd ≤ v.value → chargeTaper d (some v) = 0) ∧
      (d.dischargeStart ≤ v.value → dischargeTaper d (some v) = 1024) ∧
      (d.dischargeEnd < v.value → v.value < d.dischargeStart →
        (dischargeTaper d (some v) : Int) =
          Int.fdiv (1024 * (v.value - d.dischargeEnd)) (d.dischargeStart - d.dischargeEnd)) ∧
      (v.value ≤ d.dischargeEnd → dischargeTaper d (some v) = 0)) ∧
    chargeTaper d none = 0 ∧ dischargeTaper d none = 0 ∧
    (∀ rec_ : Record, rec_.quality = .range → rec_.freshValue = rec_.value) ∧
    (∀ v : AtChannel, v.value = 5000 → d.chargeEnd ≤ 5000 → chargeTaper d (some v) = 0)) ∧
  (∀ (s : State) (r : Rack) (e : RackEntry) (d : DerateRecord),
    let a := (s.samples.racks.get r).aggregates
    let f := s.factorsNow r e d;
    f.charge.voltage = chargeTaper d a.vmax ∧ f.discharge.voltage = dischargeTaper d a.vmin ∧
    (∀ rec_ ∈ s.samples.records, ∀ v, rec_.rack = some r → rec_.kind = .cellVoltage →
      rec_.quality = .range → rec_.value = some v →
      ∃ m, (s.aggregatesOf r).vmax = some m ∧ v ≤ m.value)) ∧
  (∀ (s : State) (r : Rack) (e : RackEntry) (d : DerateRecord) (soc : Nat),
    s.soc r = some soc → soc ≤ 10000 →
    let f := s.factorsNow r e d;
    ((s.limits.racks.get r).quality = .unknown →
      f.charge.soc = d.unknownCap ∧ f.discharge.soc = d.unknownCap) ∧
    ((s.limits.racks.get r).quality ≠ .unknown →
      (soc ≤ d.socChargeStart → f.charge.soc = 1024) ∧
      (d.socChargeStart < soc →
        f.charge.soc = 1024 * (10000 - soc) / (10000 - d.socChargeStart)) ∧
      (d.socDischargeStart ≤ soc → f.discharge.soc = 1024) ∧
      (soc < d.socDischargeStart → f.discharge.soc = 1024 * soc / d.socDischargeStart)))

/-- The published limits of an evaluated rack (R64, R65): 0 unless the rack is CONNECTED and no hold
is in force; otherwise a target at or below the limit is taken at once, and a higher one is
approached by the ramp over the time since the last evaluation, held within 1..2000 ms, or over a
cycle length where there has been none. What an evaluation publishes never exceeds the rack's base
currents. A RACK swap takes a published limit that stands above the new base current down to it, so
that after a CYCLE_START that swaps the RACK table no published limit exceeds the base current of
its rack's entry (that it falls at the swap itself, and to the field of an entry that is not enabled
too, is the model's reading, log entry 54). -/
def Obligations.PublishedLimitsSlew : Prop :=
  (∀ (s : State) (r : Rack) (e : RackEntry) (f : PerDirection Factors) (h : SlotHeader),
    s.slotHeader = some h →
    let l := (s.limits.racks.get r).limit
    let p := s.publishedNow r e f
    let de : Nat := match (s.limits.racks.get r).lastEvaluation with
      | some t => max 1 (min 2000 (s.now - t).toNat)
      | none => h.cycleLength;
    (s.rackState r ≠ .connected ∨ s.sequencer.hold = true → p.charge = 0 ∧ p.discharge = 0) ∧
    (s.rackState r = .connected → s.sequencer.hold = false →
      (f.charge.target ≤ l.charge → p.charge = f.charge.target) ∧
      (l.charge < f.charge.target →
        p.charge = min f.charge.target (l.charge + e.ramp * de / 1000)) ∧
      (f.discharge.target ≤ l.discharge → p.discharge = f.discharge.target) ∧
      (l.discharge < f.discharge.target →
        p.discharge = min f.discharge.target (l.discharge + e.ramp * de / 1000)))) ∧
  (∀ (s : State) (r : Rack) (e : RackEntry) (d : DerateRecord),
    let p := s.publishedNow r e (s.factorsNow r e d);
    p.charge ≤ e.baseCharge ∧ p.discharge ≤ e.baseDischarge) ∧
  (∀ (before : Rack → Option RackEntry) (s : State) (r : Rack) (e : RackEntry),
    s.rackEntry r = some e →
    let l := (s.limits.racks.get r).limit
    let p := ((limitsAtRackSwap before s).limits.racks.get r).limit;
    p.charge = min l.charge e.baseCharge ∧ p.discharge = min l.discharge e.baseDischarge) ∧
  (∀ s : State, s.TablesConsistent → s.cycleDue = true → (s.table .rack).state = .committed →
    ∃ t, exec .cycleStart s = .next t ∧ ∀ r e, t.rackEntry r = some e →
      (t.limits.racks.get r).limit.charge ≤ e.baseCharge ∧
        (t.limits.racks.get r).limit.discharge ≤ e.baseDischarge)

/-- The container limits once worked out (R66): 0 in both directions while a zero condition stands; never
above the container cap nor above N times the limit of any CONNECTED rack, and equal to the one or to
the other for the weakest rack. -/
def Obligations.ContainerLimitsAreBounded : Prop :=
  ∀ s : State,
    let t := workOutContainer s
    let n := (Rack.all.filter fun r => s.rackState r = .connected).length;
    (s.grid = none ∨ n = 0 ∨ s.sequencer.hold = true ∨ s.fire.stage = .alarm ∨
        s.fire.stage = .countdown ∨ s.fire.stage = .released ∨ s.converter.silent = true →
      t.limits.container = ⟨0, 0⟩) ∧
    (∀ g, s.grid = some g → 1 ≤ n → s.sequencer.hold = false →
      s.fire.stage = .normal ∨ s.fire.stage = .preAlarm → s.converter.silent = false →
      t.limits.container.charge ≤ g.containerCap ∧
      t.limits.container.discharge ≤ g.containerCap ∧
      (∀ r, s.rackState r = .connected →
        t.limits.container.charge ≤ n * (s.limits.racks.get r).limit.charge ∧
        t.limits.container.discharge ≤ n * (s.limits.racks.get r).limit.discharge) ∧
      (∃ r, s.rackState r = .connected ∧ t.limits.container.charge =
        min g.containerCap (n * (s.limits.racks.get r).limit.charge)) ∧
      (∃ r, s.rackState r = .connected ∧ t.limits.container.discharge =
        min g.containerCap (n * (s.limits.racks.get r).limit.discharge)))

/-! ## Cell balancing (chapter 4) -/

/-- ONE_SECOND_TIMER_EXPIRY at a second boundary (R73): an ACTIVE record whose counted-second mark is set
is charged a second and is BUDGET_SPENT at 0, another ACTIVE record has the mark set, and every other
has it cleared; one BUDGET_SPENT is posted for each record spent, and the timer runs on from the
boundary. (The commanded bits of the records follow the masks, R77. That the timer runs on from the
boundary itself, and not from the moment of the expiry, is the model's reading, log entry 11; that an
ACTIVE record which already holds 0 seconds is spent at the boundary too is its choice, log entry
25.) -/
def Obligations.SecondBoundaryChargesRecords : Prop :=
  ∀ s : State, 1000 ≤ (s.now - s.balance.secondSince).toNat →
    let charged (b : BalanceRecord) : BalanceRecord :=
      if b.state = .active then
        if b.counted then
          if b.remaining ≤ 1 then
            { b with state := .budgetSpent, remaining := 0, counted := false }
          else { b with remaining := b.remaining - 1 }
        else { b with counted := true }
      else { b with counted := false }
    let spent := s.balance.records.filter fun b =>
      decide (b.state = .active ∧ b.counted = true ∧ b.remaining ≤ 1)
    let unmasked (b : BalanceRecord) : BalanceRecord := { b with commanded := false }
    ∃ t, exec .oneSecondTimerExpiry s = .next t ∧
      t.balance.records.map unmasked =
        (s.balance.records.map fun b => unmasked (charged b)) ∧
      t.balance.secondSince = s.balance.secondSince + 1000 ∧
      t.site.postCounter = s.site.postCounter + BitVec.ofNat 16 spent.length ∧
      s.sameBut t [.ring, .balance, .site]

/-- A reload (R72), at DAILY_RELOAD_TIMER_EXPIRY for every record and at BUDGET_RELOAD for the racks it
names, while a RACK table is active: each record takes its rack's budget (for a rack whose entry is
not enabled the entry's field, log entry 34); a spent one comes back IDLE, or
SUSPENDED with its node, unless the budget is 0, and a budget of 0 spends an IDLE or ACTIVE one. A
BUDGET_RELOAD is refused while no RACK table is active and for a mask that is empty or names a rack
that is not enabled, and changes no record of a rack it does not name. (That the daily timer runs on
from the boundary itself is the model's reading, log entry 11.) -/
def Obligations.ReloadsSetBudgets : Prop :=
  ∀ (s : State),
    let reloaded (b b' : BalanceRecord) (budget : Nat) : Prop :=
      b'.remaining = budget ∧ b'.sameCell b = true ∧
      b'.state =
        (if b.state = .budgetSpent ∧ budget ≠ 0 then
          (if s.balanceSuspended b.node then .suspended else .idle)
        else if (b.state = .idle ∨ b.state = .active) ∧ budget = 0 then .budgetSpent
        else b.state);
    (86400000 ≤ (s.now - s.balance.dailySince).toNat →
      ∃ t, exec .dailyReloadTimerExpiry s = .next t ∧
        t.balance.dailySince = s.balance.dailySince + 86400000 ∧
        (∀ (i : Nat) (b : BalanceRecord) (e : RackEntry), s.balance.records[i]? = some b →
          s.rackEntry b.rack = some e →
          ∃ b', t.balance.records[i]? = some b' ∧ reloaded b b' e.dailyBudget) ∧
        (s.isActive .rack = false → t.balance.records = s.balance.records) ∧
        s.sameBut t [.ring, .balance, .site]) ∧
    (∀ (tag : Byte) (mask : RackMask) (rest : List Tagged),
      let x : Tagged := ⟨tag, .budgetReload mask⟩
      s.offers x rest →
      (s.isActive .rack = false → exec (.budgetReload tag mask) s =
        .next (arbitrate (s.answered x rest .notConfigured .nothing))) ∧
      (s.isActive .rack = true →
        (mask = 0#4 ∨ ∃ r ∈ racksOf mask, s.rackEnabled r = false) →
        exec (.budgetReload tag mask) s =
          .next (arbitrate (s.answered x rest .badRequest .nothing))) ∧
      (mask ≠ 0#4 → (∀ r ∈ racksOf mask, s.rackEnabled r = true) →
        ∃ t, exec (.budgetReload tag mask) s = .next t ∧
          t.balance.dailySince = s.balance.dailySince ∧
          (∀ (i : Nat) (b : BalanceRecord), s.balance.records[i]? = some b →
            ∃ b', t.balance.records[i]? = some b' ∧
              (∀ e, b.rack ∈ racksOf mask → s.rackConfig b.rack = some e →
                reloaded b b' e.dailyBudget) ∧
              (b.rack ∉ racksOf mask →
                b'.state = b.state ∧ b'.remaining = b.remaining ∧ b'.sameCell b = true)) ∧
          s.sameBut t [.ring, .balance, .site]))

/-- COOL_DOWN_TIMER_EXPIRY at a cool-down that has run its time (R79): the timer stops, and a node whose
BALANCE_FAULT mark is clear has its SUSPENDED records IDLE again. -/
def Obligations.CoolDownEndsSuspension : Prop :=
  ∀ (s : State) (node : Nat) (n : BalanceNode) (c : CoolDown), s.balanceNode node = some n →
    n.coolDown = some c → c.seconds * 1000 ≤ (s.now - c.since).toNat →
    exec (.coolDownTimerExpiry node) s = .next (arbitrate { s with
      balance := { s.balance with
        nodes := s.balance.nodes.map fun x =>
          if x.node = node then { x with coolDown := none } else x
        records := if n.fault then s.balance.records
          else s.balance.records.map fun b =>
            if b.node = node ∧ b.state = .suspended then
              { b with state := .idle, counted := false }
            else b } })

/-- BALANCE_ENABLE (R81): refused as BUDGET_RELOAD is; ON sets the flag of every rack named and clears the
fault marks and mismatch counts of their CELL nodes; OFF clears the flag and leaves no record of those
racks ACTIVE. The flags of the other racks stay. -/
def Obligations.BalanceEnableSetsFlags : Prop :=
  ∀ (tag : Byte) (mask : RackMask) (on : Bool) (rest : List Tagged) (s : State),
    let x : Tagged := ⟨tag, .balanceEnable mask on⟩
    s.offers x rest →
    (s.isActive .rack = false → exec (.balanceEnable tag mask on) s =
      .next (arbitrate (s.answered x rest .notConfigured .nothing))) ∧
    (s.isActive .rack = true →
      (mask = 0#4 ∨ ∃ r ∈ racksOf mask, s.rackEnabled r = false) →
      exec (.balanceEnable tag mask on) s =
        .next (arbitrate (s.answered x rest .badRequest .nothing))) ∧
    (mask ≠ 0#4 → (∀ r ∈ racksOf mask, s.rackEnabled r = true) →
      ∃ t, exec (.balanceEnable tag mask on) s = .next t ∧
        (∀ r, (t.balance.racks.get r).enabled =
          if r ∈ racksOf mask then on else (s.balance.racks.get r).enabled) ∧
        (on = true → ∀ r ∈ racksOf mask, ∀ n ∈ t.balance.nodes, n.node ∈ s.cellNodes r →
          n.fault = false ∧ n.mismatches = 0) ∧
        (on = false → ∀ b ∈ t.balance.records, b.rack ∈ racksOf mask → b.state ≠ .active) ∧
        s.sameBut t [.ring, .balance, .site])

/-- The walk over the candidates of a selection (R75) chooses among them, in their order, no more than
the limit in all and no more than 8 of one node. A fall of the heat allowance acts at once (R76): no
more records are left ACTIVE than it allows, and none becomes ACTIVE. -/
def Obligations.BleedingIsBounded : Prop :=
  (∀ (limit : Nat) (candidates : List BalanceRecord),
    let chosen := walkCandidates limit candidates []
    chosen.Sublist candidates ∧ chosen.length ≤ limit ∧
    ∀ node, (chosen.filter fun b => b.node = node).length ≤ 8) ∧
  (∀ (allowance : Nat) (s : State),
    (boundActive allowance s).activeRecords.length ≤ allowance ∧
    ∀ (i : Nat) (b : BalanceRecord), s.balance.records[i]? = some b → b.state ≠ .active →
      ∃ b', (boundActive allowance s).balance.records[i]? = some b' ∧ b'.state = b.state)

/-! ## Cooling (chapter 5) -/

/-- CONTROL_INTERVAL_EXPIRY while no COOL table waits to swap (R87, R89, R91, R92): the interval runs
again; the blind state follows whether a fresh cell temperature is present; outside STANDBY, once the
dwell of the level has elapsed, the ladder moves by one level at most; and the heater demand follows
the coldest temperature. -/
def Obligations.ControlIntervalStepsLadder : Prop :=
  ∀ (s : State) (bank : Bank) (since : PartTime),
    (s.table .cool).active = some bank → (s.table .cool).state ≠ .committed →
    s.cooling.interval = some since →
    (coolHeaderOf bank).interval * 1000 ≤ (s.now - since).toNat →
    let h := coolHeaderOf bank
    let k := s.cooling.level
    let up := if k = 0 then h.startTemperature else (coolLevelAt bank k).up
    let dwell := if k = 0 then 0 else (coolLevelAt bank k).dwell * 1000
    ∃ t, exec .controlIntervalExpiry s = .next t ∧
      t.cooling.interval = some s.now ∧
      t.cooling.blind =
        (match s.hottest with
          | some _ => .clear
          | none => if s.cooling.blind = .clear then .holding else s.cooling.blind) ∧
      (s.hottest = none → s.cooling.blind = .clear → t.cooling.blindHold = some s.now) ∧
      t.cooling.level =
        (match s.hottest with
          | some v =>
            if s.site.mode ≠ .standby ∧ dwell ≤ (s.now - s.cooling.levelSince).toNat then
              (if k < h.levels ∧ up ≤ v then k + 1
              else if 0 < k ∧ v < (coolLevelAt bank k).down then k - 1
              else k)
            else k
          | none => k) ∧
      t.cooling.levelSince =
        (if t.cooling.level = k then s.cooling.levelSince else s.now) ∧
      t.cooling.heaterDemand =
        (match s.coldest with
          | some v =>
            if v < h.heaterOn then true
            else if h.heaterOff ≤ v then false
            else s.cooling.heaterDemand
          | none => s.cooling.heaterDemand)

/-- The outputs are composed and proved as R86, R91 and R93 state. OUTPUT_FEEDBACK_CHANGE takes the
reading, composes every command again and moves the proof timers; PROOF_TIMER_EXPIRY makes an output
commanded on FAILED and one commanded off STUCK_ON; BLIND_HOLD_TIMER_EXPIRY goes to FALLBACK, with the
fallback level outside STANDBY and the heater demand off. -/
def Obligations.OutputsAreComposedAndProved : Prop :=
  (∀ s : State,
    let failed (o : Output) : Prop := (s.cooling.outputs.get o).status = .failed
    let named (o : Output) : Prop := s.levelNames o = true ∧ ¬ failed o
    let open_ : Prop := s.cooling.ventilation ≠ .sealedMode
    (s.composedCommand .pump = true ↔ named .pump) ∧
    (∀ o, (o = .fan1 ∨ o = .fan2 ∨ o = .fan3) →
      (s.composedCommand o = true ↔ named o ∧ open_)) ∧
    (∀ o, (o = .compressor1 ∨ o = .compressor2) →
      (s.composedCommand o = true ↔ named o ∧ open_ ∧ s.composedCommand .pump = true)) ∧
    (s.composedCommand .heater = true ↔
      s.cooling.heaterDemand = true ∧ ¬ failed .heater ∧ open_ ∧
      ∀ o, (o = .compressor1 ∨ o = .compressor2) →
        s.composedCommand o = false ∧ (s.cooling.outputs.get o).feedback = false) ∧
    (s.composedCommand .exhaust = true ↔
      s.cooling.ventilation = .exhaust ∧ ¬ failed .exhaust)) ∧
  (∀ (s : State) (o : Output) (on : Bool), ∃ t,
    exec (.outputFeedbackChange o on) s = .next t ∧ s.sameBut t [.cooling, .site] ∧
    ∀ p, let x := s.cooling.outputs.get p
      let y := t.cooling.outputs.get p
      y.feedback = (if p = o then on else x.feedback) ∧ y.status = x.status ∧
      y.command = t.composedCommand p ∧
      y.proof =
        (if x.status ≠ .normal ∨ y.command = y.feedback then none
        else if x.command = y.command ∧ x.feedback = y.feedback then some (x.proof.getD s.now)
        else some s.now)) ∧
  (∀ (s : State) (o : Output) (since : PartTime),
    (s.cooling.outputs.get o).proof = some since →
    s.proofTime o ≤ (s.now - since).toNat →
    ∃ t, exec (.proofTimerExpiry o) s = .next t ∧
      (t.cooling.outputs.get o).status =
        (if (s.cooling.outputs.get o).command then .failed else .stuckOn) ∧
      (t.cooling.outputs.get o).proof = none ∧
      ∀ p, (p ≠ o → (t.cooling.outputs.get p).status = (s.cooling.outputs.get p).status) ∧
        (t.cooling.outputs.get p).command = t.composedCommand p) ∧
  (∀ (s : State) (h : CoolHeader) (since : PartTime), s.cool = some h →
    s.cooling.blindHold = some since → h.blindHold * 1000 ≤ (s.now - since).toNat →
    ∃ t, exec .blindHoldTimerExpiry s = .next t ∧ t.cooling.blind = .fallback ∧
      t.cooling.blindHold = none ∧ t.cooling.heaterDemand = false ∧
      t.cooling.level = (if s.site.mode = .standby then s.cooling.level else h.fallback) ∧
      t.site.postCounter = s.site.postCounter + 1 ∧
      s.sameBut t [.cooling, .balance, .ring, .site])

/-- COOLING_FAULT_CLEAR (R95): ALREADY while no output is FAILED or STUCK_ON; otherwise every status
becomes NORMAL, the commands are composed again, an output cleared whose command and feedback differ
starts its proof timer, and no loss cap is left. -/
def Obligations.CoolingFaultClearRestores : Prop :=
  ∀ (tag : Byte) (rest : List Tagged) (s : State), s.offers ⟨tag, .coolingFaultClear⟩ rest →
    ((∀ o, (s.cooling.outputs.get o).status = .normal) →
      exec (.coolingFaultClear tag) s = .next (arbitrate (settle
        (s.answered ⟨tag, .coolingFaultClear⟩ rest .already .nothing)))) ∧
    ((∃ o, (s.cooling.outputs.get o).status ≠ .normal) →
      ∃ t, exec (.coolingFaultClear tag) s = .next t ∧
        (∀ o, (t.cooling.outputs.get o).status = .normal ∧
          (t.cooling.outputs.get o).command = t.composedCommand o ∧
          (t.cooling.outputs.get o).feedback = (s.cooling.outputs.get o).feedback ∧
          ((s.cooling.outputs.get o).status ≠ .normal → (s.cooling.outputs.get o).proof = none →
            (t.cooling.outputs.get o).command ≠ (t.cooling.outputs.get o).feedback →
            (t.cooling.outputs.get o).proof = some s.now)) ∧
        (s.isActive .cool = true → t.cooling.factor = 1024))

/-! ## Fire and gas (chapter 6) -/

/-- Detector lines (R104 to R108). LINE_READING_CHANGE: the candidate follows the reading, with its
debounce from the moment it became the candidate, and nothing else changes. LINE_DEBOUNCE_EXPIRY: the
candidate is taken; a latching line that becomes ACTIVE has its latch set and unacknowledged, an
acknowledged LEVEL latch clears at NORMAL, and a line of a used kind is faulted while OPEN or SHORT;
the other lines are unchanged. -/
def Obligations.LinesAreDebounced : Prop :=
  (∀ (s : State) (l : Line) (reading : LineClass),
    let x := s.fire.lines.get l
    let candidate : Option Candidate :=
      if reading = x.taken then none
      else if x.candidate.map (·.reading) = some reading then x.candidate
      else some ⟨reading, s.now⟩
    exec (.lineReadingChange l reading) s = .next (arbitrate
      { s with fire := { s.fire with
        lines := s.fire.lines.set l { x with reading := reading, candidate := candidate } } })) ∧
  (∀ (s : State) (l : Line) (c : Candidate), (s.fire.lines.get l).candidate = some c →
    (s.lineSettings l).debounce ≤ (s.now - c.since).toNat →
    let x := s.fire.lines.get l
    let kind := (s.lineSettings l).kind
    let sets : Bool := decide (c.reading = .active ∧ (kind = .smoke ∨ kind = .heat ∨ kind = .manual))
    let clears : Bool := decide (c.reading = .normal ∧ (s.lineSettings l).pulseMode = false ∧
      x.latch = true ∧ x.acknowledged = true)
    ∃ t, exec (.lineDebounceExpiry l) s = .next t ∧
      t.fire.lines.get l =
        { reading := x.reading
          taken := c.reading
          candidate := none
          faulted := decide (kind ≠ .unused ∧ (c.reading = .opened ∨ c.reading = .short))
          latch := sets || (x.latch && !clears)
          acknowledged := x.acknowledged && !sets && !clears } ∧
      ∀ k, k ≠ l → t.fire.lines.get k = s.fire.lines.get k)

/-- The fire is confirmed exactly while R109 says so: two latched lines of a zone, or one of a degraded
zone, count only while not faulted; a HEAT or MANUAL latch confirms by itself. -/
def Obligations.FireConfirmation : Prop :=
  ∀ s : State,
    let inZone (z : Nat) (l : Line) : Prop :=
      ((s.lineSettings l).kind = .smoke ∨ (s.lineSettings l).kind = .heat) ∧
        (s.lineSettings l).zones.testBit (z - 1) = true
    let counted (z : Nat) (l : Line) : Prop :=
      inZone z l ∧ (s.fire.lines.get l).latch = true ∧ (s.fire.lines.get l).faulted = false
    let degraded (z : Nat) : Prop := ∃ l, inZone z l ∧ (s.fire.lines.get l).faulted = true
    (s.confirmed = true ↔
      (∃ z ∈ [1, 2, 3, 4], ∃ l k, l ≠ k ∧ counted z l ∧ counted z k) ∨
      (∃ z ∈ [1, 2, 3, 4], degraded z ∧ ∃ l, counted z l) ∨
      (∃ l, (s.lineSettings l).kind = .heat ∧ (s.fire.lines.get l).latch = true) ∨
      (∃ l, (s.lineSettings l).kind = .manual ∧ (s.fire.lines.get l).latch = true))

/-- The timers of the fire and gas unit. HORN_PATTERN_TOGGLE: 500 ms on and 1500 ms off in PRE_ALARM
(R113). RELEASE_PULSE_END: the release output is deasserted after the pulse time.
FEEDBACK_WATCH_EXPIRY: the watch ends UNCONFIRMED and posts the classes of the feedback lines (R115);
that its feedback time and line kinds are those of the FIRE table in force at the expiry, also after a
FIRE swap during the watch, is the model's choice (log entry 59), on which R115 is silent.
COUNTDOWN_EXPIRY: the stage is RELEASED, the release output asserted, its pulse and its watch running,
and the ventilation SEALED (R114, R99). -/
def Obligations.FireTimersAct : Prop :=
  ∀ s : State,
    (s.fire.stage = .preAlarm →
      (if s.fire.horn then 500 else 1500) ≤ (s.now - s.fire.hornSince).toNat →
      exec .hornPatternToggle s = .next (arbitrate
        { s with fire := { s.fire with horn := !s.fire.horn, hornSince := s.now } })) ∧
    (∀ p, s.fire.pulse = some p → s.fireRecord.pulse * 1000 ≤ (s.now - p).toNat →
      exec .releasePulseEnd s = .next (arbitrate
        { s with fire := { s.fire with release := false, pulse := none } })) ∧
    (∀ w, s.fire.watch = .awaiting → s.fire.watchSince = some w →
      s.fireRecord.feedback * 1000 ≤ (s.now - w).toNat →
      exec .feedbackWatchExpiry s = .next (arbitrate (post
        (.releaseUnconfirmed
          ((Line.all.filter fun l => (s.lineSettings l).kind = .agentFeedback).map fun l =>
            (l, (s.fire.lines.get l).taken)))
        { s with fire := { s.fire with watch := .unconfirmed, watchSince := none } }))) ∧
    (∀ c, s.fire.stage = .countdown → s.fire.countdown = some c →
      s.fireRecord.countdown * 1000 ≤ (s.now - c).toNat →
      ∃ t, exec .countdownExpiry s = .next t ∧ t.fire.stage = .released ∧
        t.fire.release = true ∧ t.fire.pulse = some s.now ∧ t.fire.horn = true ∧
        t.fire.countdown = none ∧ t.fire.held = false ∧
        t.fire.watch = (if s.feedbackActive then .confirmed else .awaiting) ∧
        t.fire.lines = s.fire.lines ∧ t.cooling.ventilation = .sealedMode)

/-- The fire stage, its two requests and the gas state. The stage is judged as R110 states; a countdown
time of 0 goes straight to RELEASED unless an ABORT line is ACTIVE (R114). A gas channel climbs from
CLEAR and falls from ALARM at the sample that completes its persistence, not before (R116). The gas
state is the higher channel level, and its entry to GAS_ALARM sets the GAS latch; GAS_FAULT stands
exactly while no PLANT entry is enabled, the plant node counts as stale or a gas record gives no fresh
value, and such a record leaves its channel as it is (R117). FIRE_ACK (R108): ALREADY
with no latch set; otherwise a PULSE latch, and a LEVEL latch whose line is NORMAL, clears, and every
other set latch is acknowledged. FIRE_RESET (R111): ALREADY in NORMAL and PRE_ALARM, FIRE_ACTIVE while
a latch is set or the release pulse is under way, and otherwise PRE_ALARM or NORMAL with no countdown
left. -/
def Obligations.FireStageAndRequests : Prop :=
  (∀ s : State, s.fire.stage = .normal ∨ s.fire.stage = .preAlarm →
    (s.confirmed = true → s.fireRecord.releaseEnabled = false →
      (judgeStage s).fire.stage = .alarm) ∧
    (s.confirmed = true → s.fireRecord.releaseEnabled = true → 0 < s.fireRecord.countdown →
      (judgeStage s).fire.stage = .countdown ∧ (judgeStage s).fire.held = s.abortActive) ∧
    (s.confirmed = true → s.fireRecord.releaseEnabled = true → s.fireRecord.countdown = 0 →
      (s.abortActive = true →
        (judgeStage s).fire.stage = .countdown ∧ (judgeStage s).fire.held = true) ∧
      (s.abortActive = false →
        (judgeStage s).fire.stage = .released ∧ (judgeStage s).fire.release = true)) ∧
    (s.confirmed = false → s.fire.stage = .normal →
      (judgeStage s).fire.stage =
        if (∃ l ∈ Line.all, (s.lineSettings l).kind = .smoke ∧ (s.fire.lines.get l).latch = true) ∨
          s.fire.gas ≠ .clear then .preAlarm else .normal) ∧
    (s.confirmed = false → s.fire.stage = .preAlarm →
      (judgeStage s).fire.stage =
        if (∀ l ∈ Line.all, (s.fire.lines.get l).latch = false) ∧ s.fire.gas = .clear then .normal
        else .preAlarm)) ∧
  (∀ (tag : Byte) (rest : List Tagged) (s : State), s.offers ⟨tag, .fireAck⟩ rest →
    ((∀ l, (s.fire.lines.get l).latch = false) →
      exec (.fireAck tag) s = .next (arbitrate (settle
        (s.answered ⟨tag, .fireAck⟩ rest .already .nothing)))) ∧
    ((∃ l, (s.fire.lines.get l).latch = true) →
      ∃ t, exec (.fireAck tag) s = .next t ∧ ∀ l,
        t.fire.lines.get l =
          if (s.fire.lines.get l).latch = false then s.fire.lines.get l
          else if (s.lineSettings l).pulseMode = true ∨ (s.fire.lines.get l).taken = .normal then
            { s.fire.lines.get l with latch := false, acknowledged := false }
          else { s.fire.lines.get l with acknowledged := true })) ∧
  (∀ (tag : Byte) (rest : List Tagged) (s : State), s.offers ⟨tag, .fireReset⟩ rest →
    let latched := Line.all.filter fun l => (s.fire.lines.get l).latch
    let x : Tagged := ⟨tag, .fireReset⟩
    (s.fire.stage = .normal ∨ s.fire.stage = .preAlarm →
      exec (.fireReset tag) s =
        .next (arbitrate (settle (s.answered x rest .already .nothing)))) ∧
    (s.fire.stage = .alarm ∨ s.fire.stage = .countdown → latched ≠ [] →
      exec (.fireReset tag) s =
        .next (arbitrate (settle (s.answered x rest .fireActive (.fireActive latched false))))) ∧
    (s.fire.stage = .released → latched ≠ [] ∨ s.fire.pulse ≠ none →
      exec (.fireReset tag) s = .next (arbitrate (settle
        (s.answered x rest .fireActive (.fireActive latched s.fire.pulse.isSome))))) ∧
    (latched = [] → s.fire.stage = .alarm ∨ s.fire.stage = .countdown ∨
        (s.fire.stage = .released ∧ s.fire.pulse = none) →
      ∃ t, exec (.fireReset tag) s = .next t ∧
        t.fire.stage = (if s.fire.gas = .clear then .normal else .preAlarm) ∧
        t.fire.countdown = none ∧ t.fire.held = false ∧ t.fire.release = s.fire.release ∧
        t.fire.watch = s.fire.watch ∧ t.fire.lines = s.fire.lines)) ∧
  (∀ (g : GasLimits) (samples : List (Int × PartTime)) (x : GasChannelState),
    let y := samples.foldl (fun acc v => acc.judge g v.1 v.2) x;
    (x.level = .clear → x.setCount = 0 → 1 ≤ g.setPersistence →
      (∀ v ∈ samples, g.preSet ≤ v.1) →
      (samples.length < g.setPersistence → y.level = .clear ∧ y.setCount = samples.length) ∧
      (samples.length = g.setPersistence → y.setCount = 0 ∧ y.releaseCount = 0 ∧
        ((∀ v ∈ samples, g.alarmSet ≤ v.1) → y.level = .alarm) ∧
        ((∃ v ∈ samples, v.1 < g.alarmSet) → y.level = .pre))) ∧
    (x.level = .alarm → x.releaseCount = 0 → 1 ≤ g.releasePersistence →
      (∀ v ∈ samples, v.1 ≤ g.alarmRelease) →
      (samples.length < g.releasePersistence → y.level = .alarm) ∧
      (∀ last, samples.length = g.releasePersistence → samples.getLast? = some last →
        y.level = if last.1 ≤ g.preRelease then .clear else .pre))) ∧
  (∀ (channel : GasChannel) (v : Int) (stamp : PartTime) (s : State),
    let t := gasChanged channel v stamp s
    let either (l : GasLevel) : Prop := s.fire.h2.level = l ∨ s.fire.co.level = l;
    (either .alarm → t.fire.gas = .gasAlarm ∧
      (s.fire.gas ≠ .gasAlarm → t.trips.container.gas = ⟨true, false⟩)) ∧
    (¬ either .alarm → either .pre → t.fire.gas = .gasPre) ∧
    (¬ either .alarm → ¬ either .pre → t.fire.gas = .clear)) ∧
  (∀ (node : Nat) (s : State),
    let t := plantNotice node s
    let dead (e : SlotEntry) (channel : Nat) : Prop :=
      ∀ r, s.record e.node channel = some r →
        r.quality = .stale ∨ r.quality = .invalid ∨ r.value = none;
    (t.fire.gasFault = true ↔ s.entriesOfKind .plant = [] ∨
      ∃ e, (s.entriesOfKind .plant).head? = some e ∧
        (s.nodeStale e.node = true ∨ dead e 3 ∨ dead e 4)) ∧
    (∀ e, e.node = node → s.nodeStale node = true ∨ dead e 3 → t.fire.h2 = s.fire.h2) ∧
    (∀ e, e.node = node → s.nodeStale node = true ∨ dead e 4 → t.fire.co = s.fire.co))

/-! ## Rack switching (chapter 7) -/

/-- CONNECT (R126) in a settled state: the whole request is refused in UNCONFIGURED, in STANDBY and with
an empty mask; otherwise each rack named has the result of the first row that applies, and exactly the
racks answered OK or PRECHARGE_BUDGET become QUEUED. The scan at a rack set complete (R128, R129):
while the slot is free, no rack is under a protective operation and no disconnect is pending, the
first rack of the queue whose path is open takes the slot, leaves the queue and starts, PRECHARGING
with one attempt more at a dead bus (R130, R131), JOINING without precharge at a live one (R132); no
other rack changes, and nothing does when none may start. A path is open to a rack that is not BLIND,
has had a set and has both voltages fresh: at a dead bus while its precharge budget is not spent, at a
live one within the join window. A PRECHARGING rack joins at its own set complete once the minimum
precharge time has passed and its voltages, both fresh, lie within that window (R131). -/
def Obligations.ConnectQueuesRacks : Prop :=
  (∀ (tag : Byte) (mask : RackMask) (rest : List Tagged) (s : State),
    let x : Tagged := ⟨tag, .connect mask⟩
    let verdict (r : Rack) : Result :=
      if s.rackEnabled r = false then .badIndex
      else if s.fire.stage ≠ .normal ∨ s.fire.gas ≠ .clear then .fireActive
      else if s.latchedFor r = true ∨ s.rackState r = .locked then .tripActive
      else if s.rackState r = .queued ∨ s.rackState r = .precharging ∨
        s.rackState r = .joining ∨ s.rackState r = .connected then .already
      else if s.rackState r = .draining ∨ s.rackState r = .opening then .busy
      else if s.rackState r = .fault then .wrongMode
      else if 3 ≤ (s.sequencer.racks.get r).attempts.length then .prechargeBudget
      else .ok
    let queues (r : Rack) : Prop :=
      r ∈ racksOf mask ∧ (verdict r = .ok ∨ verdict r = .prechargeBudget)
    s.offers x rest → s.Settled → s.SequencerKept →
    (s.site.mode = .unconfigured → exec (.connect tag mask) s =
      .next (arbitrate (s.answered x rest .notConfigured .nothing))) ∧
    (s.site.mode = .standby → exec (.connect tag mask) s =
      .next (arbitrate (s.answered x rest .wrongMode .nothing))) ∧
    (s.site.mode = .run → mask = 0#4 → exec (.connect tag mask) s =
      .next (arbitrate (s.answered x rest .badRequest .nothing))) ∧
    (s.site.mode = .run → mask ≠ 0#4 →
      ∃ t, exec (.connect tag mask) s = .next t ∧
        t.site.unsentReplies = s.site.unsentReplies ++
          [⟨tag, .connect mask, .ok, .perRack ((racksOf mask).map fun r => (r, verdict r))⟩] ∧
        (∀ r, (queues r → t.rackState r = .queued ∧
            (t.sequencer.racks.get r).operation = .connect ∧
            (t.sequencer.racks.get r).queuedAt = s.now) ∧
          (¬ queues r → t.sequencer.racks.get r = s.sequencer.racks.get r)) ∧
        t.sequencer.slot = s.sequencer.slot)) ∧
  (∀ (g : GridRecord) (s : State),
    let served : Prop := s.sequencer.slot = none ∧ ∀ r,
      (s.sequencer.racks.get r).operation.protective = false ∧
        (s.sequencer.racks.get r).disconnectPending = false
    let t := scanQueue g s;
    (¬ served ∨ (∀ e ∈ s.sequencer.queue, s.pathOf g e.rack = none) → t = s) ∧
    (∀ (first later : List QueueEntry) (e : QueueEntry) (p : Path), served →
      s.sequencer.queue = first ++ e :: later → (s.sequencer.queue.map (·.rack)).Nodup →
      (∀ y ∈ first, s.pathOf g y.rack = none) → s.pathOf g e.rack = some p →
      s.rackState e.rack = .queued → (s.sequencer.racks.get e.rack).mainClosed = false →
      let x := s.sequencer.racks.get e.rack
      let y := t.sequencer.racks.get e.rack
      t.sequencer.slot = some e.rack ∧ t.sequencer.queue = first ++ later ∧
        y.operation = x.operation ∧
        (p = .precharge → y.state = .precharging ∧ y.prechargeUsed = true ∧
          y.attempts = x.attempts ++ [s.now] ∧
          y.timer = some ⟨.precharge, s.now, g.prechargeTimeout⟩) ∧
        (p = .join → y.state = .joining ∧ y.prechargeUsed = false ∧ y.attempts = x.attempts ∧
          y.timer = some ⟨.closeProof, s.now, s.contactorProof⟩) ∧
        ∀ r, r ≠ e.rack → t.sequencer.racks.get r = s.sequencer.racks.get r)) ∧
  (∀ (g : GridRecord) (s : State) (r : Rack),
    let x := s.samples.racks.get r
    let q := s.sequencer.racks.get r
    let voltages (vr vb : Int) : Prop := ∃ a b : Reading,
      x.aggregates.rackVoltage = some a ∧ x.aggregates.busVoltage = some b ∧
      (a.quality = .fresh ∨ a.quality = .range) ∧ (b.quality = .fresh ∨ b.quality = .range) ∧
      a.value = vr ∧ b.value = vb
    let dead (vb : Int) : Prop := (∀ k, s.rackState k ≠ .connected) ∧ vb < g.deadBus
    let window (vr vb : Int) : Prop := (vr - vb).natAbs ≤ g.joinWindow;
    (s.pathOf g r = some .precharge ↔ x.blind = false ∧ x.hadSet = true ∧
      ∃ vr vb, voltages vr vb ∧ dead vb ∧ q.attempts.length < 3) ∧
    (s.pathOf g r = some .join ↔ x.blind = false ∧ x.hadSet = true ∧
      ∃ vr vb, voltages vr vb ∧ ¬ dead vb ∧ window vr vb) ∧
    (∀ m, q.state = .precharging → q.timer = some m → q.mainClosed = false →
      let t := moveAtSet r g s;
      ((g.minPrecharge ≤ (s.now - m.since).toNat ∧ ∃ vr vb, voltages vr vb ∧ window vr vb) →
        t.rackState r = .joining ∧ (t.sequencer.racks.get r).prechargeUsed = true ∧
        (t.sequencer.racks.get r).timer = some ⟨.closeProof, s.now, s.contactorProof⟩) ∧
      (¬ (g.minPrecharge ≤ (s.now - m.since).toNat ∧ ∃ vr vb, voltages vr vb ∧ window vr vb) →
        t = s)))

/-- DISCONNECT and CLEAR_FAULT (R133, R141): refused as a whole, or answered with a result for each
rack named. After a DISCONNECT no rack it names and may disconnect is QUEUED or PRECHARGING, and one
still JOINING or CONNECTED has disconnect pending. A CLEAR_FAULT takes a rack in FAULT whose
feedbacks both read open to OPEN or LOCKED with no hard breaks counted, and leaves every other rack
in FAULT there; an OPEN or LOCKED rack it names has its hard-break count at 0 afterwards; and the
result of each rack named is that of the table of R141. -/
def Obligations.DisconnectAndClearFault : Prop :=
  (∀ (tag : Byte) (mask : RackMask) (rest : List Tagged) (s : State),
    let x : Tagged := ⟨tag, .disconnect mask⟩
    let verdict (r : Rack) : Result :=
      if s.rackEnabled r = true ∧ (s.rackState r = .queued ∨ s.rackState r = .precharging ∨
        s.rackState r = .joining ∨ s.rackState r = .connected) then .ok
      else if s.rackEnabled r = true then .already
      else .badIndex
    s.offers x rest →
    (s.site.mode = .unconfigured → exec (.disconnect tag mask) s =
      .next (arbitrate (settle (s.answered x rest .notConfigured .nothing)))) ∧
    (s.site.mode ≠ .unconfigured → mask = 0#4 → exec (.disconnect tag mask) s =
      .next (arbitrate (settle (s.answered x rest .badRequest .nothing)))) ∧
    (s.site.mode ≠ .unconfigured → mask ≠ 0#4 →
      ∃ t, exec (.disconnect tag mask) s = .next t ∧
        t.site.unsentReplies = s.site.unsentReplies ++
          [⟨tag, .disconnect mask, .ok, .perRack ((racksOf mask).map fun r => (r, verdict r))⟩] ∧
        ∀ r ∈ racksOf mask, s.rackEnabled r = true →
          t.rackState r ≠ .queued ∧ t.rackState r ≠ .precharging ∧
          (t.rackState r = .joining ∨ t.rackState r = .connected →
            (t.sequencer.racks.get r).disconnectPending = true))) ∧
  (∀ (tag : Byte) (mask : RackMask) (rest : List Tagged) (s : State),
    let x : Tagged := ⟨tag, .clearFault mask⟩
    let closed (r : Rack) : Prop := (s.sequencer.racks.get r).mainClosed = true ∨
      (s.sequencer.racks.get r).prechargeClosed = true
    let verdict (r : Rack) : Result :=
      let q := s.sequencer.racks.get r
      if s.rackEnabled r = false then .badIndex
      else if q.state = .fault then
        if q.mainClosed = true ∨ q.prechargeClosed = true then .wrongMode else .ok
      else if q.state = .opened ∨ q.state = .locked then
        if 0 < q.hardBreaks then .ok else .already
      else .wrongMode
    s.offers x rest → s.Settled →
    (mask = 0#4 → exec (.clearFault tag mask) s =
      .next (arbitrate (s.answered x rest .badRequest .nothing))) ∧
    (mask ≠ 0#4 →
      ∃ t, exec (.clearFault tag mask) s = .next t ∧
        t.site.unsentReplies = s.site.unsentReplies ++
          [⟨tag, .clearFault mask, .ok, .perRack ((racksOf mask).map fun r => (r, verdict r))⟩] ∧
        (∀ r ∈ racksOf mask, s.rackEnabled r = true →
          s.rackState r = .opened ∨ s.rackState r = .locked →
          (t.rackState r = .opened ∨ t.rackState r = .locked) ∧
          (t.sequencer.racks.get r).hardBreaks = 0) ∧
        ∀ r, s.rackState r = .fault →
          (r ∈ racksOf mask → s.rackEnabled r = true → ¬ closed r →
            (t.rackState r = .opened ∨ t.rackState r = .locked) ∧
            (t.sequencer.racks.get r).faultKind = none ∧
            (t.sequencer.racks.get r).hardBreaks = 0) ∧
          (r ∉ racksOf mask ∨ s.rackEnabled r = false ∨ closed r →
            t.sequencer.racks.get r = s.sequencer.racks.get r)))

/-- The timers of a rack, with no GRID table waiting to swap. A watch that expires at rest welds the rack
and trips the container, and on the main contactor of a rack that should conduct is FAILED_TO_CLOSE
(R124); the wait timer takes a rack out of the queue (R127); the precharge timeout and the drain timer
open both contactors (R131, R134); the close proof ends in FAILED_TO_CLOSE and the precharge-release
delay in CONNECTED (R132); and the open proof ends in WELDED (R136). -/
def Obligations.RackTimersAct : Prop :=
  ∀ (s : State) (r : Rack), (s.table .grid).state ≠ .committed →
    let x := s.sequencer.racks.get r
    let runs (k : OperationTimerKind) : Prop :=
      ∃ m, x.timer = some m ∧ m.kind = k ∧ m.limit ≤ (s.now - m.since).toNat
    (∀ c, s.watchIsDue r c = true →
      (x.state = .opened ∨ x.state = .queued ∨ x.state = .locked →
        ∃ t, exec (.watchTimerExpiry r c) s = .next t ∧ t.rackState r = .fault ∧
          (t.sequencer.racks.get r).faultKind = some .welded ∧
          t.trips.container.welded = ⟨true, false⟩ ∧ ∀ k, t.commandedOpen k) ∧
      (x.state = .connected ∨ x.state = .draining →
        ∃ t, exec (.watchTimerExpiry r c) s = .next t ∧ t.commandedOpen r ∧
          (c = .main → t.rackState r = .fault ∧
            (t.sequencer.racks.get r).faultKind = some .failedToClose ∧
            (t.sequencer.racks.get r).hardBreaks = x.hardBreaks))) ∧
    (s.waitIsDue r = true → x.state = .queued →
      ∃ t, exec (.waitTimerExpiry r) s = .next t ∧ t.rackState r = .opened ∧
        ∀ e ∈ t.sequencer.queue, e.rack ≠ r) ∧
    (x.state = .precharging → runs .precharge →
      ∃ t, exec (.prechargeTimeout r) s = .next t ∧ t.commandedOpen r ∧
        t.rackState r ≠ .queued) ∧
    (x.state = .joining → runs .closeProof →
      ∃ t, exec (.closeProofExpiry r) s = .next t ∧ t.rackState r = .fault ∧
        (t.sequencer.racks.get r).faultKind = some .failedToClose ∧ t.commandedOpen r) ∧
    (x.state = .joining → runs .releaseDelay → x.disconnectPending = false →
      ∃ t, exec (.prechargeReleaseDelayEnd r) s = .next t ∧ t.rackState r = .connected ∧
        (t.sequencer.racks.get r).operation = .none) ∧
    (x.state = .draining → runs .drain →
      ∃ t, exec (.drainTimerExpiry r) s = .next t ∧ t.commandedOpen r) ∧
    (x.state = .opening → runs .openProof → x.mainClosed = true ∨ x.prechargeClosed = true →
      ∃ t, exec (.openProofExpiry r) s = .next t ∧ t.rackState r = .fault ∧
        (t.sequencer.racks.get r).faultKind = some .welded ∧
        t.trips.container.welded = ⟨true, false⟩)

/-- CONTACTOR_FEEDBACK_CHANGE keeps the reading of the one contactor and leaves the other's; a rack whose
main contactor closes in its close proof without a precharge is CONNECTED, after one it starts the
precharge-release delay and stays JOINING with the precharge contactor still commanded closed, and an
OPENING rack whose feedbacks both read open ends its operation (R132, R136). (That a precharge-release
delay of 0 ends in the same step, in CONNECTED, is the model's reading, log entry 7.)
PRECHARGE_ATTEMPT_EXPIRY takes the attempts of 600 s ago from the rack's list and changes nothing else
(R130). -/
def Obligations.FeedbackAndAttempts : Prop :=
  (∀ (s : State) (r : Rack) (c : Contactor) (closed : Bool),
    (s.table .grid).state ≠ .committed →
    let x := s.sequencer.racks.get r
    ∃ t, exec (.contactorFeedbackChange r c closed) s = .next t ∧
      (t.sequencer.racks.get r).mainClosed = (if c = .main then closed else x.mainClosed) ∧
      (t.sequencer.racks.get r).prechargeClosed =
        (if c = .main then x.prechargeClosed else closed) ∧
      (c = .main → closed = true → x.state = .joining → x.prechargeUsed = false →
        x.disconnectPending = false → (∃ m, x.timer = some m ∧ m.kind = .closeProof) →
        t.rackState r = .connected) ∧
      (∀ g, s.grid = some g → c = .main → closed = true → x.state = .joining →
        x.prechargeUsed = true → (∃ m, x.timer = some m ∧ m.kind = .closeProof) →
        (0 < g.releaseDelay → t.rackState r = .joining ∧
          (t.sequencer.racks.get r).timer = some ⟨.releaseDelay, s.now, g.releaseDelay⟩ ∧
          (t.sequencer.racks.get r).prechargeCommand = true) ∧
        (g.releaseDelay = 0 → x.disconnectPending = false → t.rackState r = .connected ∧
          (t.sequencer.racks.get r).prechargeCommand = false)) ∧
      (x.state = .opening → (t.sequencer.racks.get r).mainClosed = false →
        (t.sequencer.racks.get r).prechargeClosed = false →
        (t.rackState r = .opened ∨ t.rackState r = .locked ∨ t.rackState r = .fault) ∧
        (t.sequencer.racks.get r).operation = .none)) ∧
  (∀ (s : State) (r : Rack),
    (∃ a ∈ (s.sequencer.racks.get r).attempts, 600000 ≤ (s.now - a).toNat) →
    exec (.prechargeAttemptExpiry r) s = .next (arbitrate
      { s with sequencer := { s.sequencer with
        racks := s.sequencer.racks.set r
          { s.sequencer.racks.get r with
            attempts := (s.sequencer.racks.get r).attempts.filter fun a =>
              decide ((s.now - a).toNat < 600000) } } }))

/-! ## Protective trips (chapter 8) -/

/-- Taking a cause (R148, R151, R153): its latch is set and unacknowledged, a record with the present
sequence number joins the history, which keeps at most 16, the counter advances, and no rack that the
cause names is left QUEUED, PRECHARGING, JOINING or CONNECTED. The overcurrent check of a rack (R147):
the overrun start is absent for a rack that is not CONNECTED and without an excess, is kept without a
fresh junction sample, and otherwise stands from the first stamp of the excess until it has lasted the
overrun time, when OVERCURRENT is taken for the rack with the current as its value. BLIND_TIMER_EXPIRY
at a timer that has reached the blind time takes the cause BLIND, which carries the rack and the stale
and invalid counts (R42), and does no more than that taking brings. (That these are the counts of the
last rack set complete is the model's reading, log entry 29.) -/
def Obligations.CausesAreTaken : Prop :=
  (∀ (kind : TripKind) (named : Option Rack) (data : CauseData) (s : State),
    kind.isContainer = named.isNone → s.trips.history.length ≤ 16 →
    let t := takeCause kind named data s
    (∀ r, named = some r → (t.trips.racks.get r).latch kind = ⟨true, false⟩) ∧
    (named = none → t.trips.container.latch kind = ⟨true, false⟩) ∧
    t.trips.sequence = s.trips.sequence + 1 ∧
    t.trips.history.length = min 16 (s.trips.history.length + 1) ∧
    (∃ x, t.trips.history.getLast? = some x ∧ x.number = s.trips.sequence ∧ x.kind = kind ∧
      x.rack = named ∧ x.cycle = s.ring.cycle) ∧
    (∀ r, named = none ∨ named = some r →
      t.rackState r ≠ .queued ∧ t.rackState r ≠ .precharging ∧ t.rackState r ≠ .joining ∧
        t.rackState r ≠ .connected)) ∧
  (∀ (s : State) (r : Rack) (g : GridRecord), s.grid = some g →
    let l := s.trips.racks.get r
    let limit := (s.limits.racks.get r).limit
    let starting (x : Option PartTime) : State :=
      { s with trips := { s.trips with
        racks := s.trips.racks.set r { l with overrunStart := x } } }
    let t := overcurrentCheck r s;
    (s.rackState r ≠ .connected → t = starting none) ∧
    (s.rackState r = .connected → s.junctionFresh r = none → t = s) ∧
    (∀ i stamp, s.rackState r = .connected → s.junctionFresh r = some (i, stamp) →
      let excess : Prop := (limit.charge : Int) + g.overrunMargin < i ∨
        i < -((limit.discharge : Int) + g.overrunMargin)
      let start := l.overrunStart.getD stamp
      let lasted := (stamp - start).toNat;
      (¬ excess → t = starting none) ∧
      (excess → lasted < g.overrunTime → t = starting (some start)) ∧
      (excess → g.overrunTime ≤ lasted → s.trips.history.length ≤ 16 →
        (t.trips.racks.get r).overcurrent = ⟨true, false⟩ ∧
        (t.trips.racks.get r).overrunStart = none ∧ t.rackState r ≠ .connected ∧
        ∃ x, t.trips.history.getLast? = some x ∧ x.kind = .overcurrent ∧ x.rack = some r ∧
          x.value = some i ∧ x.stamp = stamp))) ∧
  (∀ (s : State) (r : Rack) (e : RackEntry), s.rackConfig r = some e →
    (s.samples.racks.get r).blindTimer.due s.now (e.blindTime * 1000) = true →
    let a := (s.samples.racks.get r).aggregates
    exec (.blindTimerExpiry r) s = .next (arbitrate (settle
      (takeCause .blind (some r) (.blind a.staleCount a.invalidCount)
        { s with samples := { s.samples with
          racks := s.samples.racks.set r
            { s.samples.racks.get r with blindTimer := .full (e.blindTime * 1000) } } }))))

/-- The requests of the trip unit, with no GRID table waiting to swap. READ_TRIPS answers the history and
the counter; CLEAR_TRIP_HISTORY empties a history that is not empty (R153). CLEAR_TRIP answers ALREADY
when no latch it may acknowledge stands and no side of the racks named is at TRIP; otherwise every
such latch that is left is acknowledged, and OVERCURRENT and EMERGENCY are cleared (R154 to R156). -/
def Obligations.TripRequestsAct : Prop :=
  ∀ (tag : Byte) (mask : RackMask) (rest : List Tagged) (s : State),
    (s.offers ⟨tag, .readTrips⟩ rest →
      exec (.readTrips tag) s = .next (arbitrate (s.answered ⟨tag, .readTrips⟩ rest .ok
        (.trips s.trips.history s.trips.sequence)))) ∧
    (s.offers ⟨tag, .clearTripHistory⟩ rest →
      (s.trips.history = [] → exec (.clearTripHistory tag) s = .next (arbitrate
        (s.answered ⟨tag, .clearTripHistory⟩ rest .already .nothing))) ∧
      (s.trips.history ≠ [] → exec (.clearTripHistory tag) s = .next (arbitrate
        (({ s with trips := { s.trips with history := [] } } : State).answered
          ⟨tag, .clearTripHistory⟩ rest .ok .nothing)))) ∧
    (s.offers ⟨tag, .clearTrip mask⟩ rest → (s.table .grid).state ≠ .committed →
      let containerKinds : List TripKind := [.converterSilent, .welded, .emergency]
      let stands : Prop :=
        (∃ r ∈ racksOf mask, ∃ k ∈ TripKind.rackKinds,
          ((s.trips.racks.get r).latch k).standing = true) ∨
        (∃ k ∈ containerKinds, (s.trips.container.latch k).standing = true) ∨
        (∃ r ∈ racksOf mask, s.rackTripSide r = true)
      (¬ stands → exec (.clearTrip tag mask) s = .next (arbitrate (settle
        (s.answered ⟨tag, .clearTrip mask⟩ rest .already .nothing)))) ∧
      (stands → ∃ t, exec (.clearTrip tag mask) s = .next t ∧
        (∀ r ∈ racksOf mask, ∀ k ∈ TripKind.rackKinds,
          ((t.trips.racks.get r).latch k).standing = true →
          ((t.trips.racks.get r).latch k).acknowledged = true) ∧
        (∀ k ∈ containerKinds, (t.trips.container.latch k).standing = true →
          (t.trips.container.latch k).acknowledged = true) ∧
        (∀ r ∈ racksOf mask, (t.trips.racks.get r).overcurrent.standing = false) ∧
        t.trips.container.emergency.standing = false))

/-! ## Converter and breaker (chapter 9) -/

/-- LIMIT_PERIOD_EXPIRY and LIMIT_MESSAGE_SENT (R159, R160): a message is composed from the values
standing now, the counter advances modulo 256 and the period restarts; one that falls due while
another is being sent waits, and is composed when the sending ends. (That the period restarts at the
composing is the model's reading, log entry 14; the bytes of the CRC are free, log entry 9.) -/
def Obligations.LimitMessagesAreSent : Prop :=
  ∀ s : State,
    let connected := (Rack.all.filter fun r => s.rackState r = .connected).length
    let hold := s.sequencer.hold || !s.converter.limitsWorked
    let stop : Bool := decide (s.limits.container.charge = 0 ∧ s.limits.container.discharge = 0 ∧
      (s.limits.zeros.fire = true ∨ s.containerLatched = true ∨
        ∃ r ∈ Rack.all, s.rackLatched r = true))
    let message : LimitMessage :=
      { counter := s.converter.counter
        charge := s.limits.container.charge
        discharge := s.limits.container.discharge
        connected := connected
        hold := hold
        stop := stop
        crc := crc16 (Config.limitMessageBytes s.converter.counter s.limits.container.charge
          s.limits.container.discharge connected hold stop) }
    let composed : State := { s with converter := { s.converter with
      counter := (s.converter.counter + 1) % 256
      periodSince := s.now
      sending := true
      waiting := false
      lastMessage := some message } };
    (s.limitPeriod ≤ (s.now - s.converter.periodSince).toNat →
      (s.converter.sending = false → exec .limitPeriodExpiry s = .next (arbitrate composed)) ∧
      (s.converter.sending = true → exec .limitPeriodExpiry s = .next (arbitrate
        { s with converter := { s.converter with waiting := true } }))) ∧
    (s.converter.sending = true →
      (s.converter.waiting = true → exec .limitMessageSent s = .next (arbitrate composed)) ∧
      (s.converter.waiting = false → exec .limitMessageSent s = .next (arbitrate
        { s with converter := { s.converter with sending := false } })))

/-- CONVERTER_STATUS, SILENCE_WATCH_EXPIRY and SILENT_TRIP_EXPIRY (R161, R162, R163): a message is
discarded at the first check it fails and counted; a valid one replaces the last status, restarts the
silence watch and ends a silence; a silence takes the grid state to LOST and both container limits to
0; and the silent-trip time, which runs with the silence watch stopped, sets the CONVERTER_SILENT latch
and leaves no rack CONNECTED. -/
def Obligations.ConverterIsWatched : Prop :=
  (∀ (f : StatusFrame) (s : State),
    let crc := crc16 (Config.statusBytes f.voltage f.current f.converter f.grid)
    let inside : Prop := 0 ≤ f.voltage ∧ f.voltage ≤ 10000 ∧ -20000 ≤ f.current ∧
      f.current ≤ 20000
    let count (n : Nat) : Nat := if n < 65535 then n + 1 else 65535;
    (f.framingOk = false → exec (.converterStatus f) s = .next (arbitrate (settle
      { s with converter := { s.converter with
        framingErrors := count s.converter.framingErrors } }))) ∧
    (f.framingOk = true → f.crc ≠ crc → exec (.converterStatus f) s = .next (arbitrate (settle
      { s with converter := { s.converter with crcErrors := count s.converter.crcErrors } }))) ∧
    (f.framingOk = true → f.crc = crc → (∀ c, f.converter ≠ .named c) ∨ (∀ g, f.grid ≠ .named g) ∨ ¬ inside →
      exec (.converterStatus f) s = .next (arbitrate (settle
        { s with converter := { s.converter with
          rangeErrors := count s.converter.rangeErrors } }))) ∧
    (∀ c g, f.framingOk = true → f.crc = crc → f.converter = .named c → f.grid = .named g →
      inside → s.Settled →
      ∃ t, exec (.converterStatus f) s = .next t ∧
        t.converter.status = some ⟨f.voltage, f.current, c, g, s.now⟩ ∧ t.converter.grid = g ∧
        t.converter.silent = false ∧ t.converter.silentTrip = .stopped ∧
        t.converter.silenceWatch = (if s.isActive .grid then some s.now else none))) ∧
  (∀ (s : State) (g : GridRecord) (w : PartTime), s.grid = some g →
    s.converter.silenceWatch = some w → g.silenceTime ≤ (s.now - w).toNat →
    ∃ t, exec .silenceWatchExpiry s = .next t ∧ t.converter.silent = true ∧
      t.converter.silentTrip = .running s.now ∧ t.converter.silenceWatch = none ∧
      t.converter.grid = .lost ∧ t.limits.container = ⟨0, 0⟩ ∧
      t.limits.zeros.silent = true ∧ (s.converter.grid ≠ .lost → t.converter.permit = false)) ∧
  (∀ (s : State) (g : GridRecord) (w : PartTime), s.grid = some g →
    s.converter.silentTrip = .running w → s.converter.silenceWatch = none →
    g.silentTrip * 1000 ≤ (s.now - w).toNat →
    ∃ t, exec .silentTripExpiry s = .next t ∧
      t.converter.silentTrip = .full (g.silentTrip * 1000) ∧
      t.trips.container.converterSilent = ⟨true, false⟩ ∧ ∀ r, t.rackState r ≠ .connected)

/-- The breaker trip pulse (R165): a pulse lasts 200 ms and ends IDLE or PROVING by the feedback; a proof
that expires with the feedback closed sends the next pulse, or after the third is FAILED and posts
BREAKER_FAILED; a feedback that reads open ends PROVING and FAILED but shortens no pulse. The trip output
is on exactly while PULSING, so it turns off at the end of a pulse and on again at the next. (That the
number of pulses BREAKER_FAILED carries is the pulse number is the model's choice, log entry 66.) -/
def Obligations.BreakerPulsesAreProved : Prop :=
  ∀ s : State,
    (s.converter.tripOutput = true ↔ s.converter.pulse = .pulsing) ∧
    (s.converter.pulse = .pulsing → 200 ≤ (s.now - s.converter.pulseSince).toNat →
      (s.converter.breakerClosed = false → exec .breakerPulseEnd s = .next (arbitrate
        { s with converter := { s.converter with pulse := .idle } })) ∧
      (s.converter.breakerClosed = true → exec .breakerPulseEnd s = .next (arbitrate
        { s with converter := { s.converter with
          pulse := .proving, proofSince := s.now, proofLimit := s.breakerProof } }))) ∧
    (s.converter.pulse = .proving → s.converter.breakerClosed = true →
      s.converter.proofLimit ≤ (s.now - s.converter.proofSince).toNat →
      (s.converter.pulseNumber < 3 → exec .breakerProofExpiry s = .next (arbitrate
        { s with converter := { s.converter with
          pulse := .pulsing
          pulseNumber := s.converter.pulseNumber + 1
          pulseSince := s.now } })) ∧
      (3 ≤ s.converter.pulseNumber → exec .breakerProofExpiry s = .next (arbitrate
        (post (.breakerFailed s.converter.pulseNumber)
          { s with converter := { s.converter with pulse := .failed } })))) ∧
    (exec (.breakerFeedbackChange true) s = .next (arbitrate
      { s with converter := { s.converter with breakerClosed := true } })) ∧
    (exec (.breakerFeedbackChange false) s = .next (arbitrate
      { s with converter := { s.converter with
        breakerClosed := false
        pulse := if s.converter.pulse = .pulsing then .pulsing else .idle } }))

/-! ## Loaded tables (chapter 10) -/

/-- TABLE_WRITE and TABLE_READ (R170, R171): the first condition that applies refuses; an accepted write
puts each image at its position, blank images elsewhere on an empty bank, and leaves the bank EDITED;
an accepted read carries the images as they stand. An unknown table or bank is a BAD_REQUEST. Nothing
else changes. -/
def Obligations.TablesAreWrittenAndRead : Prop :=
  (∀ (tag : Byte) (n : TableName) (b : BankName) (first count : Nat) (data : List Byte)
    (rest : List Tagged) (s : State),
    let w : Tagged := ⟨tag, .tableWrite (some n) first count data⟩
    let rd : Tagged := ⟨tag, .tableRead (some n) (some b) first count⟩
    let blank : Bank := List.replicate n.positions (List.replicate n.imageLength 0#8)
    let base := (s.table n).pending.getD blank
    (s.offers w rest →
      (count < 1 ∨ 32 < count ∨ data.length ≠ count * n.imageLength →
        exec (.tableWrite tag (some n) first count data) s =
          .next (arbitrate (s.answered w rest .badRequest .nothing))) ∧
      (1 ≤ count → count ≤ 32 → data.length = count * n.imageLength →
        (n.positions < first + count →
          exec (.tableWrite tag (some n) first count data) s =
            .next (arbitrate (s.answered w rest .badIndex (.positions n.positions)))) ∧
        (first + count ≤ n.positions → (s.table n).state = .committed →
          exec (.tableWrite tag (some n) first count data) s =
            .next (arbitrate (s.answered w rest .commitPending .nothing))) ∧
        (first + count ≤ n.positions → (s.table n).state ≠ .committed →
          base.length = n.positions →
          ∃ bank : Bank, bank.length = n.positions ∧
            (∀ i < count, bank[first + i]? =
              some ((data.drop (i * n.imageLength)).take n.imageLength)) ∧
            (∀ j, (j < first ∨ first + count ≤ j) → bank[j]? = base[j]?) ∧
            exec (.tableWrite tag (some n) first count data) s = .next (arbitrate
              ((s.setTable n { s.table n with pending := some bank, state := .edited }).answered
                w rest .ok .nothing))))) ∧
    (s.offers rd rest →
      (count < 1 ∨ 32 < count → exec (.tableRead tag (some n) (some b) first count) s =
        .next (arbitrate (s.answered rd rest .badRequest .nothing))) ∧
      (1 ≤ count → count ≤ 32 →
        (n.positions < first + count → exec (.tableRead tag (some n) (some b) first count) s =
          .next (arbitrate (s.answered rd rest .badIndex .nothing))) ∧
        (first + count ≤ n.positions →
          let bank := if b = .active then (s.table n).active else (s.table n).pending
          (bank = none → exec (.tableRead tag (some n) (some b) first count) s =
            .next (arbitrate (s.answered rd rest .notConfigured .nothing))) ∧
          (∀ images, bank = some images →
            exec (.tableRead tag (some n) (some b) first count) s =
              .next (arbitrate (s.answered rd rest .ok
                (.images ((images.drop first).take count) (s.table n).state
                  (s.table n).digest)))))))) ∧
  (∀ (tag : Byte) (n : Option TableName) (b : Option BankName) (first count : Nat)
      (data : List Byte) (rest : List Tagged) (s : State),
    (s.offers ⟨tag, .tableWrite none first count data⟩ rest →
      exec (.tableWrite tag none first count data) s = .next (arbitrate
        (s.answered ⟨tag, .tableWrite none first count data⟩ rest .badRequest .nothing))) ∧
    (s.offers ⟨tag, .tableRead n b first count⟩ rest → n = none ∨ b = none →
      exec (.tableRead tag n b first count) s = .next (arbitrate
        (s.answered ⟨tag, .tableRead n b first count⟩ rest .badRequest .nothing))))

/-- TABLE_COMMIT (R173, R175): judged in the order of R173, each refusal leaving the bank as it is; a bank
that passes becomes COMMITTED and waits, or, where its swap point is the commit itself, becomes the
active bank with its digest and the pending bank a CLEAN copy; an unknown table is a BAD_REQUEST. A
table that waits swaps in the same way at its swap point: every ring-path table at the next
CYCLE_START, where the others stay as they are and the cycle begins; COOL at the next
CONTROL_INTERVAL_EXPIRY; and GRID where the step that ends the switching hold settles. (Which of several
failures the reply names is the model's reading, log entry 13.) -/
def Obligations.CommitsAreJudgedAndSwap : Prop :=
  (∀ (tag : Byte) (digest : Code) (n : TableName) (rest : List Tagged) (s : State),
    let x : Tagged := ⟨tag, .tableCommit (some n) digest⟩
    let swapsNow : Prop := match n with
      | .cool => s.isActive .cool = false
      | .fire => True
      | .grid => s.sequencer.hold = false
      | _ => s.ring.phase = .idle
    let refused (result : Result) (body : ReplyBody) : Prop :=
      exec (.tableCommit tag (some n) digest) s =
        .next (arbitrate (settle (s.answered x rest result body)))
    s.offers x rest →
    ((s.table n).state = .clean → refused .already .nothing) ∧
    ((s.table n).state = .committed → refused .commitPending .nothing) ∧
    (∀ bank, (s.table n).state = .edited → (s.table n).pending = some bank →
      (n = .fire → s.fire.stage ≠ .normal ∨ s.fire.gas ≠ .clear → refused .fireActive .nothing) ∧
      ((n = .fire → s.fire.stage = .normal ∧ s.fire.gas = .clear) →
        (digestOf bank ≠ digest → refused .digestMismatch (.digest (digestOf bank))) ∧
        (digestOf bank = digest →
          (∀ index reason, firstFailure (failuresOf n bank) = some (index, reason) →
            refused .invalidTable (.invalid index reason)) ∧
          (firstFailure (failuresOf n bank) = none →
            (¬ swapsNow → exec (.tableCommit tag (some n) digest) s =
              .next (arbitrate (settle
                ((s.setTable n { s.table n with state := .committed }).answered x rest .ok
                  (.swap false))))) ∧
            (swapsNow → ∃ t, exec (.tableCommit tag (some n) digest) s = .next t ∧
              t.table n = ⟨some bank, some bank, .clean, some digest⟩ ∧
              t.site.unsentReplies = s.site.unsentReplies ++
                [⟨tag, .tableCommit (some n) digest, .ok, .swap true⟩])))))) ∧
  (∀ (tag : Byte) (digest : Code) (rest : List Tagged) (s : State),
    s.offers ⟨tag, .tableCommit none digest⟩ rest →
    exec (.tableCommit tag none digest) s = .next (arbitrate (settle
      (s.answered ⟨tag, .tableCommit none digest⟩ rest .badRequest .nothing)))) ∧
  (∀ s : State, s.TablesConsistent →
    let swapped (t : State) (n : TableName) : Prop := ∃ bank,
      (s.table n).pending = some bank ∧
        t.table n = ⟨some bank, some bank, .clean, some (digestOf bank)⟩
    let due : Prop := s.ring.phase = .due ∨ ∃ k, s.ring.phase = .betweenTurns k ∧
      s.eventTurns ≤ k ∧ s.ring.cycleLength ≤ (s.now - s.ring.cycleStart).toNat;
    (due → ∃ t, exec .cycleStart s = .next t ∧ t.ring.phase = .token ∧
      t.ring.cycleStart = s.now ∧
      ∀ n ∈ TableName.ringPath,
        ((s.table n).state = .committed → swapped t n) ∧
        ((s.table n).state ≠ .committed → t.table n = s.table n)) ∧
    (∀ h since, (s.table .cool).state = .committed → s.cool = some h →
      s.cooling.interval = some since → h.interval * 1000 ≤ (s.now - since).toNat →
      ∃ t, exec .controlIntervalExpiry s = .next t ∧ swapped t .cool ∧
        t.cooling.interval = some s.now) ∧
    ((s.table .grid).state = .committed → s.sequencer.hold = true → s.anySwitching = false →
      s.grantable = none → swapped (settle s) .grid))

/-! ## Site link (chapter 11) -/

/-- What arrives and leaves on the site link. DOWNWARD_FRAME (R178, R179, R180, R185): the first
check that fails sets its flag; a valid frame restarts the site silence timer and clears AUTONOMOUS;
a request joins the FIFO, or is answered BUSY from a full one, or sets REPLY_OVERRUN.
UNKNOWN_REQUEST is answered BAD_REQUEST. UPWARD_FRAME_SENT frees the link, and after the OK reply of
a RESET_PART the command reset is due (R184; that nothing further is granted then is the model's
choice, log entry 5). SITE_SILENCE_EXPIRY sets AUTONOMOUS and empties the connect queue. (The code
of a request's frame kind and the layout of its arguments are free, log entry 9.) -/
def Obligations.SiteLinkTraffic : Prop :=
  (∀ (f : DownFrame) (s : State),
    let valid : Prop := f.marker = 0xA5#8 ∧ f.malformed = false ∧ 1 ≤ f.length.toNat ∧
      f.length.toNat ≤ 2048 ∧ f.body.length = f.length.toNat ∧
      f.crc = crc16 (wordBytes f.length ++ f.body)
    let errors := s.site.linkErrors;
    (f.marker ≠ 0xA5#8 ∨ f.malformed = true → exec (.downwardFrame f) s = .next (arbitrate
      { s with site := { s.site with linkErrors := { errors with framing := true } } })) ∧
    (f.marker = 0xA5#8 → f.malformed = false →
      (f.length.toNat < 1 ∨ 2048 < f.length.toNat ∨ f.body.length ≠ f.length.toNat →
        exec (.downwardFrame f) s = .next (arbitrate
          { s with site := { s.site with linkErrors := { errors with length := true } } })) ∧
      (1 ≤ f.length.toNat → f.length.toNat ≤ 2048 → f.body.length = f.length.toNat →
        f.crc ≠ crc16 (wordBytes f.length ++ f.body) → exec (.downwardFrame f) s =
          .next (arbitrate
            { s with site := { s.site with linkErrors := { errors with crc := true } } }))) ∧
    (valid → ∃ t, exec (.downwardFrame f) s = .next t ∧ t.site.autonomous = false ∧
      t.site.silence = (if s.isActive .grid then some s.now else none) ∧
      ((∀ tag kind args, f.body ≠ Config.requestFrameKind :: tag :: kind :: args) →
        t.site.linkErrors = { errors with kind := true } ∧ t.site.fifo = s.site.fifo) ∧
      (∀ tag kind args, f.body = Config.requestFrameKind :: tag :: kind :: args →
        (s.site.fifo.length < 4 →
          t.site.fifo = s.site.fifo ++ [⟨tag, Config.parseRequest kind args⟩]) ∧
        (4 ≤ s.site.fifo.length → t.site.fifo = s.site.fifo ∧
          (s.site.replies.length < 8 → t.site.unsentReplies = s.site.unsentReplies ++
            [⟨tag, Config.parseRequest kind args, .busy, .nothing⟩]) ∧
          (8 ≤ s.site.replies.length →
            t.site.linkErrors = { errors with replyOverrun := true }))))) ∧
  (∀ (tag kind : Byte) (rest : List Tagged) (s : State), s.offers ⟨tag, .unknown kind⟩ rest →
    exec (.unknownRequest tag kind) s =
      .next (arbitrate (s.answered ⟨tag, .unknown kind⟩ rest .badRequest .nothing))) ∧
  (∀ (s : State) (f : UpFrame), s.site.link = some f →
    (s.site.reset = .taken → (∃ tag body, f = .reply ⟨tag, .resetPart, .ok, body⟩) →
      exec .upwardFrameSent s =
        .next { s with site := { s.site with link := none, reset := .due } }) ∧
    (s.site.reset ≠ .taken ∨ (∀ tag body, f ≠ .reply ⟨tag, .resetPart, .ok, body⟩) →
      exec .upwardFrameSent s =
        .next (arbitrate { s with site := { s.site with link := none } }))) ∧
  (∀ (s : State) (g : GridRecord) (w : PartTime), s.grid = some g → s.site.silence = some w →
    g.siteSilence * 1000 ≤ (s.now - w).toNat →
    (s.table .grid).state ≠ .committed →
    ∃ t, exec .siteSilenceExpiry s = .next t ∧ t.site.autonomous = true ∧
      t.site.silence = none ∧ t.sequencer.queue = [])

/-- SET_MODE, RESET_PART and READ_STATUS (R183, R184, R186). SET_MODE is judged in the order of R183 and,
taken, changes the mode. RESET_PART is taken while every rack is OPEN, LOCKED or FAULT and no release
pulse is under way, and no request is taken after it; otherwise it is BUSY. READ_STATUS carries the
part as it stands and then clears the link error flags and the error counts of the ring ends and of
the converter link. -/
def Obligations.ModeResetAndStatus : Prop :=
  (∀ (tag : Byte) (arg : ModeArg) (rest : List Tagged) (s : State),
    let x : Tagged := ⟨tag, .setMode arg⟩
    let refused (result : Result) : Prop :=
      exec (.setMode tag arg) s = .next (arbitrate (s.answered x rest result .nothing))
    let idle : Prop := (∀ r, s.rackState r = .opened ∨ s.rackState r = .locked) ∧
      s.fire.stage = .normal ∧ s.fire.gas = .clear
    s.offers x rest →
    (arg = .other → refused .badRequest) ∧
    (arg ≠ .other → s.site.mode = .unconfigured → refused .notConfigured) ∧
    (arg = .run → s.site.mode = .run → refused .already) ∧
    (arg = .standby → s.site.mode = .standby → refused .already) ∧
    (arg = .standby → s.site.mode = .run → ¬ idle → refused .wrongMode) ∧
    (arg = .standby → s.site.mode = .run → idle →
      ∃ t, exec (.setMode tag arg) s = .next t ∧ t.site.mode = .standby ∧
        t.cooling.level = 0 ∧ ∀ b ∈ t.balance.records, b.state ≠ .active) ∧
    (arg = .run → s.site.mode = .standby →
      ∃ t, exec (.setMode tag arg) s = .next t ∧ t.site.mode = .run ∧
        ∀ h, s.slotHeader = some h → t.ring.cycleLength = h.cycleLength)) ∧
  (∀ (tag : Byte) (rest : List Tagged) (s : State), s.offers ⟨tag, .resetPart⟩ rest →
    let free : Prop := s.fire.pulse = none ∧
      ∀ r, s.rackState r = .opened ∨ s.rackState r = .locked ∨ s.rackState r = .fault;
    (free → exec (.resetPart tag) s = .next (arbitrate
      (({ s with site := { s.site with reset := .taken } } : State).answered
        ⟨tag, .resetPart⟩ rest .ok .nothing))) ∧
    (¬ free → exec (.resetPart tag) s =
      .next (arbitrate (s.answered ⟨tag, .resetPart⟩ rest .busy .nothing)))) ∧
  (∀ (tag : Byte) (rest : List Tagged) (s : State), s.offers ⟨tag, .readStatus⟩ rest →
    exec (.readStatus tag) s = .next (arbitrate
      (({ s with
          ring := { s.ring with
            endA := { s.ring.endA with errors := .zero }
            endB := { s.ring.endB with errors := .zero } }
          converter := { s.converter with framingErrors := 0, crcErrors := 0, rangeErrors := 0 }
          site := { s.site with linkErrors := .clear } } : State).answered
        ⟨tag, .readStatus⟩ rest .ok
        (.status (statusReportOf ({ s with site := { s.site with fifo := rest } } : State))))))
end

