-- ==== Sys2Proof/Laws/State.lean ====
section
/-!
SUPPORT. What an update of a part of State leaves in each field: one lemma for each field of each
update, true by rfl, so that no later proof unfolds a record update; and the same for the fixed-size
families of racks, outputs, lines and tables.
-/

namespace Sys2Proof.Machine

/-! ## Fixed-size families -/


@[simp] theorem PerRack.get_set_self {α : Type} (p : PerRack α) (r : Rack) (x : α) :
    (p.set r x).get r = x := by cases r <;> rfl

@[simp] theorem PerRack.get_set_ne {α : Type} (p : PerRack α) {r k : Rack} (x : α) (h : k ≠ r) :
    (p.set r x).get k = p.get k := by
  cases r <;> cases k <;> first | rfl | exact absurd rfl h

theorem PerRack.get_set {α : Type} (p : PerRack α) (r k : Rack) (x : α) :
    (p.set r x).get k = if k = r then x else p.get k := by
  by_cases h : k = r
  · subst h; simp
  · simp [h]

@[simp] theorem PerRack.get_fill {α : Type} (x : α) (r : Rack) : (PerRack.fill x).get r = x := by
  cases r <;> rfl

@[simp] theorem PerRack.get_mapWith {α β : Type} (f : Rack → α → β) (p : PerRack α) (r : Rack) :
    (p.mapWith f).get r = f r (p.get r) := by cases r <;> rfl

@[simp] theorem PerRack.set_get {α : Type} (p : PerRack α) (r : Rack) : p.set r (p.get r) = p := by
  cases r <;> rfl

@[simp] theorem PerRack.set_set {α : Type} (p : PerRack α) (r : Rack) (x y : α) :
    (p.set r x).set r y = p.set r y := by cases r <;> rfl

/-- Two families with the same members are the same. -/
theorem PerRack.ext_get {α : Type} {p q : PerRack α} (h : ∀ r, p.get r = q.get r) : p = q := by
  cases p; cases q
  simp only [PerRack.mk.injEq]
  exact ⟨h .r1, h .r2, h .r3, h .r4⟩


@[simp] theorem PerOutput.get_set_self {α : Type} (p : PerOutput α) (o : Output) (x : α) :
    (p.set o x).get o = x := by cases o <;> rfl

@[simp] theorem PerOutput.get_set_ne {α : Type} (p : PerOutput α) {o k : Output} (x : α) (h : k ≠ o) :
    (p.set o x).get k = p.get k := by
  cases o <;> cases k <;> first | rfl | exact absurd rfl h

theorem PerOutput.get_set {α : Type} (p : PerOutput α) (o k : Output) (x : α) :
    (p.set o x).get k = if k = o then x else p.get k := by
  by_cases h : k = o
  · subst h; simp
  · simp [h]

@[simp] theorem PerOutput.get_fill {α : Type} (x : α) (o : Output) : (PerOutput.fill x).get o = x := by
  cases o <;> rfl

@[simp] theorem PerOutput.get_mapWith {α β : Type} (f : Output → α → β) (p : PerOutput α) (o : Output) :
    (p.mapWith f).get o = f o (p.get o) := by cases o <;> rfl

@[simp] theorem PerOutput.set_get {α : Type} (p : PerOutput α) (o : Output) : p.set o (p.get o) = p := by
  cases o <;> rfl

@[simp] theorem PerOutput.set_set {α : Type} (p : PerOutput α) (o : Output) (x y : α) :
    (p.set o x).set o y = p.set o y := by cases o <;> rfl

/-- Two families with the same members are the same. -/
theorem PerOutput.ext_get {α : Type} {p q : PerOutput α} (h : ∀ o, p.get o = q.get o) : p = q := by
  cases p; cases q
  simp only [PerOutput.mk.injEq]
  exact ⟨h .pump, h .fan1, h .fan2, h .fan3, h .compressor1, h .compressor2, h .heater, h .exhaust⟩


@[simp] theorem PerLine.get_set_self {α : Type} (p : PerLine α) (l : Line) (x : α) :
    (p.set l x).get l = x := by cases l <;> rfl

@[simp] theorem PerLine.get_set_ne {α : Type} (p : PerLine α) {l k : Line} (x : α) (h : k ≠ l) :
    (p.set l x).get k = p.get k := by
  cases l <;> cases k <;> first | rfl | exact absurd rfl h

theorem PerLine.get_set {α : Type} (p : PerLine α) (l k : Line) (x : α) :
    (p.set l x).get k = if k = l then x else p.get k := by
  by_cases h : k = l
  · subst h; simp
  · simp [h]

@[simp] theorem PerLine.get_fill {α : Type} (x : α) (l : Line) : (PerLine.fill x).get l = x := by
  cases l <;> rfl

@[simp] theorem PerLine.get_mapWith {α β : Type} (f : Line → α → β) (p : PerLine α) (l : Line) :
    (p.mapWith f).get l = f l (p.get l) := by cases l <;> rfl

@[simp] theorem PerLine.set_get {α : Type} (p : PerLine α) (l : Line) : p.set l (p.get l) = p := by
  cases l <;> rfl

@[simp] theorem PerLine.set_set {α : Type} (p : PerLine α) (l : Line) (x y : α) :
    (p.set l x).set l y = p.set l y := by cases l <;> rfl

/-- Two families with the same members are the same. -/
theorem PerLine.ext_get {α : Type} {p q : PerLine α} (h : ∀ l, p.get l = q.get l) : p = q := by
  cases p; cases q
  simp only [PerLine.mk.injEq]
  exact ⟨h .l1, h .l2, h .l3, h .l4, h .l5, h .l6, h .l7, h .l8, h .l9, h .l10, h .l11, h .l12⟩


@[simp] theorem PerTable.get_set_self {α : Type} (p : PerTable α) (t : TableName) (x : α) :
    (p.set t x).get t = x := by cases t <;> rfl

@[simp] theorem PerTable.get_set_ne {α : Type} (p : PerTable α) {t k : TableName} (x : α) (h : k ≠ t) :
    (p.set t x).get k = p.get k := by
  cases t <;> cases k <;> first | rfl | exact absurd rfl h

theorem PerTable.get_set {α : Type} (p : PerTable α) (t k : TableName) (x : α) :
    (p.set t x).get k = if k = t then x else p.get k := by
  by_cases h : k = t
  · subst h; simp
  · simp [h]

@[simp] theorem PerTable.get_fill {α : Type} (x : α) (t : TableName) : (PerTable.fill x).get t = x := by
  cases t <;> rfl

@[simp] theorem PerTable.get_mapWith {α β : Type} (f : TableName → α → β) (p : PerTable α) (t : TableName) :
    (p.mapWith f).get t = f t (p.get t) := by cases t <;> rfl

@[simp] theorem PerTable.set_get {α : Type} (p : PerTable α) (t : TableName) : p.set t (p.get t) = p := by
  cases t <;> rfl

@[simp] theorem PerTable.set_set {α : Type} (p : PerTable α) (t : TableName) (x y : α) :
    (p.set t x).set t y = p.set t y := by cases t <;> rfl

/-- Two families with the same members are the same. -/
theorem PerTable.ext_get {α : Type} {p q : PerTable α} (h : ∀ t, p.get t = q.get t) : p = q := by
  cases p; cases q
  simp only [PerTable.mk.injEq]
  exact ⟨h .slot, h .cal, h .tconv, h .limit, h .rack, h .derate, h .ocv, h .cool, h .fire, h .grid⟩


@[simp] theorem Rack.mem_all (r : Rack) : r ∈ Rack.all := by cases r <;> decide

@[simp] theorem Output.mem_all (o : Output) : o ∈ Output.all := by cases o <;> decide

@[simp] theorem Line.mem_all (l : Line) : l ∈ Line.all := by cases l <;> decide

@[simp] theorem TableName.mem_all (t : TableName) : t ∈ TableName.all := by cases t <;> decide

/-! ## One update per block -/


@[simp] theorem State.withNow_now (s : State) (x : PartTime) :
    (s.withNow x).now = x := rfl
@[simp] theorem State.withNow_ring (s : State) (x : PartTime) :
    (s.withNow x).ring = s.ring := rfl
@[simp] theorem State.withNow_samples (s : State) (x : PartTime) :
    (s.withNow x).samples = s.samples := rfl
@[simp] theorem State.withNow_limits (s : State) (x : PartTime) :
    (s.withNow x).limits = s.limits := rfl
@[simp] theorem State.withNow_balance (s : State) (x : PartTime) :
    (s.withNow x).balance = s.balance := rfl
@[simp] theorem State.withNow_cooling (s : State) (x : PartTime) :
    (s.withNow x).cooling = s.cooling := rfl
@[simp] theorem State.withNow_fire (s : State) (x : PartTime) :
    (s.withNow x).fire = s.fire := rfl
@[simp] theorem State.withNow_sequencer (s : State) (x : PartTime) :
    (s.withNow x).sequencer = s.sequencer := rfl
@[simp] theorem State.withNow_trips (s : State) (x : PartTime) :
    (s.withNow x).trips = s.trips := rfl
@[simp] theorem State.withNow_converter (s : State) (x : PartTime) :
    (s.withNow x).converter = s.converter := rfl
@[simp] theorem State.withNow_tables (s : State) (x : PartTime) :
    (s.withNow x).tables = s.tables := rfl
@[simp] theorem State.withNow_site (s : State) (x : PartTime) :
    (s.withNow x).site = s.site := rfl
@[simp] theorem State.withNow_choices (s : State) (x : PartTime) :
    (s.withNow x).choices = s.choices := rfl
@[simp] theorem State.withNow_pending (s : State) (x : PartTime) :
    (s.withNow x).pending = s.pending := rfl

@[simp] theorem State.withRing_now (s : State) (x : Ring) :
    (s.withRing x).now = s.now := rfl
@[simp] theorem State.withRing_ring (s : State) (x : Ring) :
    (s.withRing x).ring = x := rfl
@[simp] theorem State.withRing_samples (s : State) (x : Ring) :
    (s.withRing x).samples = s.samples := rfl
@[simp] theorem State.withRing_limits (s : State) (x : Ring) :
    (s.withRing x).limits = s.limits := rfl
@[simp] theorem State.withRing_balance (s : State) (x : Ring) :
    (s.withRing x).balance = s.balance := rfl
@[simp] theorem State.withRing_cooling (s : State) (x : Ring) :
    (s.withRing x).cooling = s.cooling := rfl
@[simp] theorem State.withRing_fire (s : State) (x : Ring) :
    (s.withRing x).fire = s.fire := rfl
@[simp] theorem State.withRing_sequencer (s : State) (x : Ring) :
    (s.withRing x).sequencer = s.sequencer := rfl
@[simp] theorem State.withRing_trips (s : State) (x : Ring) :
    (s.withRing x).trips = s.trips := rfl
@[simp] theorem State.withRing_converter (s : State) (x : Ring) :
    (s.withRing x).converter = s.converter := rfl
@[simp] theorem State.withRing_tables (s : State) (x : Ring) :
    (s.withRing x).tables = s.tables := rfl
@[simp] theorem State.withRing_site (s : State) (x : Ring) :
    (s.withRing x).site = s.site := rfl
@[simp] theorem State.withRing_choices (s : State) (x : Ring) :
    (s.withRing x).choices = s.choices := rfl
@[simp] theorem State.withRing_pending (s : State) (x : Ring) :
    (s.withRing x).pending = s.pending := rfl

@[simp] theorem State.withSamples_now (s : State) (x : Samples) :
    (s.withSamples x).now = s.now := rfl
@[simp] theorem State.withSamples_ring (s : State) (x : Samples) :
    (s.withSamples x).ring = s.ring := rfl
@[simp] theorem State.withSamples_samples (s : State) (x : Samples) :
    (s.withSamples x).samples = x := rfl
@[simp] theorem State.withSamples_limits (s : State) (x : Samples) :
    (s.withSamples x).limits = s.limits := rfl
@[simp] theorem State.withSamples_balance (s : State) (x : Samples) :
    (s.withSamples x).balance = s.balance := rfl
@[simp] theorem State.withSamples_cooling (s : State) (x : Samples) :
    (s.withSamples x).cooling = s.cooling := rfl
@[simp] theorem State.withSamples_fire (s : State) (x : Samples) :
    (s.withSamples x).fire = s.fire := rfl
@[simp] theorem State.withSamples_sequencer (s : State) (x : Samples) :
    (s.withSamples x).sequencer = s.sequencer := rfl
@[simp] theorem State.withSamples_trips (s : State) (x : Samples) :
    (s.withSamples x).trips = s.trips := rfl
@[simp] theorem State.withSamples_converter (s : State) (x : Samples) :
    (s.withSamples x).converter = s.converter := rfl
@[simp] theorem State.withSamples_tables (s : State) (x : Samples) :
    (s.withSamples x).tables = s.tables := rfl
@[simp] theorem State.withSamples_site (s : State) (x : Samples) :
    (s.withSamples x).site = s.site := rfl
@[simp] theorem State.withSamples_choices (s : State) (x : Samples) :
    (s.withSamples x).choices = s.choices := rfl
@[simp] theorem State.withSamples_pending (s : State) (x : Samples) :
    (s.withSamples x).pending = s.pending := rfl

@[simp] theorem State.withLimits_now (s : State) (x : Limits) :
    (s.withLimits x).now = s.now := rfl
@[simp] theorem State.withLimits_ring (s : State) (x : Limits) :
    (s.withLimits x).ring = s.ring := rfl
@[simp] theorem State.withLimits_samples (s : State) (x : Limits) :
    (s.withLimits x).samples = s.samples := rfl
@[simp] theorem State.withLimits_limits (s : State) (x : Limits) :
    (s.withLimits x).limits = x := rfl
@[simp] theorem State.withLimits_balance (s : State) (x : Limits) :
    (s.withLimits x).balance = s.balance := rfl
@[simp] theorem State.withLimits_cooling (s : State) (x : Limits) :
    (s.withLimits x).cooling = s.cooling := rfl
@[simp] theorem State.withLimits_fire (s : State) (x : Limits) :
    (s.withLimits x).fire = s.fire := rfl
@[simp] theorem State.withLimits_sequencer (s : State) (x : Limits) :
    (s.withLimits x).sequencer = s.sequencer := rfl
@[simp] theorem State.withLimits_trips (s : State) (x : Limits) :
    (s.withLimits x).trips = s.trips := rfl
@[simp] theorem State.withLimits_converter (s : State) (x : Limits) :
    (s.withLimits x).converter = s.converter := rfl
@[simp] theorem State.withLimits_tables (s : State) (x : Limits) :
    (s.withLimits x).tables = s.tables := rfl
@[simp] theorem State.withLimits_site (s : State) (x : Limits) :
    (s.withLimits x).site = s.site := rfl
@[simp] theorem State.withLimits_choices (s : State) (x : Limits) :
    (s.withLimits x).choices = s.choices := rfl
@[simp] theorem State.withLimits_pending (s : State) (x : Limits) :
    (s.withLimits x).pending = s.pending := rfl

@[simp] theorem State.withBalance_now (s : State) (x : Balance) :
    (s.withBalance x).now = s.now := rfl
@[simp] theorem State.withBalance_ring (s : State) (x : Balance) :
    (s.withBalance x).ring = s.ring := rfl
@[simp] theorem State.withBalance_samples (s : State) (x : Balance) :
    (s.withBalance x).samples = s.samples := rfl
@[simp] theorem State.withBalance_limits (s : State) (x : Balance) :
    (s.withBalance x).limits = s.limits := rfl
@[simp] theorem State.withBalance_balance (s : State) (x : Balance) :
    (s.withBalance x).balance = x := rfl
@[simp] theorem State.withBalance_cooling (s : State) (x : Balance) :
    (s.withBalance x).cooling = s.cooling := rfl
@[simp] theorem State.withBalance_fire (s : State) (x : Balance) :
    (s.withBalance x).fire = s.fire := rfl
@[simp] theorem State.withBalance_sequencer (s : State) (x : Balance) :
    (s.withBalance x).sequencer = s.sequencer := rfl
@[simp] theorem State.withBalance_trips (s : State) (x : Balance) :
    (s.withBalance x).trips = s.trips := rfl
@[simp] theorem State.withBalance_converter (s : State) (x : Balance) :
    (s.withBalance x).converter = s.converter := rfl
@[simp] theorem State.withBalance_tables (s : State) (x : Balance) :
    (s.withBalance x).tables = s.tables := rfl
@[simp] theorem State.withBalance_site (s : State) (x : Balance) :
    (s.withBalance x).site = s.site := rfl
@[simp] theorem State.withBalance_choices (s : State) (x : Balance) :
    (s.withBalance x).choices = s.choices := rfl
@[simp] theorem State.withBalance_pending (s : State) (x : Balance) :
    (s.withBalance x).pending = s.pending := rfl

@[simp] theorem State.withCooling_now (s : State) (x : Cooling) :
    (s.withCooling x).now = s.now := rfl
@[simp] theorem State.withCooling_ring (s : State) (x : Cooling) :
    (s.withCooling x).ring = s.ring := rfl
@[simp] theorem State.withCooling_samples (s : State) (x : Cooling) :
    (s.withCooling x).samples = s.samples := rfl
@[simp] theorem State.withCooling_limits (s : State) (x : Cooling) :
    (s.withCooling x).limits = s.limits := rfl
@[simp] theorem State.withCooling_balance (s : State) (x : Cooling) :
    (s.withCooling x).balance = s.balance := rfl
@[simp] theorem State.withCooling_cooling (s : State) (x : Cooling) :
    (s.withCooling x).cooling = x := rfl
@[simp] theorem State.withCooling_fire (s : State) (x : Cooling) :
    (s.withCooling x).fire = s.fire := rfl
@[simp] theorem State.withCooling_sequencer (s : State) (x : Cooling) :
    (s.withCooling x).sequencer = s.sequencer := rfl
@[simp] theorem State.withCooling_trips (s : State) (x : Cooling) :
    (s.withCooling x).trips = s.trips := rfl
@[simp] theorem State.withCooling_converter (s : State) (x : Cooling) :
    (s.withCooling x).converter = s.converter := rfl
@[simp] theorem State.withCooling_tables (s : State) (x : Cooling) :
    (s.withCooling x).tables = s.tables := rfl
@[simp] theorem State.withCooling_site (s : State) (x : Cooling) :
    (s.withCooling x).site = s.site := rfl
@[simp] theorem State.withCooling_choices (s : State) (x : Cooling) :
    (s.withCooling x).choices = s.choices := rfl
@[simp] theorem State.withCooling_pending (s : State) (x : Cooling) :
    (s.withCooling x).pending = s.pending := rfl

@[simp] theorem State.withFire_now (s : State) (x : Fire) :
    (s.withFire x).now = s.now := rfl
@[simp] theorem State.withFire_ring (s : State) (x : Fire) :
    (s.withFire x).ring = s.ring := rfl
@[simp] theorem State.withFire_samples (s : State) (x : Fire) :
    (s.withFire x).samples = s.samples := rfl
@[simp] theorem State.withFire_limits (s : State) (x : Fire) :
    (s.withFire x).limits = s.limits := rfl
@[simp] theorem State.withFire_balance (s : State) (x : Fire) :
    (s.withFire x).balance = s.balance := rfl
@[simp] theorem State.withFire_cooling (s : State) (x : Fire) :
    (s.withFire x).cooling = s.cooling := rfl
@[simp] theorem State.withFire_fire (s : State) (x : Fire) :
    (s.withFire x).fire = x := rfl
@[simp] theorem State.withFire_sequencer (s : State) (x : Fire) :
    (s.withFire x).sequencer = s.sequencer := rfl
@[simp] theorem State.withFire_trips (s : State) (x : Fire) :
    (s.withFire x).trips = s.trips := rfl
@[simp] theorem State.withFire_converter (s : State) (x : Fire) :
    (s.withFire x).converter = s.converter := rfl
@[simp] theorem State.withFire_tables (s : State) (x : Fire) :
    (s.withFire x).tables = s.tables := rfl
@[simp] theorem State.withFire_site (s : State) (x : Fire) :
    (s.withFire x).site = s.site := rfl
@[simp] theorem State.withFire_choices (s : State) (x : Fire) :
    (s.withFire x).choices = s.choices := rfl
@[simp] theorem State.withFire_pending (s : State) (x : Fire) :
    (s.withFire x).pending = s.pending := rfl

@[simp] theorem State.withSequencer_now (s : State) (x : Sequencer) :
    (s.withSequencer x).now = s.now := rfl
@[simp] theorem State.withSequencer_ring (s : State) (x : Sequencer) :
    (s.withSequencer x).ring = s.ring := rfl
@[simp] theorem State.withSequencer_samples (s : State) (x : Sequencer) :
    (s.withSequencer x).samples = s.samples := rfl
@[simp] theorem State.withSequencer_limits (s : State) (x : Sequencer) :
    (s.withSequencer x).limits = s.limits := rfl
@[simp] theorem State.withSequencer_balance (s : State) (x : Sequencer) :
    (s.withSequencer x).balance = s.balance := rfl
@[simp] theorem State.withSequencer_cooling (s : State) (x : Sequencer) :
    (s.withSequencer x).cooling = s.cooling := rfl
@[simp] theorem State.withSequencer_fire (s : State) (x : Sequencer) :
    (s.withSequencer x).fire = s.fire := rfl
@[simp] theorem State.withSequencer_sequencer (s : State) (x : Sequencer) :
    (s.withSequencer x).sequencer = x := rfl
@[simp] theorem State.withSequencer_trips (s : State) (x : Sequencer) :
    (s.withSequencer x).trips = s.trips := rfl
@[simp] theorem State.withSequencer_converter (s : State) (x : Sequencer) :
    (s.withSequencer x).converter = s.converter := rfl
@[simp] theorem State.withSequencer_tables (s : State) (x : Sequencer) :
    (s.withSequencer x).tables = s.tables := rfl
@[simp] theorem State.withSequencer_site (s : State) (x : Sequencer) :
    (s.withSequencer x).site = s.site := rfl
@[simp] theorem State.withSequencer_choices (s : State) (x : Sequencer) :
    (s.withSequencer x).choices = s.choices := rfl
@[simp] theorem State.withSequencer_pending (s : State) (x : Sequencer) :
    (s.withSequencer x).pending = s.pending := rfl

@[simp] theorem State.withTrips_now (s : State) (x : Trips) :
    (s.withTrips x).now = s.now := rfl
@[simp] theorem State.withTrips_ring (s : State) (x : Trips) :
    (s.withTrips x).ring = s.ring := rfl
@[simp] theorem State.withTrips_samples (s : State) (x : Trips) :
    (s.withTrips x).samples = s.samples := rfl
@[simp] theorem State.withTrips_limits (s : State) (x : Trips) :
    (s.withTrips x).limits = s.limits := rfl
@[simp] theorem State.withTrips_balance (s : State) (x : Trips) :
    (s.withTrips x).balance = s.balance := rfl
@[simp] theorem State.withTrips_cooling (s : State) (x : Trips) :
    (s.withTrips x).cooling = s.cooling := rfl
@[simp] theorem State.withTrips_fire (s : State) (x : Trips) :
    (s.withTrips x).fire = s.fire := rfl
@[simp] theorem State.withTrips_sequencer (s : State) (x : Trips) :
    (s.withTrips x).sequencer = s.sequencer := rfl
@[simp] theorem State.withTrips_trips (s : State) (x : Trips) :
    (s.withTrips x).trips = x := rfl
@[simp] theorem State.withTrips_converter (s : State) (x : Trips) :
    (s.withTrips x).converter = s.converter := rfl
@[simp] theorem State.withTrips_tables (s : State) (x : Trips) :
    (s.withTrips x).tables = s.tables := rfl
@[simp] theorem State.withTrips_site (s : State) (x : Trips) :
    (s.withTrips x).site = s.site := rfl
@[simp] theorem State.withTrips_choices (s : State) (x : Trips) :
    (s.withTrips x).choices = s.choices := rfl
@[simp] theorem State.withTrips_pending (s : State) (x : Trips) :
    (s.withTrips x).pending = s.pending := rfl

@[simp] theorem State.withConverter_now (s : State) (x : Converter) :
    (s.withConverter x).now = s.now := rfl
@[simp] theorem State.withConverter_ring (s : State) (x : Converter) :
    (s.withConverter x).ring = s.ring := rfl
@[simp] theorem State.withConverter_samples (s : State) (x : Converter) :
    (s.withConverter x).samples = s.samples := rfl
@[simp] theorem State.withConverter_limits (s : State) (x : Converter) :
    (s.withConverter x).limits = s.limits := rfl
@[simp] theorem State.withConverter_balance (s : State) (x : Converter) :
    (s.withConverter x).balance = s.balance := rfl
@[simp] theorem State.withConverter_cooling (s : State) (x : Converter) :
    (s.withConverter x).cooling = s.cooling := rfl
@[simp] theorem State.withConverter_fire (s : State) (x : Converter) :
    (s.withConverter x).fire = s.fire := rfl
@[simp] theorem State.withConverter_sequencer (s : State) (x : Converter) :
    (s.withConverter x).sequencer = s.sequencer := rfl
@[simp] theorem State.withConverter_trips (s : State) (x : Converter) :
    (s.withConverter x).trips = s.trips := rfl
@[simp] theorem State.withConverter_converter (s : State) (x : Converter) :
    (s.withConverter x).converter = x := rfl
@[simp] theorem State.withConverter_tables (s : State) (x : Converter) :
    (s.withConverter x).tables = s.tables := rfl
@[simp] theorem State.withConverter_site (s : State) (x : Converter) :
    (s.withConverter x).site = s.site := rfl
@[simp] theorem State.withConverter_choices (s : State) (x : Converter) :
    (s.withConverter x).choices = s.choices := rfl
@[simp] theorem State.withConverter_pending (s : State) (x : Converter) :
    (s.withConverter x).pending = s.pending := rfl

@[simp] theorem State.withTables_now (s : State) (x : Tables) :
    (s.withTables x).now = s.now := rfl
@[simp] theorem State.withTables_ring (s : State) (x : Tables) :
    (s.withTables x).ring = s.ring := rfl
@[simp] theorem State.withTables_samples (s : State) (x : Tables) :
    (s.withTables x).samples = s.samples := rfl
@[simp] theorem State.withTables_limits (s : State) (x : Tables) :
    (s.withTables x).limits = s.limits := rfl
@[simp] theorem State.withTables_balance (s : State) (x : Tables) :
    (s.withTables x).balance = s.balance := rfl
@[simp] theorem State.withTables_cooling (s : State) (x : Tables) :
    (s.withTables x).cooling = s.cooling := rfl
@[simp] theorem State.withTables_fire (s : State) (x : Tables) :
    (s.withTables x).fire = s.fire := rfl
@[simp] theorem State.withTables_sequencer (s : State) (x : Tables) :
    (s.withTables x).sequencer = s.sequencer := rfl
@[simp] theorem State.withTables_trips (s : State) (x : Tables) :
    (s.withTables x).trips = s.trips := rfl
@[simp] theorem State.withTables_converter (s : State) (x : Tables) :
    (s.withTables x).converter = s.converter := rfl
@[simp] theorem State.withTables_tables (s : State) (x : Tables) :
    (s.withTables x).tables = x := rfl
@[simp] theorem State.withTables_site (s : State) (x : Tables) :
    (s.withTables x).site = s.site := rfl
@[simp] theorem State.withTables_choices (s : State) (x : Tables) :
    (s.withTables x).choices = s.choices := rfl
@[simp] theorem State.withTables_pending (s : State) (x : Tables) :
    (s.withTables x).pending = s.pending := rfl

@[simp] theorem State.withSite_now (s : State) (x : Site) :
    (s.withSite x).now = s.now := rfl
@[simp] theorem State.withSite_ring (s : State) (x : Site) :
    (s.withSite x).ring = s.ring := rfl
@[simp] theorem State.withSite_samples (s : State) (x : Site) :
    (s.withSite x).samples = s.samples := rfl
@[simp] theorem State.withSite_limits (s : State) (x : Site) :
    (s.withSite x).limits = s.limits := rfl
@[simp] theorem State.withSite_balance (s : State) (x : Site) :
    (s.withSite x).balance = s.balance := rfl
@[simp] theorem State.withSite_cooling (s : State) (x : Site) :
    (s.withSite x).cooling = s.cooling := rfl
@[simp] theorem State.withSite_fire (s : State) (x : Site) :
    (s.withSite x).fire = s.fire := rfl
@[simp] theorem State.withSite_sequencer (s : State) (x : Site) :
    (s.withSite x).sequencer = s.sequencer := rfl
@[simp] theorem State.withSite_trips (s : State) (x : Site) :
    (s.withSite x).trips = s.trips := rfl
@[simp] theorem State.withSite_converter (s : State) (x : Site) :
    (s.withSite x).converter = s.converter := rfl
@[simp] theorem State.withSite_tables (s : State) (x : Site) :
    (s.withSite x).tables = s.tables := rfl
@[simp] theorem State.withSite_site (s : State) (x : Site) :
    (s.withSite x).site = x := rfl
@[simp] theorem State.withSite_choices (s : State) (x : Site) :
    (s.withSite x).choices = s.choices := rfl
@[simp] theorem State.withSite_pending (s : State) (x : Site) :
    (s.withSite x).pending = s.pending := rfl

@[simp] theorem State.withChoices_now (s : State) (x : Nat) :
    (s.withChoices x).now = s.now := rfl
@[simp] theorem State.withChoices_ring (s : State) (x : Nat) :
    (s.withChoices x).ring = s.ring := rfl
@[simp] theorem State.withChoices_samples (s : State) (x : Nat) :
    (s.withChoices x).samples = s.samples := rfl
@[simp] theorem State.withChoices_limits (s : State) (x : Nat) :
    (s.withChoices x).limits = s.limits := rfl
@[simp] theorem State.withChoices_balance (s : State) (x : Nat) :
    (s.withChoices x).balance = s.balance := rfl
@[simp] theorem State.withChoices_cooling (s : State) (x : Nat) :
    (s.withChoices x).cooling = s.cooling := rfl
@[simp] theorem State.withChoices_fire (s : State) (x : Nat) :
    (s.withChoices x).fire = s.fire := rfl
@[simp] theorem State.withChoices_sequencer (s : State) (x : Nat) :
    (s.withChoices x).sequencer = s.sequencer := rfl
@[simp] theorem State.withChoices_trips (s : State) (x : Nat) :
    (s.withChoices x).trips = s.trips := rfl
@[simp] theorem State.withChoices_converter (s : State) (x : Nat) :
    (s.withChoices x).converter = s.converter := rfl
@[simp] theorem State.withChoices_tables (s : State) (x : Nat) :
    (s.withChoices x).tables = s.tables := rfl
@[simp] theorem State.withChoices_site (s : State) (x : Nat) :
    (s.withChoices x).site = s.site := rfl
@[simp] theorem State.withChoices_choices (s : State) (x : Nat) :
    (s.withChoices x).choices = x := rfl
@[simp] theorem State.withChoices_pending (s : State) (x : Nat) :
    (s.withChoices x).pending = s.pending := rfl

@[simp] theorem State.withPending_now (s : State) (x : List Instr) :
    (s.withPending x).now = s.now := rfl
@[simp] theorem State.withPending_ring (s : State) (x : List Instr) :
    (s.withPending x).ring = s.ring := rfl
@[simp] theorem State.withPending_samples (s : State) (x : List Instr) :
    (s.withPending x).samples = s.samples := rfl
@[simp] theorem State.withPending_limits (s : State) (x : List Instr) :
    (s.withPending x).limits = s.limits := rfl
@[simp] theorem State.withPending_balance (s : State) (x : List Instr) :
    (s.withPending x).balance = s.balance := rfl
@[simp] theorem State.withPending_cooling (s : State) (x : List Instr) :
    (s.withPending x).cooling = s.cooling := rfl
@[simp] theorem State.withPending_fire (s : State) (x : List Instr) :
    (s.withPending x).fire = s.fire := rfl
@[simp] theorem State.withPending_sequencer (s : State) (x : List Instr) :
    (s.withPending x).sequencer = s.sequencer := rfl
@[simp] theorem State.withPending_trips (s : State) (x : List Instr) :
    (s.withPending x).trips = s.trips := rfl
@[simp] theorem State.withPending_converter (s : State) (x : List Instr) :
    (s.withPending x).converter = s.converter := rfl
@[simp] theorem State.withPending_tables (s : State) (x : List Instr) :
    (s.withPending x).tables = s.tables := rfl
@[simp] theorem State.withPending_site (s : State) (x : List Instr) :
    (s.withPending x).site = s.site := rfl
@[simp] theorem State.withPending_choices (s : State) (x : List Instr) :
    (s.withPending x).choices = s.choices := rfl
@[simp] theorem State.withPending_pending (s : State) (x : List Instr) :
    (s.withPending x).pending = x := rfl

/-! ## One update per rack, output, line and table -/

@[simp] theorem State.setRackSamples_now (s : State) (r : Rack) (x : RackSamples) :
    (s.setRackSamples r x).now = s.now := rfl
@[simp] theorem State.setRackSamples_ring (s : State) (r : Rack) (x : RackSamples) :
    (s.setRackSamples r x).ring = s.ring := rfl
@[simp] theorem State.setRackSamples_samples (s : State) (r : Rack) (x : RackSamples) :
    (s.setRackSamples r x).samples = { s.samples with racks := s.samples.racks.set r x } := rfl
@[simp] theorem State.setRackSamples_limits (s : State) (r : Rack) (x : RackSamples) :
    (s.setRackSamples r x).limits = s.limits := rfl
@[simp] theorem State.setRackSamples_balance (s : State) (r : Rack) (x : RackSamples) :
    (s.setRackSamples r x).balance = s.balance := rfl
@[simp] theorem State.setRackSamples_cooling (s : State) (r : Rack) (x : RackSamples) :
    (s.setRackSamples r x).cooling = s.cooling := rfl
@[simp] theorem State.setRackSamples_fire (s : State) (r : Rack) (x : RackSamples) :
    (s.setRackSamples r x).fire = s.fire := rfl
@[simp] theorem State.setRackSamples_sequencer (s : State) (r : Rack) (x : RackSamples) :
    (s.setRackSamples r x).sequencer = s.sequencer := rfl
@[simp] theorem State.setRackSamples_trips (s : State) (r : Rack) (x : RackSamples) :
    (s.setRackSamples r x).trips = s.trips := rfl
@[simp] theorem State.setRackSamples_converter (s : State) (r : Rack) (x : RackSamples) :
    (s.setRackSamples r x).converter = s.converter := rfl
@[simp] theorem State.setRackSamples_tables (s : State) (r : Rack) (x : RackSamples) :
    (s.setRackSamples r x).tables = s.tables := rfl
@[simp] theorem State.setRackSamples_site (s : State) (r : Rack) (x : RackSamples) :
    (s.setRackSamples r x).site = s.site := rfl
@[simp] theorem State.setRackSamples_choices (s : State) (r : Rack) (x : RackSamples) :
    (s.setRackSamples r x).choices = s.choices := rfl
@[simp] theorem State.setRackSamples_pending (s : State) (r : Rack) (x : RackSamples) :
    (s.setRackSamples r x).pending = s.pending := rfl

@[simp] theorem State.setRackCharge_now (s : State) (r : Rack) (x : RackCharge) :
    (s.setRackCharge r x).now = s.now := rfl
@[simp] theorem State.setRackCharge_ring (s : State) (r : Rack) (x : RackCharge) :
    (s.setRackCharge r x).ring = s.ring := rfl
@[simp] theorem State.setRackCharge_samples (s : State) (r : Rack) (x : RackCharge) :
    (s.setRackCharge r x).samples = s.samples := rfl
@[simp] theorem State.setRackCharge_limits (s : State) (r : Rack) (x : RackCharge) :
    (s.setRackCharge r x).limits = { s.limits with racks := s.limits.racks.set r x } := rfl
@[simp] theorem State.setRackCharge_balance (s : State) (r : Rack) (x : RackCharge) :
    (s.setRackCharge r x).balance = s.balance := rfl
@[simp] theorem State.setRackCharge_cooling (s : State) (r : Rack) (x : RackCharge) :
    (s.setRackCharge r x).cooling = s.cooling := rfl
@[simp] theorem State.setRackCharge_fire (s : State) (r : Rack) (x : RackCharge) :
    (s.setRackCharge r x).fire = s.fire := rfl
@[simp] theorem State.setRackCharge_sequencer (s : State) (r : Rack) (x : RackCharge) :
    (s.setRackCharge r x).sequencer = s.sequencer := rfl
@[simp] theorem State.setRackCharge_trips (s : State) (r : Rack) (x : RackCharge) :
    (s.setRackCharge r x).trips = s.trips := rfl
@[simp] theorem State.setRackCharge_converter (s : State) (r : Rack) (x : RackCharge) :
    (s.setRackCharge r x).converter = s.converter := rfl
@[simp] theorem State.setRackCharge_tables (s : State) (r : Rack) (x : RackCharge) :
    (s.setRackCharge r x).tables = s.tables := rfl
@[simp] theorem State.setRackCharge_site (s : State) (r : Rack) (x : RackCharge) :
    (s.setRackCharge r x).site = s.site := rfl
@[simp] theorem State.setRackCharge_choices (s : State) (r : Rack) (x : RackCharge) :
    (s.setRackCharge r x).choices = s.choices := rfl
@[simp] theorem State.setRackCharge_pending (s : State) (r : Rack) (x : RackCharge) :
    (s.setRackCharge r x).pending = s.pending := rfl

@[simp] theorem State.setRackBalance_now (s : State) (r : Rack) (x : RackBalance) :
    (s.setRackBalance r x).now = s.now := rfl
@[simp] theorem State.setRackBalance_ring (s : State) (r : Rack) (x : RackBalance) :
    (s.setRackBalance r x).ring = s.ring := rfl
@[simp] theorem State.setRackBalance_samples (s : State) (r : Rack) (x : RackBalance) :
    (s.setRackBalance r x).samples = s.samples := rfl
@[simp] theorem State.setRackBalance_limits (s : State) (r : Rack) (x : RackBalance) :
    (s.setRackBalance r x).limits = s.limits := rfl
@[simp] theorem State.setRackBalance_balance (s : State) (r : Rack) (x : RackBalance) :
    (s.setRackBalance r x).balance = { s.balance with racks := s.balance.racks.set r x } := rfl
@[simp] theorem State.setRackBalance_cooling (s : State) (r : Rack) (x : RackBalance) :
    (s.setRackBalance r x).cooling = s.cooling := rfl
@[simp] theorem State.setRackBalance_fire (s : State) (r : Rack) (x : RackBalance) :
    (s.setRackBalance r x).fire = s.fire := rfl
@[simp] theorem State.setRackBalance_sequencer (s : State) (r : Rack) (x : RackBalance) :
    (s.setRackBalance r x).sequencer = s.sequencer := rfl
@[simp] theorem State.setRackBalance_trips (s : State) (r : Rack) (x : RackBalance) :
    (s.setRackBalance r x).trips = s.trips := rfl
@[simp] theorem State.setRackBalance_converter (s : State) (r : Rack) (x : RackBalance) :
    (s.setRackBalance r x).converter = s.converter := rfl
@[simp] theorem State.setRackBalance_tables (s : State) (r : Rack) (x : RackBalance) :
    (s.setRackBalance r x).tables = s.tables := rfl
@[simp] theorem State.setRackBalance_site (s : State) (r : Rack) (x : RackBalance) :
    (s.setRackBalance r x).site = s.site := rfl
@[simp] theorem State.setRackBalance_choices (s : State) (r : Rack) (x : RackBalance) :
    (s.setRackBalance r x).choices = s.choices := rfl
@[simp] theorem State.setRackBalance_pending (s : State) (r : Rack) (x : RackBalance) :
    (s.setRackBalance r x).pending = s.pending := rfl

@[simp] theorem State.setRackSwitch_now (s : State) (r : Rack) (x : RackSwitch) :
    (s.setRackSwitch r x).now = s.now := rfl
@[simp] theorem State.setRackSwitch_ring (s : State) (r : Rack) (x : RackSwitch) :
    (s.setRackSwitch r x).ring = s.ring := rfl
@[simp] theorem State.setRackSwitch_samples (s : State) (r : Rack) (x : RackSwitch) :
    (s.setRackSwitch r x).samples = s.samples := rfl
@[simp] theorem State.setRackSwitch_limits (s : State) (r : Rack) (x : RackSwitch) :
    (s.setRackSwitch r x).limits = s.limits := rfl
@[simp] theorem State.setRackSwitch_balance (s : State) (r : Rack) (x : RackSwitch) :
    (s.setRackSwitch r x).balance = s.balance := rfl
@[simp] theorem State.setRackSwitch_cooling (s : State) (r : Rack) (x : RackSwitch) :
    (s.setRackSwitch r x).cooling = s.cooling := rfl
@[simp] theorem State.setRackSwitch_fire (s : State) (r : Rack) (x : RackSwitch) :
    (s.setRackSwitch r x).fire = s.fire := rfl
@[simp] theorem State.setRackSwitch_sequencer (s : State) (r : Rack) (x : RackSwitch) :
    (s.setRackSwitch r x).sequencer = { s.sequencer with racks := s.sequencer.racks.set r x } := rfl
@[simp] theorem State.setRackSwitch_trips (s : State) (r : Rack) (x : RackSwitch) :
    (s.setRackSwitch r x).trips = s.trips := rfl
@[simp] theorem State.setRackSwitch_converter (s : State) (r : Rack) (x : RackSwitch) :
    (s.setRackSwitch r x).converter = s.converter := rfl
@[simp] theorem State.setRackSwitch_tables (s : State) (r : Rack) (x : RackSwitch) :
    (s.setRackSwitch r x).tables = s.tables := rfl
@[simp] theorem State.setRackSwitch_site (s : State) (r : Rack) (x : RackSwitch) :
    (s.setRackSwitch r x).site = s.site := rfl
@[simp] theorem State.setRackSwitch_choices (s : State) (r : Rack) (x : RackSwitch) :
    (s.setRackSwitch r x).choices = s.choices := rfl
@[simp] theorem State.setRackSwitch_pending (s : State) (r : Rack) (x : RackSwitch) :
    (s.setRackSwitch r x).pending = s.pending := rfl

@[simp] theorem State.setRackLatches_now (s : State) (r : Rack) (x : RackLatches) :
    (s.setRackLatches r x).now = s.now := rfl
@[simp] theorem State.setRackLatches_ring (s : State) (r : Rack) (x : RackLatches) :
    (s.setRackLatches r x).ring = s.ring := rfl
@[simp] theorem State.setRackLatches_samples (s : State) (r : Rack) (x : RackLatches) :
    (s.setRackLatches r x).samples = s.samples := rfl
@[simp] theorem State.setRackLatches_limits (s : State) (r : Rack) (x : RackLatches) :
    (s.setRackLatches r x).limits = s.limits := rfl
@[simp] theorem State.setRackLatches_balance (s : State) (r : Rack) (x : RackLatches) :
    (s.setRackLatches r x).balance = s.balance := rfl
@[simp] theorem State.setRackLatches_cooling (s : State) (r : Rack) (x : RackLatches) :
    (s.setRackLatches r x).cooling = s.cooling := rfl
@[simp] theorem State.setRackLatches_fire (s : State) (r : Rack) (x : RackLatches) :
    (s.setRackLatches r x).fire = s.fire := rfl
@[simp] theorem State.setRackLatches_sequencer (s : State) (r : Rack) (x : RackLatches) :
    (s.setRackLatches r x).sequencer = s.sequencer := rfl
@[simp] theorem State.setRackLatches_trips (s : State) (r : Rack) (x : RackLatches) :
    (s.setRackLatches r x).trips = { s.trips with racks := s.trips.racks.set r x } := rfl
@[simp] theorem State.setRackLatches_converter (s : State) (r : Rack) (x : RackLatches) :
    (s.setRackLatches r x).converter = s.converter := rfl
@[simp] theorem State.setRackLatches_tables (s : State) (r : Rack) (x : RackLatches) :
    (s.setRackLatches r x).tables = s.tables := rfl
@[simp] theorem State.setRackLatches_site (s : State) (r : Rack) (x : RackLatches) :
    (s.setRackLatches r x).site = s.site := rfl
@[simp] theorem State.setRackLatches_choices (s : State) (r : Rack) (x : RackLatches) :
    (s.setRackLatches r x).choices = s.choices := rfl
@[simp] theorem State.setRackLatches_pending (s : State) (r : Rack) (x : RackLatches) :
    (s.setRackLatches r x).pending = s.pending := rfl

@[simp] theorem State.setOutput_now (s : State) (o : Output) (x : OutputState) :
    (s.setOutput o x).now = s.now := rfl
@[simp] theorem State.setOutput_ring (s : State) (o : Output) (x : OutputState) :
    (s.setOutput o x).ring = s.ring := rfl
@[simp] theorem State.setOutput_samples (s : State) (o : Output) (x : OutputState) :
    (s.setOutput o x).samples = s.samples := rfl
@[simp] theorem State.setOutput_limits (s : State) (o : Output) (x : OutputState) :
    (s.setOutput o x).limits = s.limits := rfl
@[simp] theorem State.setOutput_balance (s : State) (o : Output) (x : OutputState) :
    (s.setOutput o x).balance = s.balance := rfl
@[simp] theorem State.setOutput_cooling (s : State) (o : Output) (x : OutputState) :
    (s.setOutput o x).cooling = { s.cooling with outputs := s.cooling.outputs.set o x } := rfl
@[simp] theorem State.setOutput_fire (s : State) (o : Output) (x : OutputState) :
    (s.setOutput o x).fire = s.fire := rfl
@[simp] theorem State.setOutput_sequencer (s : State) (o : Output) (x : OutputState) :
    (s.setOutput o x).sequencer = s.sequencer := rfl
@[simp] theorem State.setOutput_trips (s : State) (o : Output) (x : OutputState) :
    (s.setOutput o x).trips = s.trips := rfl
@[simp] theorem State.setOutput_converter (s : State) (o : Output) (x : OutputState) :
    (s.setOutput o x).converter = s.converter := rfl
@[simp] theorem State.setOutput_tables (s : State) (o : Output) (x : OutputState) :
    (s.setOutput o x).tables = s.tables := rfl
@[simp] theorem State.setOutput_site (s : State) (o : Output) (x : OutputState) :
    (s.setOutput o x).site = s.site := rfl
@[simp] theorem State.setOutput_choices (s : State) (o : Output) (x : OutputState) :
    (s.setOutput o x).choices = s.choices := rfl
@[simp] theorem State.setOutput_pending (s : State) (o : Output) (x : OutputState) :
    (s.setOutput o x).pending = s.pending := rfl

@[simp] theorem State.setLine_now (s : State) (l : Line) (x : LineState) :
    (s.setLine l x).now = s.now := rfl
@[simp] theorem State.setLine_ring (s : State) (l : Line) (x : LineState) :
    (s.setLine l x).ring = s.ring := rfl
@[simp] theorem State.setLine_samples (s : State) (l : Line) (x : LineState) :
    (s.setLine l x).samples = s.samples := rfl
@[simp] theorem State.setLine_limits (s : State) (l : Line) (x : LineState) :
    (s.setLine l x).limits = s.limits := rfl
@[simp] theorem State.setLine_balance (s : State) (l : Line) (x : LineState) :
    (s.setLine l x).balance = s.balance := rfl
@[simp] theorem State.setLine_cooling (s : State) (l : Line) (x : LineState) :
    (s.setLine l x).cooling = s.cooling := rfl
@[simp] theorem State.setLine_fire (s : State) (l : Line) (x : LineState) :
    (s.setLine l x).fire = { s.fire with lines := s.fire.lines.set l x } := rfl
@[simp] theorem State.setLine_sequencer (s : State) (l : Line) (x : LineState) :
    (s.setLine l x).sequencer = s.sequencer := rfl
@[simp] theorem State.setLine_trips (s : State) (l : Line) (x : LineState) :
    (s.setLine l x).trips = s.trips := rfl
@[simp] theorem State.setLine_converter (s : State) (l : Line) (x : LineState) :
    (s.setLine l x).converter = s.converter := rfl
@[simp] theorem State.setLine_tables (s : State) (l : Line) (x : LineState) :
    (s.setLine l x).tables = s.tables := rfl
@[simp] theorem State.setLine_site (s : State) (l : Line) (x : LineState) :
    (s.setLine l x).site = s.site := rfl
@[simp] theorem State.setLine_choices (s : State) (l : Line) (x : LineState) :
    (s.setLine l x).choices = s.choices := rfl
@[simp] theorem State.setLine_pending (s : State) (l : Line) (x : LineState) :
    (s.setLine l x).pending = s.pending := rfl

@[simp] theorem State.setTable_now (s : State) (t : TableName) (x : TableState) :
    (s.setTable t x).now = s.now := rfl
@[simp] theorem State.setTable_ring (s : State) (t : TableName) (x : TableState) :
    (s.setTable t x).ring = s.ring := rfl
@[simp] theorem State.setTable_samples (s : State) (t : TableName) (x : TableState) :
    (s.setTable t x).samples = s.samples := rfl
@[simp] theorem State.setTable_limits (s : State) (t : TableName) (x : TableState) :
    (s.setTable t x).limits = s.limits := rfl
@[simp] theorem State.setTable_balance (s : State) (t : TableName) (x : TableState) :
    (s.setTable t x).balance = s.balance := rfl
@[simp] theorem State.setTable_cooling (s : State) (t : TableName) (x : TableState) :
    (s.setTable t x).cooling = s.cooling := rfl
@[simp] theorem State.setTable_fire (s : State) (t : TableName) (x : TableState) :
    (s.setTable t x).fire = s.fire := rfl
@[simp] theorem State.setTable_sequencer (s : State) (t : TableName) (x : TableState) :
    (s.setTable t x).sequencer = s.sequencer := rfl
@[simp] theorem State.setTable_trips (s : State) (t : TableName) (x : TableState) :
    (s.setTable t x).trips = s.trips := rfl
@[simp] theorem State.setTable_converter (s : State) (t : TableName) (x : TableState) :
    (s.setTable t x).converter = s.converter := rfl
@[simp] theorem State.setTable_tables (s : State) (t : TableName) (x : TableState) :
    (s.setTable t x).tables = { s.tables with tables := s.tables.tables.set t x } := rfl
@[simp] theorem State.setTable_site (s : State) (t : TableName) (x : TableState) :
    (s.setTable t x).site = s.site := rfl
@[simp] theorem State.setTable_choices (s : State) (t : TableName) (x : TableState) :
    (s.setTable t x).choices = s.choices := rfl
@[simp] theorem State.setTable_pending (s : State) (t : TableName) (x : TableState) :
    (s.setTable t x).pending = s.pending := rfl

/-! ## Reads across updates -/

/-- The state of a rack after its sequencer part is written. -/
theorem State.rackState_setRackSwitch (s : State) (r k : Rack) (x : RackSwitch) :
    (s.setRackSwitch r x).rackState k = if k = r then x.state else s.rackState k := by
  simp only [State.rackState, State.setRackSwitch_sequencer, PerRack.get_set]
  split <;> rfl

/-- A table after one is written. -/
theorem State.table_setTable (s : State) (t k : TableName) (x : TableState) :
    (s.setTable t x).table k = if k = t then x else s.table k := by
  simp only [State.table, State.setTable_tables, PerTable.get_set]

/-- Two states with the same parts are the same. -/
theorem State.ext_parts {s t : State} (h : ∀ b : Block, b.same s t) : t = s := by
  cases s; cases t
  simp only [State.mk.injEq]
  exact ⟨h .now, h .ring, h .samples, h .limits, h .balance, h .cooling, h .fire, h .sequencer, h .trips, h .converter, h .tables, h .site, h .choices, h .pending⟩

end Sys2Proof.Machine
end

