-- ==== Sys2Proof/Laws/Ops.lean ====
section
/-!
SUPPORT. What each shared operation of Machine/Ops.lean can do, said once: free choices, actions in no
order, posting, the reports, the arbiter, and taking a request. Later proofs cite these and do not
unfold the operations.
-/

namespace Sys2Proof.Machine

/-! ## Frames -/

theorem sameBut_refl (s : State) (A : List Block) : s.sameBut s A := by
  intro b _; cases b <;> rfl

/-- One list of parts lies in another, by inspection. -/
theorem blocks_subset {A C : List Block} (h : (A.all fun b => C.contains b) = true) : A ⊆ C := by
  intro b hb
  simpa using List.all_eq_true.1 h b hb

theorem sameBut_mono {s t : State} {A C : List Block} (h : s.sameBut t A) (hs : A ⊆ C) :
    s.sameBut t C := fun b hb => h b fun ha => hb (hs ha)

theorem sameBut_trans {s t u : State} {A : List Block} (h : s.sameBut t A) (k : t.sameBut u A) :
    s.sameBut u A := by
  intro b hb
  have h1 := h b hb
  have h2 := k b hb
  cases b <;> exact h2.trans h1

/-- A frame of one part of the way and a frame of the rest of it. -/
theorem sameBut_trans_mono {s t u : State} {A B C : List Block} (h : s.sameBut t A)
    (k : t.sameBut u B) (hA : A ⊆ C) (hB : B ⊆ C) : s.sameBut u C :=
  sameBut_trans (sameBut_mono h hA) (sameBut_mono k hB)

/-- With nothing touched the states are the same. -/
theorem sameBut_nil {s t : State} (h : s.sameBut t []) : t = s :=
  State.ext_parts fun b => h b (by simp)

theorem withRing_sameBut (s : State) (x : Ring) : s.sameBut (s.withRing x) [.ring] := by
  intro b hb; cases b <;> first | rfl | exact absurd (by simp) hb
theorem withSamples_sameBut (s : State) (x : Samples) : s.sameBut (s.withSamples x) [.samples] := by
  intro b hb; cases b <;> first | rfl | exact absurd (by simp) hb
theorem withLimits_sameBut (s : State) (x : Limits) : s.sameBut (s.withLimits x) [.limits] := by
  intro b hb; cases b <;> first | rfl | exact absurd (by simp) hb
theorem withBalance_sameBut (s : State) (x : Balance) : s.sameBut (s.withBalance x) [.balance] := by
  intro b hb; cases b <;> first | rfl | exact absurd (by simp) hb
theorem withCooling_sameBut (s : State) (x : Cooling) : s.sameBut (s.withCooling x) [.cooling] := by
  intro b hb; cases b <;> first | rfl | exact absurd (by simp) hb
theorem withFire_sameBut (s : State) (x : Fire) : s.sameBut (s.withFire x) [.fire] := by
  intro b hb; cases b <;> first | rfl | exact absurd (by simp) hb
theorem withSequencer_sameBut (s : State) (x : Sequencer) :
    s.sameBut (s.withSequencer x) [.sequencer] := by
  intro b hb; cases b <;> first | rfl | exact absurd (by simp) hb
theorem withTrips_sameBut (s : State) (x : Trips) : s.sameBut (s.withTrips x) [.trips] := by
  intro b hb; cases b <;> first | rfl | exact absurd (by simp) hb
theorem withConverter_sameBut (s : State) (x : Converter) :
    s.sameBut (s.withConverter x) [.converter] := by
  intro b hb; cases b <;> first | rfl | exact absurd (by simp) hb
theorem withTables_sameBut (s : State) (x : Tables) : s.sameBut (s.withTables x) [.tables] := by
  intro b hb; cases b <;> first | rfl | exact absurd (by simp) hb
theorem withSite_sameBut (s : State) (x : Site) : s.sameBut (s.withSite x) [.site] := by
  intro b hb; cases b <;> first | rfl | exact absurd (by simp) hb
theorem withNow_sameBut (s : State) (x : PartTime) : s.sameBut (s.withNow x) [.now] := by
  intro b hb; cases b <;> first | rfl | exact absurd (by simp) hb
theorem withChoices_sameBut (s : State) (x : Nat) : s.sameBut (s.withChoices x) [.choices] := by
  intro b hb; cases b <;> first | rfl | exact absurd (by simp) hb
theorem withPending_sameBut (s : State) (x : List Instr) : s.sameBut (s.withPending x) [.pending] := by
  intro b hb; cases b <;> first | rfl | exact absurd (by simp) hb

/-- A frame read from the other end: what is touched inside `A` does not show outside it. -/
theorem sameBut_step {s t u : State} {B A : List Block} (h : s.sameBut t B) (hB : B ⊆ A) :
    u.sameBut t A ↔ u.sameBut s A := by
  have hA := sameBut_mono h hB
  refine ⟨fun k b hb => ?_, fun k => sameBut_trans k hA⟩
  have h1 := hA b hb
  have h2 := k b hb
  cases b <;> exact h1.symm.trans h2

/-- A frame of a choice between two states. -/
theorem sameBut_ite {c : Prop} [Decidable c] {u s t : State} {A : List Block} :
    u.sameBut (if c then s else t) A ↔ if c then u.sameBut s A else u.sameBut t A := by
  split <;> rfl

/-! ## Free choices -/

/-- A choice among `n` lies below `n`, and only the count of choices moves. -/
theorem choose_spec (n : Nat) (s : State) :
    (choose n s).2 = s.withChoices (s.choices + 1) ∧ (0 < n → (choose n s).1 < n) :=
  ⟨rfl, fun h => Nat.mod_lt _ h⟩

/-- What holds of a state and of the count of choices moving, and is kept by every action, holds after
the actions whatever their order. -/
theorem inAnyOrder_keeps {P : State → Prop} (hc : ∀ s n, P s → P (s.withChoices n))
    {acts : List (State → State)} (ha : ∀ act ∈ acts, ∀ s, P s → P (act s)) {s : State} (hs : P s) :
    P (inAnyOrder acts s) := by
  have run : ∀ (fuel : Nat) (acts : List (State → State)) (s : State),
      (∀ act ∈ acts, ∀ s, P s → P (act s)) → P s → P (runAnyOrder fuel acts s) := by
    intro fuel
    induction fuel with
    | zero => intro acts s _ hs; exact hs
    | succ fuel ih =>
      intro acts s ha hs
      match acts with
      | [] => exact hs
      | [act] => exact ha act (by simp) s hs
      | a :: b :: rest =>
        simp only [runAnyOrder]
        split
        · next act hact =>
          refine ih _ _ (fun x hx => ha x (List.mem_of_mem_eraseIdx hx)) ?_
          exact ha act (List.mem_of_getElem? hact) _ (hc _ _ hs)
        · exact hc _ _ hs
  exact run _ _ _ ha hs

/-- A relation to the state before that holds of it, survives a choice and is kept by every action. -/
theorem inAnyOrder_sameBut {A : List Block} (hA : Block.choices ∈ A) {acts : List (State → State)}
    (ha : ∀ act ∈ acts, ∀ s : State, s.sameBut (act s) A) (s : State) :
    s.sameBut (inAnyOrder acts s) A :=
  inAnyOrder_keeps (P := fun t => s.sameBut t A)
    (fun t n h => sameBut_trans h (sameBut_mono (withChoices_sameBut t n) (by simpa using hA)))
    (fun act hact t h => sameBut_trans h (ha act hact t)) (sameBut_refl s A)

@[simp] theorem inAnyOrder_nil (s : State) : inAnyOrder [] s = s := rfl

@[simp] theorem inAnyOrder_one (act : State → State) (s : State) : inAnyOrder [act] s = act s := rfl

/-- The element picked is one of the list, a list that is not empty gives one, and only the count of
choices may move. -/
theorem pickFree_spec {α : Type} (xs : List α) (s : State) :
    (∀ x, (pickFree xs s).1 = some x → x ∈ xs) ∧ (xs ≠ [] → (pickFree xs s).1.isSome = true) ∧
      ((pickFree xs s).2 = s ∨ (pickFree xs s).2 = s.withChoices (s.choices + 1)) := by
  match xs with
  | [] => simp [pickFree]
  | [x] => simp [pickFree]
  | a :: b :: rest =>
    refine ⟨fun x hx => List.mem_of_getElem? hx, fun _ => ?_, .inr rfl⟩
    have := (choose_spec (a :: b :: rest).length s).2 (by simp)
    simp only [pickFree]
    rw [List.getElem?_eq_getElem this]
    rfl

theorem pickFree_sameBut {α : Type} (xs : List α) (s : State) :
    s.sameBut (pickFree xs s).2 [.choices] := by
  rcases (pickFree_spec xs s).2.2 with h | h <;> rw [h]
  · exact sameBut_refl _ _
  · exact withChoices_sameBut _ _

@[simp] theorem forRacks_nil (act : Rack → State → State) (s : State) : forRacks [] act s = s := rfl

@[simp] theorem forRacks_cons (r : Rack) (rs : List Rack) (act : Rack → State → State) (s : State) :
    forRacks (r :: rs) act s = forRacks rs act (act r s) := rfl

/-- What an action on each rack of a list keeps is kept by the whole. -/
theorem forRacks_keeps {P : State → Prop} {act : Rack → State → State} {racks : List Rack}
    (ha : ∀ r ∈ racks, ∀ s, P s → P (act r s)) {s : State} (hs : P s) : P (forRacks racks act s) := by
  induction racks generalizing s with
  | nil => exact hs
  | cons r rs ih => exact ih (fun k hk => ha k (by simp [hk])) (ha r (by simp) s hs)

theorem forRacks_sameBut {A : List Block} {act : Rack → State → State} {racks : List Rack}
    (ha : ∀ r ∈ racks, ∀ s : State, s.sameBut (act r s) A) (s : State) :
    s.sameBut (forRacks racks act s) A :=
  forRacks_keeps (P := fun t => s.sameBut t A)
    (fun r hr t h => sameBut_trans h (ha r hr t)) (sameBut_refl s A)

/-- What a left fold of state updates keeps. -/
theorem foldl_sameBut {α : Type} {A : List Block} {f : State → α → State} {xs : List α}
    (hf : ∀ s : State, ∀ x ∈ xs, s.sameBut (f s x) A) (s : State) : s.sameBut (xs.foldl f s) A := by
  induction xs generalizing s with
  | nil => exact sameBut_refl s A
  | cons x xs ih =>
    exact sameBut_trans (hf s x (by simp)) (ih (fun t y hy => hf t y (by simp [hy])) _)

/-! ## Updates of one rack, output, line or table -/

theorem setRackSamples_sameBut (s : State) (r : Rack) (x : RackSamples) :
    s.sameBut (s.setRackSamples r x) [.samples] := withSamples_sameBut s _
theorem setRackCharge_sameBut (s : State) (r : Rack) (x : RackCharge) :
    s.sameBut (s.setRackCharge r x) [.limits] := withLimits_sameBut s _
theorem setRackBalance_sameBut (s : State) (r : Rack) (x : RackBalance) :
    s.sameBut (s.setRackBalance r x) [.balance] := withBalance_sameBut s _
theorem setRackSwitch_sameBut (s : State) (r : Rack) (x : RackSwitch) :
    s.sameBut (s.setRackSwitch r x) [.sequencer] := withSequencer_sameBut s _
theorem setRackLatches_sameBut (s : State) (r : Rack) (x : RackLatches) :
    s.sameBut (s.setRackLatches r x) [.trips] := withTrips_sameBut s _
theorem setOutput_sameBut (s : State) (o : Output) (x : OutputState) :
    s.sameBut (s.setOutput o x) [.cooling] := withCooling_sameBut s _
theorem setLine_sameBut (s : State) (l : Line) (x : LineState) :
    s.sameBut (s.setLine l x) [.fire] := withFire_sameBut s _
theorem setTable_sameBut (s : State) (t : TableName) (x : TableState) :
    s.sameBut (s.setTable t x) [.tables] := withTables_sameBut s _

/-! ## Reports and events -/

theorem produceContainerSummary_sameBut (s : State) : s.sameBut (produceContainerSummary s) [.site] :=
  withSite_sameBut s _

/-- Producing a container summary fills its holding place and changes nothing else (R181). -/
theorem produceContainerSummary_spec (s : State) :
    (produceContainerSummary s).site =
      { s.site with containerPlace := some (containerSummaryOf s) } := rfl

theorem produceRackSummary_sameBut (r : Rack) (s : State) :
    s.sameBut (produceRackSummary r s) [.site, .limits] := by
  intro b hb; cases b <;> first | rfl | exact absurd (by simp) hb

theorem post_sameBut (e : Event) (s : State) : s.sameBut (post e s) [.site] := by
  unfold post
  split
  · exact withSite_sameBut s _
  · exact sameBut_trans (withSite_sameBut s _) (produceContainerSummary_sameBut _)

/-- What posting an event can do to the site link interface (R182): the counter advances, and the event
joins the queue or, from a full one, is dropped with EVENT_LOST and a container summary. -/
theorem post_spec (e : Event) (s : State) :
    (post e s).site.postCounter = s.site.postCounter + 1 ∧
      (post e s).site.fifo = s.site.fifo ∧ (post e s).site.replies = s.site.replies ∧
      (post e s).site.traces = s.site.traces ∧ (post e s).site.link = s.site.link ∧
      (post e s).site.linkErrors = s.site.linkErrors ∧ (post e s).site.mode = s.site.mode ∧
      (post e s).site.autonomous = s.site.autonomous ∧
      (post e s).site.silence = s.site.silence ∧ (post e s).site.reset = s.site.reset ∧
      (post e s).site.rackPlaces = s.site.rackPlaces ∧
      (post e s).site.pointer = s.site.pointer ∧
      (post e s).site.events =
        (if s.site.events.length < 32 then s.site.events ++ [⟨s.site.postCounter, s.now, e⟩]
          else s.site.events) := by
  unfold post
  split <;> simp [produceContainerSummary, State.withSite]

theorem postAll_sameBut (es : List Event) (s : State) : s.sameBut (postAll es s) [.site] :=
  foldl_sameBut (fun t e _ => post_sameBut e t) s

/-- Each of several events takes a number of the post counter. -/
theorem postAll_postCounter (es : List Event) (s : State) :
    (postAll es s).site.postCounter = s.site.postCounter + BitVec.ofNat 16 es.length := by
  induction es generalizing s with
  | nil => simp [postAll]
  | cons e es ih =>
    have h := ih (post e s)
    simp only [postAll, List.foldl_cons, List.length_cons] at h ⊢
    rw [h, (post_spec e s).1]
    rw [BitVec.add_assoc]
    congr 1
    apply BitVec.eq_of_toNat_eq
    simp [BitVec.toNat_add]
    omega

theorem queueTrace_sameBut (t : TraceReport) (s : State) : s.sameBut (queueTrace t s) [.site] := by
  unfold queueTrace
  split
  · exact withSite_sameBut s _
  · exact sameBut_refl s _

/-- A TRACE report joins its queue, or is dropped from a full one (R182). -/
theorem queueTrace_spec (t : TraceReport) (s : State) :
    (queueTrace t s).site =
      { s.site with
        traces := if s.site.traces.length < 16 then s.site.traces ++ [t] else s.site.traces } := by
  unfold queueTrace
  split <;> rfl

/-- A rack summary fills its place and the container's, and the rack's CHARGE_GAP mark is cleared (R51,
R181). -/
theorem produceRackSummary_spec (r : Rack) (s : State) :
    (produceRackSummary r s).site.rackPlaces = s.site.rackPlaces.set r (some (rackSummaryOf r s)) ∧
      (produceRackSummary r s).site.containerPlace.isSome = true ∧
      (produceRackSummary r s).limits =
        { s.limits with
          racks := s.limits.racks.set r { s.limits.racks.get r with gap := false } } :=
  ⟨rfl, rfl, rfl⟩

/-! ## The arbiter and the close of a step (R180) -/

theorem arbitrate_sameBut (s : State) : s.sameBut (arbitrate s) [.site] := by
  unfold arbitrate
  split
  · exact sameBut_refl s _
  · split
    · exact sameBut_refl s _
    · exact withSite_sameBut s _

theorem sendPlace_keeps (p : Place) (x : Site) :
    (sendPlace p x).fifo = x.fifo ∧ (sendPlace p x).replies = x.replies ∧
      (sendPlace p x).events = x.events ∧ (sendPlace p x).traces = x.traces ∧
      (sendPlace p x).linkErrors = x.linkErrors ∧ (sendPlace p x).mode = x.mode ∧
      (sendPlace p x).autonomous = x.autonomous ∧ (sendPlace p x).silence = x.silence ∧
      (sendPlace p x).reset = x.reset ∧ (sendPlace p x).postCounter = x.postCounter := by
  cases p <;> simp only [sendPlace, sendRackPlace, sendContainerPlace] <;> split <;> simp

theorem sendPlace_link (p : Place) (x : Site) :
    (sendPlace p x).link = x.link ∨ (∃ y, (sendPlace p x).link = some (.rack y)) ∨
      ∃ y, (sendPlace p x).link = some (.container y) := by
  cases p <;> simp only [sendPlace, sendRackPlace, sendContainerPlace] <;> split <;> simp

/-- What the arbiter leaves alone in the site link interface. -/
theorem arbitrate_keeps (s : State) :
    (arbitrate s).site.fifo = s.site.fifo ∧ (arbitrate s).site.linkErrors = s.site.linkErrors ∧
      (arbitrate s).site.mode = s.site.mode ∧ (arbitrate s).site.autonomous = s.site.autonomous ∧
      (arbitrate s).site.silence = s.site.silence ∧ (arbitrate s).site.reset = s.site.reset ∧
      (arbitrate s).site.postCounter = s.site.postCounter := by
  unfold arbitrate
  split
  · simp
  · split
    · simp
    · simp only [State.withSite_site, grant]
      split
      · simp
      · split
        · simp
        · split
          · next p _ => simp [sendPlace_keeps p s.site]
          · split <;> simp

/-- The replies not yet sent are the same after a grant. -/
theorem grant_unsentReplies (x : Site) (hlink : x.link = none) :
    (grant x).unsentReplies = x.unsentReplies := by
  unfold grant
  split
  · next h => simp [Site.unsentReplies, h, hlink]
  · next h =>
    split
    · simp [Site.unsentReplies, h, hlink]
    · split
      · next p _ =>
        have hk := sendPlace_keeps p x
        rcases sendPlace_link p x with hl | ⟨y, hl⟩ | ⟨y, hl⟩ <;>
          simp [Site.unsentReplies, hl, hlink, hk.2.1, h]
      · split
        · simp [Site.unsentReplies, h, hlink]
        · rfl

/-- The replies not yet sent are the same after the arbiter, in their order: it only begins to send the
oldest (R180). -/
theorem arbitrate_unsentReplies (s : State) :
    (arbitrate s).site.unsentReplies = s.site.unsentReplies := by
  unfold arbitrate
  split
  · rfl
  · next hlink =>
    split
    · rfl
    · exact grant_unsentReplies s.site hlink

theorem actWhen_false (act : State → State) (s : State) : actWhen false act s = .next s := rfl

theorem actWhen_true (act : State → State) (s : State) :
    actWhen true act s = .next (arbitrate (act s)) := rfl

theorem moveWhen_false (act : State → State) (s : State) : moveWhen false act s = .next s := rfl

theorem moveWhen_true (act : State → State) (s : State) :
    moveWhen true act s = .next (arbitrate (settle (act s))) := rfl

/-! ## Requests (R179) -/

/-- A request is taken exactly when it is offered. -/
theorem mayTake_iff (s : State) (tag : Byte) (q : Request) :
    s.mayTake tag q = true ↔ ∃ rest, s.offers ⟨tag, q⟩ rest := by
  simp only [State.mayTake, State.offers, Bool.and_eq_true, decide_eq_true_eq, List.head?_eq_some_iff]
  constructor
  · rintro ⟨⟨⟨rest, h⟩, h1⟩, h2⟩; exact ⟨rest, h, h1, h2⟩
  · rintro ⟨rest, h, h1, h2⟩; exact ⟨⟨⟨rest, h⟩, h1⟩, h2⟩

/-- A request step of an owner that moves no rack, on a request that is offered. -/
theorem serve_offered {s : State} {tag : Byte} {q : Request} {rest : List Tagged}
    (h : s.offers ⟨tag, q⟩ rest) (owner : State → Answer) :
    serve tag q owner s = .next (arbitrate (takeRequest tag q owner s)) := by
  unfold serve
  rw [(mayTake_iff s tag q).2 ⟨rest, h⟩]
  rfl

/-- A request step of an owner that may move racks, on a request that is offered. -/
theorem serveMoving_offered {s : State} {tag : Byte} {q : Request} {rest : List Tagged}
    (h : s.offers ⟨tag, q⟩ rest) (owner : State → Answer) :
    serveMoving tag q owner s = .next (arbitrate (settle (takeRequest tag q owner s))) := by
  unfold serveMoving
  rw [(mayTake_iff s tag q).2 ⟨rest, h⟩]
  rfl

/-- A request that is not offered waits. -/
theorem serve_waits {s : State} {tag : Byte} {q : Request} (h : ¬ ∃ rest, s.offers ⟨tag, q⟩ rest)
    (owner : State → Answer) :
    serve tag q owner s = .next s ∧ serveMoving tag q owner s = .next s := by
  have : s.mayTake tag q = false := by
    cases hm : s.mayTake tag q with
    | false => rfl
    | true => exact absurd ((mayTake_iff s tag q).1 hm) h
  simp [serve, serveMoving, actWhen, moveWhen, this]

/-- The state with the head of its FIFO taken. -/
def State.taking (s : State) (rest : List Tagged) : State :=
  s.withSite { s.site with fifo := rest }

/-- Taking a request that is offered: its owner acts on the state without it, and the reply joins the
queue. -/
theorem takeRequest_offered {s : State} {tag : Byte} {q : Request} {rest : List Tagged}
    (h : s.offers ⟨tag, q⟩ rest) (owner : State → Answer) :
    takeRequest tag q owner s =
      reply tag q (owner (s.taking rest)).result (owner (s.taking rest)).body
        (owner (s.taking rest)).state := by
  simp [takeRequest, State.taking, h.1]

/-- A request refused without any other effect. -/
theorem takeRequest_refused {s : State} {tag : Byte} {q : Request} {rest : List Tagged}
    (h : s.offers ⟨tag, q⟩ rest) (owner : State → Answer) (result : Result) (body : ReplyBody)
    (ho : owner (s.taking rest) = ⟨s.taking rest, result, body⟩) :
    takeRequest tag q owner s = s.answered ⟨tag, q⟩ rest result body := by
  rw [takeRequest_offered h, ho]
  rfl

theorem reply_sameBut (tag : Byte) (q : Request) (result : Result) (body : ReplyBody) (s : State) :
    s.sameBut (reply tag q result body s) [.site] := withSite_sameBut s _

theorem offerRequest_sameBut (x : Tagged) (s : State) : s.sameBut (offerRequest x s) [.site] := by
  unfold offerRequest
  split
  · exact withSite_sameBut s _
  · split
    · exact reply_sameBut _ _ _ _ s
    · exact withSite_sameBut s _

/-- What offering a request does to the FIFO and the replies not yet sent (R179, R180). -/
theorem offerRequest_spec (x : Tagged) (s : State) :
    (s.site.fifo.length < 4 →
      (offerRequest x s).site.fifo = s.site.fifo ++ [x] ∧
        (offerRequest x s).site.unsentReplies = s.site.unsentReplies) ∧
    (4 ≤ s.site.fifo.length →
      (offerRequest x s).site.fifo = s.site.fifo ∧
      (s.site.replies.length < 8 →
        (offerRequest x s).site.unsentReplies =
          s.site.unsentReplies ++ [⟨x.tag, x.request, .busy, .nothing⟩]) ∧
      (8 ≤ s.site.replies.length →
        (offerRequest x s).site.unsentReplies = s.site.unsentReplies ∧
          (offerRequest x s).site.linkErrors.replyOverrun = true)) := by
  refine ⟨fun h => ?_, fun h => ?_⟩
  · simp [offerRequest, h, Site.unsentReplies]
  · have h4 := Nat.not_lt.2 h
    refine ⟨?_, fun h8 => ?_, fun h8 => ?_⟩
    · unfold offerRequest
      rw [if_neg h4]
      split <;> rfl
    · simp [offerRequest, h4, h8, reply, Site.unsentReplies, List.append_assoc]
    · simp [offerRequest, h4, Nat.not_lt.2 h8, Site.unsentReplies]

end Sys2Proof.Machine
end

