-- ==== Sys2Proof/Laws/Frames.lean ====
section
/-!
SUPPORT. Which parts of State each operation of the blocks may touch: one frame lemma for each. A
      frame
`u.sameBut (op s) A` is the frame `u.sameBut s A` whenever the parts the operation may touch lie
      in A,
so that simp takes a whole flow apart.
-/

set_option linter.unusedSimpArgs false

namespace Sys2Proof.Machine

/-! ## The updates and Machine/Ops.lean -/

@[simp] theorem withRing_frame {A : List Block} (u s : State) (x : Ring)
    (h : Block.ring ∈ A) : u.sameBut (s.withRing x) A ↔ u.sameBut s A :=
  sameBut_step (withRing_sameBut s x) (by simpa using h)
@[simp] theorem withSamples_frame {A : List Block} (u s : State) (x : Samples)
    (h : Block.samples ∈ A) : u.sameBut (s.withSamples x) A ↔ u.sameBut s A :=
  sameBut_step (withSamples_sameBut s x) (by simpa using h)
@[simp] theorem withLimits_frame {A : List Block} (u s : State) (x : Limits)
    (h : Block.limits ∈ A) : u.sameBut (s.withLimits x) A ↔ u.sameBut s A :=
  sameBut_step (withLimits_sameBut s x) (by simpa using h)
@[simp] theorem withBalance_frame {A : List Block} (u s : State) (x : Balance)
    (h : Block.balance ∈ A) : u.sameBut (s.withBalance x) A ↔ u.sameBut s A :=
  sameBut_step (withBalance_sameBut s x) (by simpa using h)
@[simp] theorem withCooling_frame {A : List Block} (u s : State) (x : Cooling)
    (h : Block.cooling ∈ A) : u.sameBut (s.withCooling x) A ↔ u.sameBut s A :=
  sameBut_step (withCooling_sameBut s x) (by simpa using h)
@[simp] theorem withFire_frame {A : List Block} (u s : State) (x : Fire)
    (h : Block.fire ∈ A) : u.sameBut (s.withFire x) A ↔ u.sameBut s A :=
  sameBut_step (withFire_sameBut s x) (by simpa using h)
@[simp] theorem withSequencer_frame {A : List Block} (u s : State) (x : Sequencer)
    (h : Block.sequencer ∈ A) : u.sameBut (s.withSequencer x) A ↔ u.sameBut s A :=
  sameBut_step (withSequencer_sameBut s x) (by simpa using h)
@[simp] theorem withTrips_frame {A : List Block} (u s : State) (x : Trips)
    (h : Block.trips ∈ A) : u.sameBut (s.withTrips x) A ↔ u.sameBut s A :=
  sameBut_step (withTrips_sameBut s x) (by simpa using h)
@[simp] theorem withConverter_frame {A : List Block} (u s : State) (x : Converter)
    (h : Block.converter ∈ A) : u.sameBut (s.withConverter x) A ↔ u.sameBut s A :=
  sameBut_step (withConverter_sameBut s x) (by simpa using h)
@[simp] theorem withTables_frame {A : List Block} (u s : State) (x : Tables)
    (h : Block.tables ∈ A) : u.sameBut (s.withTables x) A ↔ u.sameBut s A :=
  sameBut_step (withTables_sameBut s x) (by simpa using h)
@[simp] theorem withSite_frame {A : List Block} (u s : State) (x : Site)
    (h : Block.site ∈ A) : u.sameBut (s.withSite x) A ↔ u.sameBut s A :=
  sameBut_step (withSite_sameBut s x) (by simpa using h)
@[simp] theorem withNow_frame {A : List Block} (u s : State) (x : PartTime)
    (h : Block.now ∈ A) : u.sameBut (s.withNow x) A ↔ u.sameBut s A :=
  sameBut_step (withNow_sameBut s x) (by simpa using h)
@[simp] theorem withChoices_frame {A : List Block} (u s : State) (x : Nat)
    (h : Block.choices ∈ A) : u.sameBut (s.withChoices x) A ↔ u.sameBut s A :=
  sameBut_step (withChoices_sameBut s x) (by simpa using h)
@[simp] theorem withPending_frame {A : List Block} (u s : State) (x : List Instr)
    (h : Block.pending ∈ A) : u.sameBut (s.withPending x) A ↔ u.sameBut s A :=
  sameBut_step (withPending_sameBut s x) (by simpa using h)
@[simp] theorem setRackSamples_frame {A : List Block} (u s : State) (r : Rack) (x : RackSamples)
    (h : Block.samples ∈ A) : u.sameBut (s.setRackSamples r x) A ↔ u.sameBut s A :=
  sameBut_step (setRackSamples_sameBut s r x) (by simpa using h)
@[simp] theorem setRackCharge_frame {A : List Block} (u s : State) (r : Rack) (x : RackCharge)
    (h : Block.limits ∈ A) : u.sameBut (s.setRackCharge r x) A ↔ u.sameBut s A :=
  sameBut_step (setRackCharge_sameBut s r x) (by simpa using h)
@[simp] theorem setRackBalance_frame {A : List Block} (u s : State) (r : Rack) (x : RackBalance)
    (h : Block.balance ∈ A) : u.sameBut (s.setRackBalance r x) A ↔ u.sameBut s A :=
  sameBut_step (setRackBalance_sameBut s r x) (by simpa using h)
@[simp] theorem setRackSwitch_frame {A : List Block} (u s : State) (r : Rack) (x : RackSwitch)
    (h : Block.sequencer ∈ A) : u.sameBut (s.setRackSwitch r x) A ↔ u.sameBut s A :=
  sameBut_step (setRackSwitch_sameBut s r x) (by simpa using h)
@[simp] theorem setRackLatches_frame {A : List Block} (u s : State) (r : Rack) (x : RackLatches)
    (h : Block.trips ∈ A) : u.sameBut (s.setRackLatches r x) A ↔ u.sameBut s A :=
  sameBut_step (setRackLatches_sameBut s r x) (by simpa using h)
@[simp] theorem setOutput_frame {A : List Block} (u s : State) (o : Output) (x : OutputState)
    (h : Block.cooling ∈ A) : u.sameBut (s.setOutput o x) A ↔ u.sameBut s A :=
  sameBut_step (setOutput_sameBut s o x) (by simpa using h)
@[simp] theorem setLine_frame {A : List Block} (u s : State) (l : Line) (x : LineState)
    (h : Block.fire ∈ A) : u.sameBut (s.setLine l x) A ↔ u.sameBut s A :=
  sameBut_step (setLine_sameBut s l x) (by simpa using h)
@[simp] theorem setTable_frame {A : List Block} (u s : State) (t : TableName) (x : TableState)
    (h : Block.tables ∈ A) : u.sameBut (s.setTable t x) A ↔ u.sameBut s A :=
  sameBut_step (setTable_sameBut s t x) (by simpa using h)
@[simp] theorem produceContainerSummary_frame {A : List Block} (u : State) (s : State)
    (h : Block.site ∈ A) : u.sameBut (produceContainerSummary s) A ↔ u.sameBut s A :=
  sameBut_step (produceContainerSummary_sameBut s) (by simpa using h)
@[simp] theorem post_frame {A : List Block} (u : State) (e : Event) (s : State)
    (h : Block.site ∈ A) : u.sameBut (post e s) A ↔ u.sameBut s A :=
  sameBut_step (post_sameBut e s) (by simpa using h)
@[simp] theorem postAll_frame {A : List Block} (u : State) (es : List Event) (s : State)
    (h : Block.site ∈ A) : u.sameBut (postAll es s) A ↔ u.sameBut s A :=
  sameBut_step (postAll_sameBut es s) (by simpa using h)
@[simp] theorem queueTrace_frame {A : List Block} (u : State) (t : TraceReport) (s : State)
    (h : Block.site ∈ A) : u.sameBut (queueTrace t s) A ↔ u.sameBut s A :=
  sameBut_step (queueTrace_sameBut t s) (by simpa using h)
@[simp] theorem arbitrate_frame {A : List Block} (u : State) (s : State)
    (h : Block.site ∈ A) : u.sameBut (arbitrate s) A ↔ u.sameBut s A :=
  sameBut_step (arbitrate_sameBut s) (by simpa using h)
@[simp] theorem reply_frame {A : List Block} (u : State) (tag : Byte) (q : Request)
      (result : Result) (body : ReplyBody)
    (s : State)
    (h : Block.site ∈ A) : u.sameBut (reply tag q result body s) A ↔ u.sameBut s A :=
  sameBut_step (reply_sameBut tag q result body s) (by simpa using h)
@[simp] theorem offerRequest_frame {A : List Block} (u : State) (x : Tagged) (s : State)
    (h : Block.site ∈ A) : u.sameBut (offerRequest x s) A ↔ u.sameBut s A :=
  sameBut_step (offerRequest_sameBut x s) (by simpa using h)
@[simp] theorem produceRackSummary_frame {A : List Block} (u : State) (r : Rack) (s : State)
    (h : Block.site ∈ A) (k : Block.limits ∈ A) :
    u.sameBut (produceRackSummary r s) A ↔ u.sameBut s A :=
  sameBut_step (produceRackSummary_sameBut r s) (by simp [h, k])

@[simp] theorem choose_frame {A : List Block} (u : State) (n : Nat) (s : State)
    (h : Block.choices ∈ A) : u.sameBut (choose n s).2 A ↔ u.sameBut s A :=
  withChoices_frame u s _ h

@[simp] theorem pickFree_frame {α : Type} {A : List Block} (u : State) (xs : List α) (s : State)
    (h : Block.choices ∈ A) : u.sameBut (pickFree xs s).2 A ↔ u.sameBut s A :=
  sameBut_step (pickFree_sameBut xs s) (by simpa using h)

theorem inAnyOrder_frame {A : List Block} (u : State) (acts : List (State → State)) (s : State)
    (hc : Block.choices ∈ A) (h : ∀ act ∈ acts, ∀ t, u.sameBut (act t) A ↔ u.sameBut t A) :
    u.sameBut (inAnyOrder acts s) A ↔ u.sameBut s A :=
  inAnyOrder_keeps (P := fun t => u.sameBut t A ↔ u.sameBut s A)
    (fun t n k => by rw [withChoices_frame u t n hc]; exact k)
    (fun act ha t k => (h act ha t).trans k) Iff.rfl

theorem inAnyOrder_map_frame {α : Type} {A : List Block} (u : State) (f : α → State → State)
    (xs : List α) (s : State) (hc : Block.choices ∈ A)
    (h : ∀ x t, u.sameBut (f x t) A ↔ u.sameBut t A) :
    u.sameBut (inAnyOrder (xs.map f) s) A ↔ u.sameBut s A :=
  inAnyOrder_frame u _ s hc fun act ha t => by
    obtain ⟨x, _, rfl⟩ := List.mem_map.1 ha
    exact h x t

theorem forRacks_frame {A : List Block} (u : State) (racks : List Rack)
    (act : Rack → State → State) (s : State)
    (h : ∀ r t, u.sameBut (act r t) A ↔ u.sameBut t A) :
    u.sameBut (forRacks racks act s) A ↔ u.sameBut s A :=
  forRacks_keeps (P := fun t => u.sameBut t A ↔ u.sameBut s A)
    (fun r _ t k => (h r t).trans k) Iff.rfl

theorem foldl_frame {α : Type} {A : List Block} (u : State) (xs : List α) (f : State → α → State)
    (s : State) (h : ∀ t x, u.sameBut (f t x) A ↔ u.sameBut t A) :
    u.sameBut (xs.foldl f s) A ↔ u.sameBut s A := by
  induction xs generalizing s with
  | nil => rfl
  | cons x xs ih => exact (ih (f s x)).trans (h s x)

/-! ## Machine/ConverterCore.lean -/

@[simp] theorem composeMessage_frame {A : List Block} (u : State) (s : State)
    (hconverter : Block.converter ∈ A) :
    u.sameBut (composeMessage s) A ↔ u.sameBut s A := by
  simp only [composeMessage, withConverter_frame, sameBut_ite, ite_self, hconverter, implies_true]

@[simp] theorem messageDue_frame {A : List Block} (u : State) (s : State)
    (hconverter : Block.converter ∈ A) :
    u.sameBut (messageDue s) A ↔ u.sameBut s A := by
  simp only [messageDue, withConverter_frame, composeMessage_frame, sameBut_ite, ite_self,
      hconverter, implies_true]

@[simp] theorem judgeFlags_frame {A : List Block} (u : State) (lower : Bool) (s : State)
    (hconverter : Block.converter ∈ A) :
    u.sameBut (judgeFlags lower s) A ↔ u.sameBut s A := by
  simp only [judgeFlags, withConverter_frame, messageDue_frame, sameBut_ite, ite_self, hconverter,
      implies_true]

@[simp] theorem workOutContainer_frame {A : List Block} (u : State) (s : State)
    (hlimits : Block.limits ∈ A) (hconverter : Block.converter ∈ A) :
    u.sameBut (workOutContainer s) A ↔ u.sameBut s A := by
  simp only [workOutContainer, withLimits_frame, withConverter_frame, judgeFlags_frame,
      sameBut_ite, ite_self, hlimits, hconverter, implies_true]

@[simp] theorem zeroRackLimit_frame {A : List Block} (u : State) (r : Rack) (s : State)
    (hlimits : Block.limits ∈ A) :
    u.sameBut (zeroRackLimit r s) A ↔ u.sameBut s A := by
  simp only [zeroRackLimit, setRackCharge_frame, sameBut_ite, ite_self, hlimits, implies_true]

@[simp] theorem judgePermit_frame {A : List Block} (u : State) (s : State)
    (hconverter : Block.converter ∈ A) :
    u.sameBut (judgePermit s) A ↔ u.sameBut s A := by
  simp only [judgePermit, withConverter_frame, sameBut_ite, ite_self, hconverter, implies_true]

@[simp] theorem beginPulse_frame {A : List Block} (u : State) (number : Nat) (s : State)
    (hconverter : Block.converter ∈ A) :
    u.sameBut (beginPulse number s) A ↔ u.sameBut s A := by
  simp only [beginPulse, withConverter_frame, sameBut_ite, ite_self, hconverter, implies_true]

@[simp] theorem requestPulse_frame {A : List Block} (u : State) (s : State)
    (hconverter : Block.converter ∈ A) :
    u.sameBut (requestPulse s) A ↔ u.sameBut s A := by
  unfold requestPulse
  (repeat' split) <;> simp only [beginPulse_frame, withConverter_frame, sameBut_ite, ite_self,
      hconverter, implies_true]

/-! ## Machine/TripCore.lean -/

@[simp] theorem writeRecord_frame {A : List Block} (u : State) (rec : TripRecord) (s : State)
    (htrips : Block.trips ∈ A) :
    u.sameBut (writeRecord rec s) A ↔ u.sameBut s A := by
  simp only [writeRecord, withTrips_frame, sameBut_ite, ite_self, htrips, implies_true]

@[simp] theorem completionReport_frame {A : List Block} (u : State) (r : Rack)
      (current : Option Int) (underLoad : Bool) (s : State)
    (htrips : Block.trips ∈ A) (hsite : Block.site ∈ A) (hchoices : Block.choices ∈ A) :
    u.sameBut (completionReport r current underLoad s) A ↔ u.sameBut s A := by
  simp only [completionReport, postAll_frame, withTrips_frame, sameBut_ite, ite_self,
      choose_frame, htrips, hsite, hchoices, implies_true]

/-! ## Machine/SwitchCore.lean -/

@[simp] theorem startHold_frame {A : List Block} (u : State) (s : State)
    (hlimits : Block.limits ∈ A) (hsequencer : Block.sequencer ∈ A) :
    u.sameBut (startHold s) A ↔ u.sameBut s A := by
  simp only [startHold, zeroRackLimit_frame, withSequencer_frame, sameBut_ite, ite_self,
      forRacks_frame, hlimits, hsequencer, implies_true]

@[simp] theorem leaveConnected_frame {A : List Block} (u : State) (r : Rack) (s : State)
    (hlimits : Block.limits ∈ A) (htrips : Block.trips ∈ A) :
    u.sameBut (leaveConnected r s) A ↔ u.sameBut s A := by
  simp only [leaveConnected, zeroRackLimit_frame, setRackLatches_frame, sameBut_ite, ite_self,
      hlimits, htrips, implies_true]

@[simp] theorem changeRack_frame {A : List Block} (u : State) (r : Rack) (x : RackSwitch)
      (cause : RackCause) (s : State)
    (hlimits : Block.limits ∈ A) (hsequencer : Block.sequencer ∈ A) (htrips : Block.trips ∈ A)
      (hconverter : Block.converter ∈ A) (hsite : Block.site ∈ A) :
    u.sameBut (changeRack r x cause s) A ↔ u.sameBut s A := by
  simp only [changeRack, setRackSwitch_frame, post_frame, leaveConnected_frame, startHold_frame,
      workOutContainer_frame, judgePermit_frame, sameBut_ite, ite_self, hlimits, hsequencer,
      htrips, hconverter, hsite, implies_true]

@[simp] theorem connectResult_frame {A : List Block} (u : State) (r : Rack)
      (outcome : ConnectOutcome) (s : State)
    (hsite : Block.site ∈ A) :
    u.sameBut (connectResult r outcome s) A ↔ u.sameBut s A := by
  simp only [connectResult, post_frame, sameBut_ite, ite_self, hsite, implies_true]

@[simp] theorem dequeue_frame {A : List Block} (u : State) (r : Rack) (s : State)
    (hsequencer : Block.sequencer ∈ A) :
    u.sameBut (dequeue r s) A ↔ u.sameBut s A := by
  simp only [dequeue, withSequencer_frame, sameBut_ite, ite_self, hsequencer, implies_true]

@[simp] theorem freeSlot_frame {A : List Block} (u : State) (r : Rack) (s : State)
    (hsequencer : Block.sequencer ∈ A) :
    u.sameBut (freeSlot r s) A ↔ u.sameBut s A := by
  simp only [freeSlot, withSequencer_frame, sameBut_ite, ite_self, hsequencer, implies_true]

@[simp] theorem leaveQueue_frame {A : List Block} (u : State) (r : Rack)
      (outcome : ConnectOutcome) (cause : RackCause) (s : State)
    (hlimits : Block.limits ∈ A) (hsequencer : Block.sequencer ∈ A) (htrips : Block.trips ∈ A)
      (hconverter : Block.converter ∈ A) (hsite : Block.site ∈ A) :
    u.sameBut (leaveQueue r outcome cause s) A ↔ u.sameBut s A := by
  simp only [leaveQueue, changeRack_frame, connectResult_frame, dequeue_frame, sameBut_ite,
      ite_self, hlimits, hsequencer, htrips, hconverter, hsite, implies_true]

@[simp] theorem endOperation_frame {A : List Block} (u : State) (r : Rack) (x : RackSwitch)
      (cause : RackCause) (s : State)
    (hlimits : Block.limits ∈ A) (hsequencer : Block.sequencer ∈ A) (htrips : Block.trips ∈ A)
      (hconverter : Block.converter ∈ A) (hsite : Block.site ∈ A) (hchoices : Block.choices ∈ A) :
    u.sameBut (endOperation r x cause s) A ↔ u.sameBut s A := by
  simp only [endOperation, freeSlot_frame, changeRack_frame, completionReport_frame, sameBut_ite,
      ite_self, hlimits, hsequencer, htrips, hconverter, hsite, hchoices, implies_true]

@[simp] theorem passOpenProof_frame {A : List Block} (u : State) (r : Rack) (cause : RackCause)
      (s : State)
    (hlimits : Block.limits ∈ A) (hsequencer : Block.sequencer ∈ A) (htrips : Block.trips ∈ A)
      (hconverter : Block.converter ∈ A) (hsite : Block.site ∈ A) (hchoices : Block.choices ∈ A) :
    u.sameBut (passOpenProof r cause s) A ↔ u.sameBut s A := by
  simp only [passOpenProof, endOperation_frame, sameBut_ite, ite_self, hlimits, hsequencer,
      htrips, hconverter, hsite, hchoices, implies_true]

@[simp] theorem enterOpening_frame {A : List Block} (u : State) (r : Rack) (op : Operation)
      (cause : RackCause) (s : State)
    (hlimits : Block.limits ∈ A) (hsequencer : Block.sequencer ∈ A) (htrips : Block.trips ∈ A)
      (hconverter : Block.converter ∈ A) (hsite : Block.site ∈ A) (hchoices : Block.choices ∈ A) :
    u.sameBut (enterOpening r op cause s) A ↔ u.sameBut s A := by
  simp only [enterOpening, changeRack_frame, passOpenProof_frame, sameBut_ite, ite_self, hlimits,
      hsequencer, htrips, hconverter, hsite, hchoices, implies_true]

@[simp] theorem endDrain_frame {A : List Block} (u : State) (r : Rack) (cause : RackCause)
      (s : State)
    (hlimits : Block.limits ∈ A) (hsequencer : Block.sequencer ∈ A) (htrips : Block.trips ∈ A)
      (hconverter : Block.converter ∈ A) (hsite : Block.site ∈ A) (hchoices : Block.choices ∈ A) :
    u.sameBut (endDrain r cause s) A ↔ u.sameBut s A := by
  simp only [endDrain, enterOpening_frame, sameBut_ite, ite_self, hlimits, hsequencer, htrips,
      hconverter, hsite, hchoices, implies_true]

@[simp] theorem enterDraining_frame {A : List Block} (u : State) (r : Rack) (op : Operation)
      (ms : Nat) (cause : RackCause) (s : State)
    (hlimits : Block.limits ∈ A) (hsequencer : Block.sequencer ∈ A) (htrips : Block.trips ∈ A)
      (hconverter : Block.converter ∈ A) (hsite : Block.site ∈ A) (hchoices : Block.choices ∈ A) :
    u.sameBut (enterDraining r op ms cause s) A ↔ u.sameBut s A := by
  simp only [enterDraining, changeRack_frame, endDrain_frame, sameBut_ite, ite_self, hlimits,
      hsequencer, htrips, hconverter, hsite, hchoices, implies_true]

@[simp] theorem grantDisconnects_frame {A : List Block} (u : State) (n : Nat) (s : State)
    (hlimits : Block.limits ∈ A) (hsequencer : Block.sequencer ∈ A) (htrips : Block.trips ∈ A)
      (hconverter : Block.converter ∈ A) (hsite : Block.site ∈ A) (hchoices : Block.choices ∈ A) :
    u.sameBut (grantDisconnects n s) A ↔ u.sameBut s A := by
  induction n generalizing s with
  | zero => rfl
  | succ n ih =>
    unfold grantDisconnects
    split
    · rw [ih]
      simp only [enterDraining_frame, withSequencer_frame, hlimits, hsequencer, htrips,
      hconverter, hsite, hchoices]
    · rfl

@[simp] theorem abandonPrecharge_frame {A : List Block} (u : State) (r : Rack)
      (outcome : ConnectOutcome) (cause : RackCause) (s : State)
    (hlimits : Block.limits ∈ A) (hsequencer : Block.sequencer ∈ A) (htrips : Block.trips ∈ A)
      (hconverter : Block.converter ∈ A) (hsite : Block.site ∈ A) (hchoices : Block.choices ∈ A) :
    u.sameBut (abandonPrecharge r outcome cause s) A ↔ u.sameBut s A := by
  simp only [abandonPrecharge, enterOpening_frame, connectResult_frame, sameBut_ite, ite_self,
      hlimits, hsequencer, htrips, hconverter, hsite, hchoices, implies_true]

@[simp] theorem takeOver_frame {A : List Block} (u : State) (r : Rack) (s : State)
    (hsequencer : Block.sequencer ∈ A) :
    u.sameBut (takeOver r s) A ↔ u.sameBut s A := by
  simp only [takeOver, freeSlot_frame, setRackSwitch_frame, sameBut_ite, ite_self, hsequencer,
      implies_true]

@[simp] theorem lockQueued_frame {A : List Block} (u : State) (r : Rack) (kind : TripKind)
      (s : State)
    (hlimits : Block.limits ∈ A) (hsequencer : Block.sequencer ∈ A) (htrips : Block.trips ∈ A)
      (hconverter : Block.converter ∈ A) (hsite : Block.site ∈ A) :
    u.sameBut (lockQueued r kind s) A ↔ u.sameBut s A := by
  simp only [lockQueued, connectResult_frame, dequeue_frame, changeRack_frame, sameBut_ite,
      ite_self, hlimits, hsequencer, htrips, hconverter, hsite, implies_true]

@[simp] theorem lockOpen_frame {A : List Block} (u : State) (r : Rack) (kind : TripKind) (s : State)
    (hlimits : Block.limits ∈ A) (hsequencer : Block.sequencer ∈ A) (htrips : Block.trips ∈ A)
      (hconverter : Block.converter ∈ A) (hsite : Block.site ∈ A) :
    u.sameBut (lockOpen r kind s) A ↔ u.sameBut s A := by
  simp only [lockOpen, changeRack_frame, sameBut_ite, ite_self, hlimits, hsequencer, htrips,
      hconverter, hsite, implies_true]

@[simp] theorem takeOverOpening_frame {A : List Block} (u : State) (r : Rack) (op : Operation)
      (s : State)
    (hsequencer : Block.sequencer ∈ A) :
    u.sameBut (takeOverOpening r op s) A ↔ u.sameBut s A := by
  simp only [takeOverOpening, takeOver_frame, setRackSwitch_frame, sameBut_ite, ite_self,
      hsequencer, implies_true]

@[simp] theorem immediateOrder_frame {A : List Block} (u : State) (kind : TripKind) (r : Rack)
      (s : State)
    (hlimits : Block.limits ∈ A) (hsequencer : Block.sequencer ∈ A) (htrips : Block.trips ∈ A)
      (hconverter : Block.converter ∈ A) (hsite : Block.site ∈ A) (hchoices : Block.choices ∈ A) :
    u.sameBut (immediateOrder kind r s) A ↔ u.sameBut s A := by
  unfold immediateOrder
  (repeat' split) <;> simp only [enterOpening_frame, takeOver_frame, connectResult_frame,
      takeOverOpening_frame, lockQueued_frame, lockOpen_frame, sameBut_ite, ite_self, hlimits,
      hsequencer, htrips, hconverter, hsite, hchoices, implies_true]

@[simp] theorem shortenDrain_frame {A : List Block} (u : State) (r : Rack) (s : State)
    (hlimits : Block.limits ∈ A) (hsequencer : Block.sequencer ∈ A) (htrips : Block.trips ∈ A)
      (hconverter : Block.converter ∈ A) (hsite : Block.site ∈ A) (hchoices : Block.choices ∈ A) :
    u.sameBut (shortenDrain r s) A ↔ u.sameBut s A := by
  simp only [shortenDrain, takeOver_frame, setRackSwitch_frame, endDrain_frame, sameBut_ite,
      ite_self, hlimits, hsequencer, htrips, hconverter, hsite, hchoices, implies_true]

@[simp] theorem deferredOrder_frame {A : List Block} (u : State) (kind : TripKind) (r : Rack)
      (s : State)
    (hlimits : Block.limits ∈ A) (hsequencer : Block.sequencer ∈ A) (htrips : Block.trips ∈ A)
      (hconverter : Block.converter ∈ A) (hsite : Block.site ∈ A) (hchoices : Block.choices ∈ A) :
    u.sameBut (deferredOrder kind r s) A ↔ u.sameBut s A := by
  unfold deferredOrder
  (repeat' split) <;> simp only [enterDraining_frame, takeOver_frame, shortenDrain_frame,
      enterOpening_frame, connectResult_frame, takeOverOpening_frame, lockQueued_frame,
      lockOpen_frame, sameBut_ite, ite_self, hlimits, hsequencer, htrips, hconverter, hsite,
      hchoices, implies_true]

@[simp] theorem order_frame {A : List Block} (u : State) (kind : TripKind) (racks : List Rack)
      (s : State)
    (hlimits : Block.limits ∈ A) (hsequencer : Block.sequencer ∈ A) (htrips : Block.trips ∈ A)
      (hconverter : Block.converter ∈ A) (hsite : Block.site ∈ A) (hchoices : Block.choices ∈ A) :
    u.sameBut (order kind racks s) A ↔ u.sameBut s A := by
  unfold order
  (repeat' split) <;> simp only [immediateOrder_frame, deferredOrder_frame, sameBut_ite, ite_self,
      forRacks_frame, hlimits, hsequencer, htrips, hconverter, hsite, hchoices, implies_true]

@[simp] theorem releaseLocked_frame {A : List Block} (u : State) (r : Rack) (s : State)
    (hlimits : Block.limits ∈ A) (hsequencer : Block.sequencer ∈ A) (htrips : Block.trips ∈ A)
      (hconverter : Block.converter ∈ A) (hsite : Block.site ∈ A) :
    u.sameBut (releaseLocked r s) A ↔ u.sameBut s A := by
  simp only [releaseLocked, changeRack_frame, sameBut_ite, ite_self, hlimits, hsequencer, htrips,
      hconverter, hsite, implies_true]

@[simp] theorem cancelQueue_frame {A : List Block} (u : State) (cause : RackCause) (s : State)
    (hlimits : Block.limits ∈ A) (hsequencer : Block.sequencer ∈ A) (htrips : Block.trips ∈ A)
      (hconverter : Block.converter ∈ A) (hsite : Block.site ∈ A) :
    u.sameBut (cancelQueue cause s) A ↔ u.sameBut s A := by
  simp only [cancelQueue, leaveQueue_frame, sameBut_ite, ite_self, forRacks_frame, hlimits,
      hsequencer, htrips, hconverter, hsite, implies_true]

@[simp] theorem withdrawConnects_frame {A : List Block} (u : State) (s : State)
    (hlimits : Block.limits ∈ A) (hsequencer : Block.sequencer ∈ A) (htrips : Block.trips ∈ A)
      (hconverter : Block.converter ∈ A) (hsite : Block.site ∈ A) (hchoices : Block.choices ∈ A) :
    u.sameBut (withdrawConnects s) A ↔ u.sameBut s A := by
  simp only [withdrawConnects, abandonPrecharge_frame, cancelQueue_frame, sameBut_ite, ite_self,
      forRacks_frame, hlimits, hsequencer, htrips, hconverter, hsite, hchoices, implies_true]

@[simp] theorem withdrawRack_frame {A : List Block} (u : State) (r : Rack) (s : State)
    (hlimits : Block.limits ∈ A) (hsequencer : Block.sequencer ∈ A) (htrips : Block.trips ∈ A)
      (hconverter : Block.converter ∈ A) (hsite : Block.site ∈ A) (hchoices : Block.choices ∈ A) :
    u.sameBut (withdrawRack r s) A ↔ u.sameBut s A := by
  unfold withdrawRack
  (repeat' split) <;> simp only [leaveQueue_frame, abandonPrecharge_frame, setRackSwitch_frame,
      sameBut_ite, ite_self, hlimits, hsequencer, htrips, hconverter, hsite, hchoices,
      implies_true]

/-! ## Machine/TripUnit.lean -/

@[simp] theorem setLatch_frame {A : List Block} (u : State) (kind : TripKind) (r : Option Rack)
      (data : CauseData) (s : State)
    (htrips : Block.trips ∈ A) :
    u.sameBut (setLatch kind r data s) A ↔ u.sameBut s A := by
  unfold setLatch
  (repeat' split) <;> simp only [setRackLatches_frame, withTrips_frame, sameBut_ite, ite_self,
      htrips, implies_true]

@[simp] theorem handLatch_frame {A : List Block} (u : State) (s : State)
    (hconverter : Block.converter ∈ A) (hsite : Block.site ∈ A) (hchoices : Block.choices ∈ A) :
    u.sameBut (handLatch s) A ↔ u.sameBut s A := by
  simp only [handLatch, judgePermit_frame, produceContainerSummary_frame, judgeFlags_frame,
      sameBut_ite, ite_self, inAnyOrder_map_frame, inAnyOrder_frame, List.mem_cons,
      List.not_mem_nil, forall_eq_or_imp, or_false, forall_eq, imp_false, IsEmpty.forall_iff,
      implies_true, and_true, and_self, hconverter, hsite, hchoices]

@[simp] theorem takeCause_frame {A : List Block} (u : State) (kind : TripKind) (r : Option Rack)
      (data : CauseData) (s : State)
    (hlimits : Block.limits ∈ A) (hsequencer : Block.sequencer ∈ A) (htrips : Block.trips ∈ A)
      (hconverter : Block.converter ∈ A) (hsite : Block.site ∈ A) (hchoices : Block.choices ∈ A) :
    u.sameBut (takeCause kind r data s) A ↔ u.sameBut s A := by
  simp only [takeCause, order_frame, writeRecord_frame, setLatch_frame, requestPulse_frame,
      handLatch_frame, post_frame, sameBut_ite, ite_self, hlimits, hsequencer, htrips, hconverter,
      hsite, hchoices, implies_true]

@[simp] theorem clearRackLatch_frame {A : List Block} (u : State) (r : Rack) (kind : TripKind)
      (s : State)
    (hlimits : Block.limits ∈ A) (hsequencer : Block.sequencer ∈ A) (htrips : Block.trips ∈ A)
      (hconverter : Block.converter ∈ A) (hsite : Block.site ∈ A) (hchoices : Block.choices ∈ A) :
    u.sameBut (clearRackLatch r kind s) A ↔ u.sameBut s A := by
  simp only [clearRackLatch, post_frame, releaseLocked_frame, produceContainerSummary_frame,
      judgeFlags_frame, setRackLatches_frame, sameBut_ite, ite_self, inAnyOrder_map_frame,
      inAnyOrder_frame, List.mem_cons, List.not_mem_nil, forall_eq_or_imp, or_false, forall_eq,
      imp_false, IsEmpty.forall_iff, implies_true, and_true, and_self, hlimits, hsequencer,
      htrips, hconverter, hsite, hchoices]

@[simp] theorem clearContainerLatch_frame {A : List Block} (u : State) (kind : TripKind) (s : State)
    (hlimits : Block.limits ∈ A) (hsequencer : Block.sequencer ∈ A) (htrips : Block.trips ∈ A)
      (hconverter : Block.converter ∈ A) (hsite : Block.site ∈ A) (hchoices : Block.choices ∈ A) :
    u.sameBut (clearContainerLatch kind s) A ↔ u.sameBut s A := by
  unfold clearContainerLatch
  refine (inAnyOrder_frame u _ _ hchoices ?_).trans ?_
  all_goals simp only [withTrips_frame, post_frame, releaseLocked_frame, judgePermit_frame,
      produceContainerSummary_frame, judgeFlags_frame, sameBut_ite, ite_self, forRacks_frame,
      inAnyOrder_frame, List.mem_cons, List.not_mem_nil, forall_eq_or_imp, or_false, forall_eq,
      imp_false, IsEmpty.forall_iff, implies_true, and_true, and_self, hlimits, hsequencer,
      htrips, hconverter, hsite, hchoices]

@[simp] theorem judgeRackLatch_frame {A : List Block} (u : State) (r : Rack) (kind : TripKind)
      (s : State)
    (hlimits : Block.limits ∈ A) (hsequencer : Block.sequencer ∈ A) (htrips : Block.trips ∈ A)
      (hconverter : Block.converter ∈ A) (hsite : Block.site ∈ A) (hchoices : Block.choices ∈ A) :
    u.sameBut (judgeRackLatch r kind s) A ↔ u.sameBut s A := by
  simp only [judgeRackLatch, clearRackLatch_frame, sameBut_ite, ite_self, hlimits, hsequencer,
      htrips, hconverter, hsite, hchoices, implies_true]

@[simp] theorem judgeRackLatches_frame {A : List Block} (u : State) (r : Rack) (s : State)
    (hlimits : Block.limits ∈ A) (hsequencer : Block.sequencer ∈ A) (htrips : Block.trips ∈ A)
      (hconverter : Block.converter ∈ A) (hsite : Block.site ∈ A) (hchoices : Block.choices ∈ A) :
    u.sameBut (judgeRackLatches r s) A ↔ u.sameBut s A := by
  simp only [judgeRackLatches, judgeRackLatch_frame, sameBut_ite, ite_self, foldl_frame,
      implies_true, hlimits, hsequencer, htrips, hconverter, hsite, hchoices]

@[simp] theorem judgeContainerLatch_frame {A : List Block} (u : State) (kind : TripKind) (s : State)
    (hlimits : Block.limits ∈ A) (hsequencer : Block.sequencer ∈ A) (htrips : Block.trips ∈ A)
      (hconverter : Block.converter ∈ A) (hsite : Block.site ∈ A) (hchoices : Block.choices ∈ A) :
    u.sameBut (judgeContainerLatch kind s) A ↔ u.sameBut s A := by
  simp only [judgeContainerLatch, clearContainerLatch_frame, sameBut_ite, ite_self, hlimits,
      hsequencer, htrips, hconverter, hsite, hchoices, implies_true]

@[simp] theorem markHeard_frame {A : List Block} (u : State) (r : Rack) (heard : Nat → Bool)
      (s : State)
    (htrips : Block.trips ∈ A) :
    u.sameBut (markHeard r heard s) A ↔ u.sameBut s A := by
  simp only [markHeard, setRackLatches_frame, sameBut_ite, ite_self, htrips, implies_true]

@[simp] theorem restartHeard_frame {A : List Block} (u : State) (node : Nat) (s : State)
    (hlimits : Block.limits ∈ A) (hsequencer : Block.sequencer ∈ A) (htrips : Block.trips ∈ A)
      (hconverter : Block.converter ∈ A) (hsite : Block.site ∈ A) (hchoices : Block.choices ∈ A) :
    u.sameBut (restartHeard node s) A ↔ u.sameBut s A := by
  simp only [restartHeard, judgeRackLatch_frame, markHeard_frame, sameBut_ite, ite_self,
      forRacks_frame, hlimits, hsequencer, htrips, hconverter, hsite, hchoices, implies_true]

@[simp] theorem setOverrun_frame {A : List Block} (u : State) (r : Rack) (x : Option PartTime)
      (s : State)
    (htrips : Block.trips ∈ A) :
    u.sameBut (setOverrun r x s) A ↔ u.sameBut s A := by
  simp only [setOverrun, setRackLatches_frame, sameBut_ite, ite_self, htrips, implies_true]

@[simp] theorem overcurrentCheck_frame {A : List Block} (u : State) (r : Rack) (s : State)
    (hlimits : Block.limits ∈ A) (hsequencer : Block.sequencer ∈ A) (htrips : Block.trips ∈ A)
      (hconverter : Block.converter ∈ A) (hsite : Block.site ∈ A) (hchoices : Block.choices ∈ A) :
    u.sameBut (overcurrentCheck r s) A ↔ u.sameBut s A := by
  unfold overcurrentCheck
  (repeat' split) <;> simp only [setOverrun_frame, takeCause_frame, sameBut_ite, ite_self,
      hlimits, hsequencer, htrips, hconverter, hsite, hchoices, implies_true]

@[simp] theorem tripSetComplete_frame {A : List Block} (u : State) (r : Rack) (s : State)
    (hlimits : Block.limits ∈ A) (hsequencer : Block.sequencer ∈ A) (htrips : Block.trips ∈ A)
      (hconverter : Block.converter ∈ A) (hsite : Block.site ∈ A) (hchoices : Block.choices ∈ A) :
    u.sameBut (tripSetComplete r s) A ↔ u.sameBut s A := by
  simp only [tripSetComplete, judgeRackLatches_frame, markHeard_frame, overcurrentCheck_frame,
      sameBut_ite, ite_self, hlimits, hsequencer, htrips, hconverter, hsite, hchoices,
      implies_true]

/-! ## Machine/BalanceCore.lean -/

@[simp] theorem mapRingNode_frame {A : List Block} (u : State) (node : Nat)
      (f : RingNode → RingNode) (s : State)
    (hring : Block.ring ∈ A) :
    u.sameBut (mapRingNode node f s) A ↔ u.sameBut s A := by
  simp only [mapRingNode, withRing_frame, sameBut_ite, ite_self, hring, implies_true]

@[simp] theorem mapBalanceNode_frame {A : List Block} (u : State) (node : Nat)
      (f : BalanceNode → BalanceNode) (s : State)
    (hbalance : Block.balance ∈ A) :
    u.sameBut (mapBalanceNode node f s) A ↔ u.sameBut s A := by
  simp only [mapBalanceNode, withBalance_frame, sameBut_ite, ite_self, hbalance, implies_true]

@[simp] theorem mapRecords_frame {A : List Block} (u : State) (f : BalanceRecord → BalanceRecord)
      (s : State)
    (hbalance : Block.balance ∈ A) :
    u.sameBut (mapRecords f s) A ↔ u.sameBut s A := by
  simp only [mapRecords, withBalance_frame, sameBut_ite, ite_self, hbalance, implies_true]

@[simp] theorem handMask_frame {A : List Block} (u : State) (node : Nat) (s : State)
    (hring : Block.ring ∈ A) (hbalance : Block.balance ∈ A) :
    u.sameBut (handMask node s) A ↔ u.sameBut s A := by
  simp only [handMask, mapRingNode_frame, mapRecords_frame, sameBut_ite, ite_self, hring,
      hbalance, implies_true]

@[simp] theorem handMasks_frame {A : List Block} (u : State) (nodes : List Nat) (s : State)
    (hring : Block.ring ∈ A) (hbalance : Block.balance ∈ A) :
    u.sameBut (handMasks nodes s) A ↔ u.sameBut s A := by
  simp only [handMasks, handMask_frame, sameBut_ite, ite_self, foldl_frame, implies_true, hring,
      hbalance]

@[simp] theorem moveRecords_frame {A : List Block} (u : State) (f : BalanceRecord → BalanceRecord)
      (s : State)
    (hring : Block.ring ∈ A) (hbalance : Block.balance ∈ A) :
    u.sameBut (moveRecords f s) A ↔ u.sameBut s A := by
  simp only [moveRecords, mapRecords_frame, handMasks_frame, sameBut_ite, ite_self, hring,
      hbalance, implies_true]

@[simp] theorem endActive_frame {A : List Block} (u : State) (named : BalanceRecord → Bool)
      (s : State)
    (hring : Block.ring ∈ A) (hbalance : Block.balance ∈ A) :
    u.sameBut (endActive named s) A ↔ u.sameBut s A := by
  simp only [endActive, moveRecords_frame, sameBut_ite, ite_self, hring, hbalance, implies_true]

@[simp] theorem suspendRecords_frame {A : List Block} (u : State) (node : Nat) (s : State)
    (hbalance : Block.balance ∈ A) :
    u.sameBut (suspendRecords node s) A ↔ u.sameBut s A := by
  simp only [suspendRecords, mapRecords_frame, sameBut_ite, ite_self, hbalance, implies_true]

@[simp] theorem resumeRecords_frame {A : List Block} (u : State) (node : Nat) (s : State)
    (hbalance : Block.balance ∈ A) :
    u.sameBut (resumeRecords node s) A ↔ u.sameBut s A := by
  simp only [resumeRecords, mapRecords_frame, sameBut_ite, ite_self, hbalance, implies_true]

@[simp] theorem boundActive_frame {A : List Block} (u : State) (allowance : Nat) (s : State)
    (hring : Block.ring ∈ A) (hbalance : Block.balance ∈ A) :
    u.sameBut (boundActive allowance s) A ↔ u.sameBut s A := by
  simp only [boundActive, endActive_frame, sameBut_ite, ite_self, hring, hbalance, implies_true]

@[simp] theorem selectCells_frame {A : List Block} (u : State) (r : Rack) (s : State)
    (hbalance : Block.balance ∈ A) :
    u.sameBut (selectCells r s) A ↔ u.sameBut s A := by
  unfold selectCells
  (repeat' split) <;> simp only [mapRecords_frame, setRackBalance_frame, sameBut_ite, ite_self,
      hbalance, implies_true]

@[simp] theorem firstSetCheck_frame {A : List Block} (u : State) (r : Rack) (s : State)
    (hbalance : Block.balance ∈ A) (hsite : Block.site ∈ A) :
    u.sameBut (firstSetCheck r s) A ↔ u.sameBut s A := by
  simp only [firstSetCheck, mapRecords_frame, postAll_frame, setRackBalance_frame, sameBut_ite,
      ite_self, hbalance, hsite, implies_true]

@[simp] theorem balanceSetComplete_frame {A : List Block} (u : State) (r : Rack) (s : State)
    (hring : Block.ring ∈ A) (hbalance : Block.balance ∈ A) (hsite : Block.site ∈ A) :
    u.sameBut (balanceSetComplete r s) A ↔ u.sameBut s A := by
  unfold balanceSetComplete
  simp only [firstSetCheck_frame, setRackBalance_frame, selectCells_frame,
      mapRecords_frame, handMasks_frame, sameBut_ite, ite_self, hring, hbalance, hsite,
      implies_true]

@[simp] theorem reload_frame {A : List Block} (u : State) (named : Rack → Bool) (s : State)
    (hring : Block.ring ∈ A) (hbalance : Block.balance ∈ A) (hsite : Block.site ∈ A) :
    u.sameBut (reload named s) A ↔ u.sameBut s A := by
  unfold reload
  simp only [postAll_frame, moveRecords_frame, sameBut_ite, ite_self, hring,
      hbalance, hsite, implies_true]

@[simp] theorem powerOnReload_frame {A : List Block} (u : State) (s : State)
    (hring : Block.ring ∈ A) (hbalance : Block.balance ∈ A) (hsite : Block.site ∈ A) :
    u.sameBut (powerOnReload s) A ↔ u.sameBut s A := by
  simp only [powerOnReload, reload_frame, withBalance_frame, sameBut_ite, ite_self, hring,
      hbalance, hsite, implies_true]

@[simp] theorem secondBoundary_frame {A : List Block} (u : State) (s : State)
    (hring : Block.ring ∈ A) (hbalance : Block.balance ∈ A) (hsite : Block.site ∈ A) :
    u.sameBut (secondBoundary s) A ↔ u.sameBut s A := by
  simp only [secondBoundary, postAll_frame, moveRecords_frame, sameBut_ite, ite_self, hring,
      hbalance, hsite, implies_true]

@[simp] theorem echoCheck_frame {A : List Block} (u : State) (node : Nat)
      (applied commanded : CellMask) (s : State)
    (hring : Block.ring ∈ A) (hbalance : Block.balance ∈ A) :
    u.sameBut (echoCheck node applied commanded s) A ↔ u.sameBut s A := by
  simp only [echoCheck]
  (repeat' split) <;> simp only [mapRecords_frame, mapBalanceNode_frame, handMask_frame,
      suspendRecords_frame, sameBut_ite, ite_self, hring, hbalance, implies_true]

@[simp] theorem bleedHot_frame {A : List Block} (u : State) (e : SlotEntry) (s : State)
    (hring : Block.ring ∈ A) (hbalance : Block.balance ∈ A) :
    u.sameBut (bleedHot e s) A ↔ u.sameBut s A := by
  simp only [bleedHot, handMask_frame, suspendRecords_frame, mapBalanceNode_frame, sameBut_ite,
      ite_self, hring, hbalance, implies_true]

@[simp] theorem balanceRestart_frame {A : List Block} (u : State) (node : Nat) (s : State)
    (hring : Block.ring ∈ A) (hbalance : Block.balance ∈ A) :
    u.sameBut (balanceRestart node s) A ↔ u.sameBut s A := by
  simp only [balanceRestart, mapRecords_frame, mapBalanceNode_frame, handMask_frame,
      resumeRecords_frame, sameBut_ite, ite_self, hring, hbalance, implies_true]

/-! ## Machine/CoolingCore.lean -/

@[simp] theorem composeCommands_frame {A : List Block} (u : State) (s : State)
    (hcooling : Block.cooling ∈ A) :
    u.sameBut (composeCommands s) A ↔ u.sameBut s A := by
  simp only [composeCommands, withCooling_frame, sameBut_ite, ite_self, hcooling, implies_true]

@[simp] theorem refreshFactor_frame {A : List Block} (u : State) (s : State)
    (hcooling : Block.cooling ∈ A) :
    u.sameBut (refreshFactor s) A ↔ u.sameBut s A := by
  simp only [refreshFactor, withCooling_frame, sameBut_ite, ite_self, hcooling, implies_true]

@[simp] theorem refreshAllowance_frame {A : List Block} (u : State) (s : State)
    (hring : Block.ring ∈ A) (hbalance : Block.balance ∈ A) (hcooling : Block.cooling ∈ A) :
    u.sameBut (refreshAllowance s) A ↔ u.sameBut s A := by
  simp only [refreshAllowance, boundActive_frame, withCooling_frame, sameBut_ite, ite_self, hring,
      hbalance, hcooling, implies_true]

@[simp] theorem judgeCoolingLoss_frame {A : List Block} (u : State) (s : State)
    (hlimits : Block.limits ∈ A) (hcooling : Block.cooling ∈ A) (hsequencer : Block.sequencer ∈ A)
      (htrips : Block.trips ∈ A) (hconverter : Block.converter ∈ A) (hsite : Block.site ∈ A)
      (hchoices : Block.choices ∈ A) :
    u.sameBut (judgeCoolingLoss s) A ↔ u.sameBut s A := by
  unfold judgeCoolingLoss
  (repeat' split) <;> simp only [withCooling_frame, takeCause_frame, sameBut_ite, ite_self,
      hlimits, hcooling, hsequencer, htrips, hconverter, hsite, hchoices, implies_true]

@[simp] theorem pumpChanged_frame {A : List Block} (u : State) (s : State)
    (hlimits : Block.limits ∈ A) (hcooling : Block.cooling ∈ A) (hsequencer : Block.sequencer ∈ A)
      (htrips : Block.trips ∈ A) (hconverter : Block.converter ∈ A) (hsite : Block.site ∈ A)
      (hchoices : Block.choices ∈ A) :
    u.sameBut (pumpChanged s) A ↔ u.sameBut s A := by
  simp only [pumpChanged, judgeContainerLatch_frame, judgeCoolingLoss_frame, sameBut_ite,
      ite_self, hlimits, hcooling, hsequencer, htrips, hconverter, hsite, hchoices, implies_true]

@[simp] theorem statusesChanged_frame {A : List Block} (u : State) (pump : Bool) (s : State)
    (hring : Block.ring ∈ A) (hlimits : Block.limits ∈ A) (hbalance : Block.balance ∈ A)
      (hcooling : Block.cooling ∈ A) (hsequencer : Block.sequencer ∈ A) (htrips : Block.trips ∈ A)
      (hconverter : Block.converter ∈ A) (hsite : Block.site ∈ A) (hchoices : Block.choices ∈ A) :
    u.sameBut (statusesChanged pump s) A ↔ u.sameBut s A := by
  simp only [statusesChanged, refreshAllowance_frame, refreshFactor_frame, composeCommands_frame,
      pumpChanged_frame, sameBut_ite, ite_self, hring, hlimits, hbalance, hcooling, hsequencer,
      htrips, hconverter, hsite, hchoices, implies_true]

@[simp] theorem expireProof_frame {A : List Block} (u : State) (o : Output) (s : State)
    (hring : Block.ring ∈ A) (hlimits : Block.limits ∈ A) (hbalance : Block.balance ∈ A)
      (hcooling : Block.cooling ∈ A) (hsequencer : Block.sequencer ∈ A) (htrips : Block.trips ∈ A)
      (hconverter : Block.converter ∈ A) (hsite : Block.site ∈ A) (hchoices : Block.choices ∈ A) :
    u.sameBut (expireProof o s) A ↔ u.sameBut s A := by
  simp only [expireProof, statusesChanged_frame, post_frame, setOutput_frame, sameBut_ite,
      ite_self, hring, hlimits, hbalance, hcooling, hsequencer, htrips, hconverter, hsite,
      hchoices, implies_true]

@[simp] theorem setLevel_frame {A : List Block} (u : State) (k : Nat) (s : State)
    (hring : Block.ring ∈ A) (hbalance : Block.balance ∈ A) (hcooling : Block.cooling ∈ A) :
    u.sameBut (setLevel k s) A ↔ u.sameBut s A := by
  simp only [setLevel, refreshAllowance_frame, composeCommands_frame, withCooling_frame,
      sameBut_ite, ite_self, hring, hbalance, hcooling, implies_true]

@[simp] theorem setHeaterDemand_frame {A : List Block} (u : State) (on : Bool) (s : State)
    (hcooling : Block.cooling ∈ A) :
    u.sameBut (setHeaterDemand on s) A ↔ u.sameBut s A := by
  simp only [setHeaterDemand, composeCommands_frame, withCooling_frame, sameBut_ite, ite_self,
      hcooling, implies_true]

@[simp] theorem resolveVentilation_frame {A : List Block} (u : State) (s : State)
    (hring : Block.ring ∈ A) (hbalance : Block.balance ∈ A) (hcooling : Block.cooling ∈ A)
      (hsite : Block.site ∈ A) :
    u.sameBut (resolveVentilation s) A ↔ u.sameBut s A := by
  simp only [resolveVentilation, produceContainerSummary_frame, refreshAllowance_frame,
      composeCommands_frame, withCooling_frame, sameBut_ite, ite_self, hring, hbalance, hcooling,
      hsite, implies_true]

@[simp] theorem expireBlindHold_frame {A : List Block} (u : State) (s : State)
    (hring : Block.ring ∈ A) (hbalance : Block.balance ∈ A) (hcooling : Block.cooling ∈ A)
      (hsite : Block.site ∈ A) :
    u.sameBut (expireBlindHold s) A ↔ u.sameBut s A := by
  unfold expireBlindHold
  (repeat' split) <;> simp only [withCooling_frame, setLevel_frame, setHeaterDemand_frame,
      post_frame, sameBut_ite, ite_self, hring, hbalance, hcooling, hsite, implies_true]

@[simp] theorem ringModeChange_frame {A : List Block} (u : State) (before after : Mode) (s : State)
    (hring : Block.ring ∈ A) :
    u.sameBut (ringModeChange before after s) A ↔ u.sameBut s A := by
  unfold ringModeChange
  (repeat' split) <;> simp only [withRing_frame, sameBut_ite, ite_self, hring, implies_true]

@[simp] theorem balanceModeChange_frame {A : List Block} (u : State) (before after : Mode)
      (s : State)
    (hring : Block.ring ∈ A) (hbalance : Block.balance ∈ A) :
    u.sameBut (balanceModeChange before after s) A ↔ u.sameBut s A := by
  simp only [balanceModeChange, endActive_frame, sameBut_ite, ite_self, hring, hbalance,
      implies_true]

@[simp] theorem coolingModeChange_frame {A : List Block} (u : State) (after : Mode) (s : State)
    (hring : Block.ring ∈ A) (hbalance : Block.balance ∈ A) (hcooling : Block.cooling ∈ A) :
    u.sameBut (coolingModeChange after s) A ↔ u.sameBut s A := by
  simp only [coolingModeChange, setLevel_frame, sameBut_ite, ite_self, hring, hbalance, hcooling,
      implies_true]

@[simp] theorem changeMode_frame {A : List Block} (u : State) (after : Mode) (cause : ModeCause)
      (s : State)
    (hring : Block.ring ∈ A) (hbalance : Block.balance ∈ A) (hcooling : Block.cooling ∈ A)
      (hsite : Block.site ∈ A) (hchoices : Block.choices ∈ A) :
    u.sameBut (changeMode after cause s) A ↔ u.sameBut s A := by
  simp only [changeMode, post_frame, produceContainerSummary_frame, ringModeChange_frame,
      balanceModeChange_frame, coolingModeChange_frame, withSite_frame, sameBut_ite, ite_self,
      inAnyOrder_map_frame, inAnyOrder_frame, List.mem_cons, List.not_mem_nil, forall_eq_or_imp,
      or_false, forall_eq, imp_false, IsEmpty.forall_iff, implies_true, and_true, and_self, hring,
      hbalance, hcooling, hsite, hchoices]

@[simp] theorem leaveStandby_frame {A : List Block} (u : State) (cause : ModeCause) (s : State)
    (hring : Block.ring ∈ A) (hbalance : Block.balance ∈ A) (hcooling : Block.cooling ∈ A)
      (hsite : Block.site ∈ A) (hchoices : Block.choices ∈ A) :
    u.sameBut (leaveStandby cause s) A ↔ u.sameBut s A := by
  simp only [leaveStandby, changeMode_frame, sameBut_ite, ite_self, hring, hbalance, hcooling,
      hsite, hchoices, implies_true]

/-! ## Machine/FireCore.lean -/

@[simp] theorem tripAtStage_frame {A : List Block} (u : State) (before after : FireStage)
      (cause : StageCause) (s : State)
    (hlimits : Block.limits ∈ A) (hsequencer : Block.sequencer ∈ A) (htrips : Block.trips ∈ A)
      (hconverter : Block.converter ∈ A) (hsite : Block.site ∈ A) (hchoices : Block.choices ∈ A) :
    u.sameBut (tripAtStage before after cause s) A ↔ u.sameBut s A := by
  simp only [tripAtStage, judgeContainerLatch_frame, takeCause_frame, sameBut_ite, ite_self,
      hlimits, hsequencer, htrips, hconverter, hsite, hchoices, implies_true]

@[simp] theorem siteAtStage_frame {A : List Block} (u : State) (before after : FireStage)
      (cause : StageCause) (s : State)
    (hring : Block.ring ∈ A) (hbalance : Block.balance ∈ A) (hcooling : Block.cooling ∈ A)
      (hsite : Block.site ∈ A) (hchoices : Block.choices ∈ A) :
    u.sameBut (siteAtStage before after cause s) A ↔ u.sameBut s A := by
  simp only [siteAtStage, produceContainerSummary_frame, post_frame, leaveStandby_frame,
      sameBut_ite, ite_self, hring, hbalance, hcooling, hsite, hchoices, implies_true]

@[simp] theorem handStage_frame {A : List Block} (u : State) (before after : FireStage)
      (cause : StageCause) (s : State)
    (hring : Block.ring ∈ A) (hlimits : Block.limits ∈ A) (hbalance : Block.balance ∈ A)
      (hcooling : Block.cooling ∈ A) (hsequencer : Block.sequencer ∈ A) (htrips : Block.trips ∈ A)
      (hconverter : Block.converter ∈ A) (hsite : Block.site ∈ A) (hchoices : Block.choices ∈ A) :
    u.sameBut (handStage before after cause s) A ↔ u.sameBut s A := by
  simp only [handStage, refreshAllowance_frame, resolveVentilation_frame, endActive_frame,
      workOutContainer_frame, withdrawConnects_frame, tripAtStage_frame, judgePermit_frame,
      siteAtStage_frame, sameBut_ite, ite_self, inAnyOrder_map_frame, inAnyOrder_frame,
      List.mem_cons, List.not_mem_nil, forall_eq_or_imp, or_false, forall_eq, imp_false,
      IsEmpty.forall_iff, implies_true, and_true, and_self, hring, hlimits, hbalance, hcooling,
      hsequencer, htrips, hconverter, hsite, hchoices]

@[simp] theorem enterStage_frame {A : List Block} (u : State) (after : FireStage) (s : State)
    (hfire : Block.fire ∈ A) :
    u.sameBut (enterStage after s) A ↔ u.sameBut s A := by
  simp only [enterStage, withFire_frame, sameBut_ite, ite_self, hfire, implies_true]

@[simp] theorem moveStage_frame {A : List Block} (u : State) (after : FireStage)
      (cause : StageCause) (s : State)
    (hring : Block.ring ∈ A) (hlimits : Block.limits ∈ A) (hbalance : Block.balance ∈ A)
      (hcooling : Block.cooling ∈ A) (hfire : Block.fire ∈ A) (hsequencer : Block.sequencer ∈ A)
      (htrips : Block.trips ∈ A) (hconverter : Block.converter ∈ A) (hsite : Block.site ∈ A)
      (hchoices : Block.choices ∈ A) :
    u.sameBut (moveStage after cause s) A ↔ u.sameBut s A := by
  simp only [moveStage, handStage_frame, enterStage_frame, sameBut_ite, ite_self, hring, hlimits,
      hbalance, hcooling, hfire, hsequencer, htrips, hconverter, hsite, hchoices, implies_true]

@[simp] theorem expireCountdown_frame {A : List Block} (u : State) (s : State)
    (hring : Block.ring ∈ A) (hlimits : Block.limits ∈ A) (hbalance : Block.balance ∈ A)
      (hcooling : Block.cooling ∈ A) (hfire : Block.fire ∈ A) (hsequencer : Block.sequencer ∈ A)
      (htrips : Block.trips ∈ A) (hconverter : Block.converter ∈ A) (hsite : Block.site ∈ A)
      (hchoices : Block.choices ∈ A) :
    u.sameBut (expireCountdown s) A ↔ u.sameBut s A := by
  simp only [expireCountdown, moveStage_frame, sameBut_ite, ite_self, hring, hlimits, hbalance,
      hcooling, hfire, hsequencer, htrips, hconverter, hsite, hchoices, implies_true]

@[simp] theorem countdownAtOnce_frame {A : List Block} (u : State) (s : State)
    (hring : Block.ring ∈ A) (hlimits : Block.limits ∈ A) (hbalance : Block.balance ∈ A)
      (hcooling : Block.cooling ∈ A) (hfire : Block.fire ∈ A) (hsequencer : Block.sequencer ∈ A)
      (htrips : Block.trips ∈ A) (hconverter : Block.converter ∈ A) (hsite : Block.site ∈ A)
      (hchoices : Block.choices ∈ A) :
    u.sameBut (countdownAtOnce s) A ↔ u.sameBut s A := by
  simp only [countdownAtOnce, expireCountdown_frame, sameBut_ite, ite_self, hring, hlimits,
      hbalance, hcooling, hfire, hsequencer, htrips, hconverter, hsite, hchoices, implies_true]

@[simp] theorem moveStageFor_frame {A : List Block} (u : State) (after : FireStage)
      (causes : List StageCause) (s : State)
    (hring : Block.ring ∈ A) (hlimits : Block.limits ∈ A) (hbalance : Block.balance ∈ A)
      (hcooling : Block.cooling ∈ A) (hfire : Block.fire ∈ A) (hsequencer : Block.sequencer ∈ A)
      (htrips : Block.trips ∈ A) (hconverter : Block.converter ∈ A) (hsite : Block.site ∈ A)
      (hchoices : Block.choices ∈ A) :
    u.sameBut (moveStageFor after causes s) A ↔ u.sameBut s A := by
  have h := pickFree_frame u causes s hchoices
  unfold moveStageFor
  split
  · next hp =>
    rw [hp] at h
    simp only [moveStage_frame, hring, hlimits, hbalance, hcooling, hfire, hsequencer, htrips,
      hconverter, hsite, hchoices, h]
  · next hp =>
    rw [hp] at h
    exact h

@[simp] theorem judgeStage_frame {A : List Block} (u : State) (s : State)
    (hring : Block.ring ∈ A) (hlimits : Block.limits ∈ A) (hbalance : Block.balance ∈ A)
      (hcooling : Block.cooling ∈ A) (hfire : Block.fire ∈ A) (hsequencer : Block.sequencer ∈ A)
      (htrips : Block.trips ∈ A) (hconverter : Block.converter ∈ A) (hsite : Block.site ∈ A)
      (hchoices : Block.choices ∈ A) :
    u.sameBut (judgeStage s) A ↔ u.sameBut s A := by
  unfold judgeStage
  (repeat' split) <;> simp only [countdownAtOnce_frame, moveStageFor_frame, moveStage_frame,
      sameBut_ite, ite_self, hring, hlimits, hbalance, hcooling, hfire, hsequencer, htrips,
      hconverter, hsite, hchoices, implies_true]

@[simp] theorem judgeHold_frame {A : List Block} (u : State) (s : State)
    (hring : Block.ring ∈ A) (hlimits : Block.limits ∈ A) (hbalance : Block.balance ∈ A)
      (hcooling : Block.cooling ∈ A) (hfire : Block.fire ∈ A) (hsequencer : Block.sequencer ∈ A)
      (htrips : Block.trips ∈ A) (hconverter : Block.converter ∈ A) (hsite : Block.site ∈ A)
      (hchoices : Block.choices ∈ A) :
    u.sameBut (judgeHold s) A ↔ u.sameBut s A := by
  simp only [judgeHold, withFire_frame, countdownAtOnce_frame, sameBut_ite, ite_self, hring,
      hlimits, hbalance, hcooling, hfire, hsequencer, htrips, hconverter, hsite, hchoices,
      implies_true]

@[simp] theorem feedbackHeard_frame {A : List Block} (u : State) (s : State)
    (hfire : Block.fire ∈ A) :
    u.sameBut (feedbackHeard s) A ↔ u.sameBut s A := by
  simp only [feedbackHeard, withFire_frame, sameBut_ite, ite_self, hfire, implies_true]

@[simp] theorem expireWatch_frame {A : List Block} (u : State) (s : State)
    (hfire : Block.fire ∈ A) (hsite : Block.site ∈ A) :
    u.sameBut (expireWatch s) A ↔ u.sameBut s A := by
  simp only [expireWatch, post_frame, withFire_frame, sameBut_ite, ite_self, hfire, hsite,
      implies_true]

@[simp] theorem takeClass_frame {A : List Block} (u : State) (l : Line) (c : LineClass) (s : State)
    (hring : Block.ring ∈ A) (hlimits : Block.limits ∈ A) (hbalance : Block.balance ∈ A)
      (hcooling : Block.cooling ∈ A) (hfire : Block.fire ∈ A) (hsequencer : Block.sequencer ∈ A)
      (htrips : Block.trips ∈ A) (hconverter : Block.converter ∈ A) (hsite : Block.site ∈ A)
      (hchoices : Block.choices ∈ A) :
    u.sameBut (takeClass l c s) A ↔ u.sameBut s A := by
  simp only [takeClass, setLine_frame, post_frame, judgeHold_frame, feedbackHeard_frame,
      judgeStage_frame, sameBut_ite, ite_self, hring, hlimits, hbalance, hcooling, hfire,
      hsequencer, htrips, hconverter, hsite, hchoices, implies_true]

@[simp] theorem debounceDue_frame {A : List Block} (u : State) (l : Line) (s : State)
    (hring : Block.ring ∈ A) (hlimits : Block.limits ∈ A) (hbalance : Block.balance ∈ A)
      (hcooling : Block.cooling ∈ A) (hfire : Block.fire ∈ A) (hsequencer : Block.sequencer ∈ A)
      (htrips : Block.trips ∈ A) (hconverter : Block.converter ∈ A) (hsite : Block.site ∈ A)
      (hchoices : Block.choices ∈ A) :
    u.sameBut (debounceDue l s) A ↔ u.sameBut s A := by
  unfold debounceDue
  (repeat' split) <;> simp only [takeClass_frame, sameBut_ite, ite_self, hring, hlimits, hbalance,
      hcooling, hfire, hsequencer, htrips, hconverter, hsite, hchoices, implies_true]

@[simp] theorem clearLineLatch_frame {A : List Block} (u : State) (l : Line) (s : State)
    (hring : Block.ring ∈ A) (hlimits : Block.limits ∈ A) (hbalance : Block.balance ∈ A)
      (hcooling : Block.cooling ∈ A) (hfire : Block.fire ∈ A) (hsequencer : Block.sequencer ∈ A)
      (htrips : Block.trips ∈ A) (hconverter : Block.converter ∈ A) (hsite : Block.site ∈ A)
      (hchoices : Block.choices ∈ A) :
    u.sameBut (clearLineLatch l s) A ↔ u.sameBut s A := by
  simp only [clearLineLatch, judgeStage_frame, post_frame, setLine_frame, sameBut_ite, ite_self,
      hring, hlimits, hbalance, hcooling, hfire, hsequencer, htrips, hconverter, hsite, hchoices,
      implies_true]

@[simp] theorem handGas_frame {A : List Block} (u : State) (before after : GasState)
      (channel : GasChannel) (v : Int) (stamp : PartTime) (s : State)
    (hring : Block.ring ∈ A) (hlimits : Block.limits ∈ A) (hbalance : Block.balance ∈ A)
      (hcooling : Block.cooling ∈ A) (hsequencer : Block.sequencer ∈ A) (htrips : Block.trips ∈ A)
      (hconverter : Block.converter ∈ A) (hsite : Block.site ∈ A) (hchoices : Block.choices ∈ A) :
    u.sameBut (handGas before after channel v stamp s) A ↔ u.sameBut s A := by
  simp only [handGas, resolveVentilation_frame, endActive_frame, withdrawConnects_frame,
      judgeContainerLatch_frame, takeCause_frame, produceContainerSummary_frame,
      leaveStandby_frame, sameBut_ite, ite_self, inAnyOrder_map_frame, inAnyOrder_frame,
      List.mem_cons, List.not_mem_nil, forall_eq_or_imp, or_false, forall_eq, imp_false,
      IsEmpty.forall_iff, implies_true, and_true, and_self, hring, hlimits, hbalance, hcooling,
      hsequencer, htrips, hconverter, hsite, hchoices]

@[simp] theorem gasChanged_frame {A : List Block} (u : State) (channel : GasChannel) (v : Int)
      (stamp : PartTime) (s : State)
    (hring : Block.ring ∈ A) (hlimits : Block.limits ∈ A) (hbalance : Block.balance ∈ A)
      (hcooling : Block.cooling ∈ A) (hfire : Block.fire ∈ A) (hsequencer : Block.sequencer ∈ A)
      (htrips : Block.trips ∈ A) (hconverter : Block.converter ∈ A) (hsite : Block.site ∈ A)
      (hchoices : Block.choices ∈ A) :
    u.sameBut (gasChanged channel v stamp s) A ↔ u.sameBut s A := by
  simp only [gasChanged, handGas_frame, judgeStage_frame, post_frame, withFire_frame, sameBut_ite,
      ite_self, hring, hlimits, hbalance, hcooling, hfire, hsequencer, htrips, hconverter, hsite,
      hchoices, implies_true]

@[simp] theorem judgeH2_frame {A : List Block} (u : State) (node : Nat) (s : State)
    (hring : Block.ring ∈ A) (hlimits : Block.limits ∈ A) (hbalance : Block.balance ∈ A)
      (hcooling : Block.cooling ∈ A) (hfire : Block.fire ∈ A) (hsequencer : Block.sequencer ∈ A)
      (htrips : Block.trips ∈ A) (hconverter : Block.converter ∈ A) (hsite : Block.site ∈ A)
      (hchoices : Block.choices ∈ A) :
    u.sameBut (judgeH2 node s) A ↔ u.sameBut s A := by
  unfold judgeH2
  (repeat' split) <;> simp only [gasChanged_frame, withFire_frame, sameBut_ite, ite_self, hring,
      hlimits, hbalance, hcooling, hfire, hsequencer, htrips, hconverter, hsite, hchoices,
      implies_true]

@[simp] theorem judgeCo_frame {A : List Block} (u : State) (node : Nat) (s : State)
    (hring : Block.ring ∈ A) (hlimits : Block.limits ∈ A) (hbalance : Block.balance ∈ A)
      (hcooling : Block.cooling ∈ A) (hfire : Block.fire ∈ A) (hsequencer : Block.sequencer ∈ A)
      (htrips : Block.trips ∈ A) (hconverter : Block.converter ∈ A) (hsite : Block.site ∈ A)
      (hchoices : Block.choices ∈ A) :
    u.sameBut (judgeCo node s) A ↔ u.sameBut s A := by
  unfold judgeCo
  (repeat' split) <;> simp only [gasChanged_frame, withFire_frame, sameBut_ite, ite_self, hring,
      hlimits, hbalance, hcooling, hfire, hsequencer, htrips, hconverter, hsite, hchoices,
      implies_true]

@[simp] theorem refreshGasFault_frame {A : List Block} (u : State) (s : State)
    (hfire : Block.fire ∈ A) :
    u.sameBut (refreshGasFault s) A ↔ u.sameBut s A := by
  simp only [refreshGasFault, withFire_frame, sameBut_ite, ite_self, hfire, implies_true]

@[simp] theorem plantNotice_frame {A : List Block} (u : State) (node : Nat) (s : State)
    (hring : Block.ring ∈ A) (hlimits : Block.limits ∈ A) (hbalance : Block.balance ∈ A)
      (hcooling : Block.cooling ∈ A) (hfire : Block.fire ∈ A) (hsequencer : Block.sequencer ∈ A)
      (htrips : Block.trips ∈ A) (hconverter : Block.converter ∈ A) (hsite : Block.site ∈ A)
      (hchoices : Block.choices ∈ A) :
    u.sameBut (plantNotice node s) A ↔ u.sameBut s A := by
  simp only [plantNotice, judgeH2_frame, judgeCo_frame, refreshGasFault_frame, sameBut_ite,
      ite_self, inAnyOrder_map_frame, inAnyOrder_frame, List.mem_cons, List.not_mem_nil,
      forall_eq_or_imp, or_false, forall_eq, imp_false, IsEmpty.forall_iff, implies_true,
      and_true, and_self, hring, hlimits, hbalance, hcooling, hfire, hsequencer, htrips,
      hconverter, hsite, hchoices]

@[simp] theorem fireSwapped_frame {A : List Block} (u : State) (old : Line → LineSettings)
      (s : State)
    (hring : Block.ring ∈ A) (hlimits : Block.limits ∈ A) (hbalance : Block.balance ∈ A)
      (hcooling : Block.cooling ∈ A) (hfire : Block.fire ∈ A) (hsequencer : Block.sequencer ∈ A)
      (htrips : Block.trips ∈ A) (hconverter : Block.converter ∈ A) (hsite : Block.site ∈ A)
      (hchoices : Block.choices ∈ A) :
    u.sameBut (fireSwapped old s) A ↔ u.sameBut s A := by
  simp only [fireSwapped, withFire_frame, judgeStage_frame, debounceDue_frame, sameBut_ite,
      ite_self, inAnyOrder_map_frame, inAnyOrder_frame, List.mem_cons, List.not_mem_nil,
      forall_eq_or_imp, or_false, forall_eq, imp_false, IsEmpty.forall_iff, implies_true,
      and_true, and_self, hring, hlimits, hbalance, hcooling, hfire, hsequencer, htrips,
      hconverter, hsite, hchoices]

/-! ## Machine/SampleCore.lean -/

@[simp] theorem mapRecord_frame {A : List Block} (u : State) (node channel : Nat)
      (f : Record → Record) (s : State)
    (hsamples : Block.samples ∈ A) :
    u.sameBut (mapRecord node channel f s) A ↔ u.sameBut s A := by
  simp only [mapRecord, withSamples_frame, sameBut_ite, ite_self, hsamples, implies_true]

@[simp] theorem mapSampleNode_frame {A : List Block} (u : State) (node : Nat)
      (f : SampleNode → SampleNode) (s : State)
    (hsamples : Block.samples ∈ A) :
    u.sameBut (mapSampleNode node f s) A ↔ u.sameBut s A := by
  simp only [mapSampleNode, withSamples_frame, sameBut_ite, ite_self, hsamples, implies_true]

@[simp] theorem refreshBlind_frame {A : List Block} (u : State) (r : Rack) (s : State)
    (hsamples : Block.samples ∈ A) :
    u.sameBut (refreshBlind r s) A ↔ u.sameBut s A := by
  simp only [refreshBlind, setRackSamples_frame, sameBut_ite, ite_self, hsamples, implies_true]

@[simp] theorem refreshBlindOf_frame {A : List Block} (u : State) (r : Option Rack) (s : State)
    (hsamples : Block.samples ∈ A) :
    u.sameBut (refreshBlindOf r s) A ↔ u.sameBut s A := by
  unfold refreshBlindOf
  (repeat' split) <;> simp only [refreshBlind_frame, sameBut_ite, ite_self, hsamples, implies_true]

@[simp] theorem expireBlind_frame {A : List Block} (u : State) (r : Rack) (blindTime : Nat)
      (s : State)
    (hsamples : Block.samples ∈ A) (hlimits : Block.limits ∈ A) (hsequencer : Block.sequencer ∈ A)
      (htrips : Block.trips ∈ A) (hconverter : Block.converter ∈ A) (hsite : Block.site ∈ A)
      (hchoices : Block.choices ∈ A) :
    u.sameBut (expireBlind r blindTime s) A ↔ u.sameBut s A := by
  simp only [expireBlind, takeCause_frame, setRackSamples_frame, sameBut_ite, ite_self, hsamples,
      hlimits, hsequencer, htrips, hconverter, hsite, hchoices, implies_true]

@[simp] theorem blindDue_frame {A : List Block} (u : State) (r : Rack) (s : State)
    (hsamples : Block.samples ∈ A) (hlimits : Block.limits ∈ A) (hsequencer : Block.sequencer ∈ A)
      (htrips : Block.trips ∈ A) (hconverter : Block.converter ∈ A) (hsite : Block.site ∈ A)
      (hchoices : Block.choices ∈ A) :
    u.sameBut (blindDue r s) A ↔ u.sameBut s A := by
  simp only [blindDue, expireBlind_frame, sameBut_ite, ite_self, hsamples, hlimits, hsequencer,
      htrips, hconverter, hsite, hchoices, implies_true]

@[simp] theorem levelChanged_frame {A : List Block} (u : State) (rec_ : Record) (side : LevelSide)
      (before after : Level) (s : State)
    (hring : Block.ring ∈ A) (hlimits : Block.limits ∈ A) (hbalance : Block.balance ∈ A)
      (hcooling : Block.cooling ∈ A) (hsequencer : Block.sequencer ∈ A) (htrips : Block.trips ∈ A)
      (hconverter : Block.converter ∈ A) (hsite : Block.site ∈ A) (hchoices : Block.choices ∈ A) :
    u.sameBut (levelChanged rec_ side before after s) A ↔ u.sameBut s A := by
  unfold levelChanged
  (repeat' split) <;> simp only [takeCause_frame, leaveStandby_frame, post_frame, sameBut_ite,
      ite_self, inAnyOrder_map_frame, inAnyOrder_frame, List.mem_cons, List.not_mem_nil,
      forall_eq_or_imp, or_false, forall_eq, imp_false, IsEmpty.forall_iff, implies_true,
      and_true, and_self, hring, hlimits, hbalance, hcooling, hsequencer, htrips, hconverter,
      hsite, hchoices]

@[simp] theorem sideChange_frame {A : List Block} (u : State) (rec_ : Record) (side : LevelSide)
      (before after : Option SideState) (s : State)
    (hring : Block.ring ∈ A) (hlimits : Block.limits ∈ A) (hbalance : Block.balance ∈ A)
      (hcooling : Block.cooling ∈ A) (hsequencer : Block.sequencer ∈ A) (htrips : Block.trips ∈ A)
      (hconverter : Block.converter ∈ A) (hsite : Block.site ∈ A) (hchoices : Block.choices ∈ A) :
    u.sameBut (sideChange rec_ side before after s) A ↔ u.sameBut s A := by
  unfold sideChange
  (repeat' split) <;> simp only [levelChanged_frame, sameBut_ite, ite_self, hring, hlimits,
      hbalance, hcooling, hsequencer, htrips, hconverter, hsite, hchoices, implies_true]

@[simp] theorem announceSides_frame {A : List Block} (u : State) (before after : Record) (s : State)
    (hring : Block.ring ∈ A) (hlimits : Block.limits ∈ A) (hbalance : Block.balance ∈ A)
      (hcooling : Block.cooling ∈ A) (hsequencer : Block.sequencer ∈ A) (htrips : Block.trips ∈ A)
      (hconverter : Block.converter ∈ A) (hsite : Block.site ∈ A) (hchoices : Block.choices ∈ A) :
    u.sameBut (announceSides before after s) A ↔ u.sameBut s A := by
  simp only [announceSides, sideChange_frame, sameBut_ite, ite_self, hring, hlimits, hbalance,
      hcooling, hsequencer, htrips, hconverter, hsite, hchoices, implies_true]

@[simp] theorem fileValue_frame {A : List Block} (u : State) (before : Record) (v : Int)
      (range : Bool) (stamp : PartTime) (s : State)
    (hring : Block.ring ∈ A) (hsamples : Block.samples ∈ A) (hlimits : Block.limits ∈ A)
      (hbalance : Block.balance ∈ A) (hcooling : Block.cooling ∈ A)
      (hsequencer : Block.sequencer ∈ A) (htrips : Block.trips ∈ A)
      (hconverter : Block.converter ∈ A) (hsite : Block.site ∈ A) (hchoices : Block.choices ∈ A) :
    u.sameBut (fileValue before v range stamp s) A ↔ u.sameBut s A := by
  unfold fileValue
  (repeat' split) <;> simp only [announceSides_frame, refreshBlindOf_frame, mapRecord_frame,
      sameBut_ite, ite_self, hring, hsamples, hlimits, hbalance, hcooling, hsequencer, htrips,
      hconverter, hsite, hchoices, implies_true]

@[simp] theorem invalidate_frame {A : List Block} (u : State) (rec_ : Record) (s : State)
    (hsamples : Block.samples ∈ A) :
    u.sameBut (invalidate rec_ s) A ↔ u.sameBut s A := by
  simp only [invalidate, refreshBlindOf_frame, mapRecord_frame, sameBut_ite, ite_self, hsamples,
      implies_true]

@[simp] theorem fileCode_frame {A : List Block} (u : State) (e : SlotEntry) (stamp : PartTime)
      (channel : Nat) (code : Code) (s : State)
    (hring : Block.ring ∈ A) (hsamples : Block.samples ∈ A) (hlimits : Block.limits ∈ A)
      (hbalance : Block.balance ∈ A) (hcooling : Block.cooling ∈ A)
      (hsequencer : Block.sequencer ∈ A) (htrips : Block.trips ∈ A)
      (hconverter : Block.converter ∈ A) (hsite : Block.site ∈ A) (hchoices : Block.choices ∈ A) :
    u.sameBut (fileCode e stamp channel code s) A ↔ u.sameBut s A := by
  unfold fileCode
  (repeat' split) <;> simp only [invalidate_frame, fileValue_frame, sameBut_ite, ite_self, hring,
      hsamples, hlimits, hbalance, hcooling, hsequencer, htrips, hconverter, hsite, hchoices,
      implies_true]

@[simp] theorem senseOpened_frame {A : List Block} (u : State) (e : SlotEntry) (channel : Nat)
      (s : State)
    (hsamples : Block.samples ∈ A) :
    u.sameBut (senseOpened e channel s) A ↔ u.sameBut s A := by
  unfold senseOpened
  dsimp only
  (repeat' split) <;> simp only [mapSampleNode_frame, invalidate_frame, sameBut_ite, ite_self,
      hsamples, implies_true]

@[simp] theorem nodeFaulted_frame {A : List Block} (u : State) (node : Nat) (s : State)
    (hsamples : Block.samples ∈ A) :
    u.sameBut (nodeFaulted node s) A ↔ u.sameBut s A := by
  simp only [nodeFaulted, mapSampleNode_frame, sameBut_ite, ite_self, hsamples, implies_true]

@[simp] theorem sampleRestart_frame {A : List Block} (u : State) (node : Nat) (s : State)
    (hsamples : Block.samples ∈ A) :
    u.sameBut (sampleRestart node s) A ↔ u.sameBut s A := by
  simp only [sampleRestart, mapSampleNode_frame, sameBut_ite, ite_self, hsamples, implies_true]

@[simp] theorem takeCodes_frame {A : List Block} (u : State) (e : SlotEntry)
      (outcome : SlotOutcome) (s : State)
    (hring : Block.ring ∈ A) (hsamples : Block.samples ∈ A) (hlimits : Block.limits ∈ A)
      (hbalance : Block.balance ∈ A) (hcooling : Block.cooling ∈ A)
      (hsequencer : Block.sequencer ∈ A) (htrips : Block.trips ∈ A)
      (hconverter : Block.converter ∈ A) (hsite : Block.site ∈ A) (hchoices : Block.choices ∈ A) :
    u.sameBut (takeCodes e outcome s) A ↔ u.sameBut s A := by
  unfold takeCodes
  (repeat' split) <;> simp only [mapSampleNode_frame, setRackSamples_frame, fileCode_frame,
      sameBut_ite, ite_self, foldl_frame, implies_true, hring, hsamples, hlimits, hbalance,
      hcooling, hsequencer, htrips, hconverter, hsite, hchoices]

@[simp] theorem checkStale_frame {A : List Block} (u : State) (e : SlotEntry) (link : LinkState)
      (s : State)
    (hsamples : Block.samples ∈ A) :
    u.sameBut (checkStale e link s) A ↔ u.sameBut s A := by
  simp only [checkStale]
  (repeat' split) <;> simp only [mapSampleNode_frame, withSamples_frame, refreshBlindOf_frame,
      sameBut_ite, ite_self, hsamples, implies_true]

@[simp] theorem setTrace_frame {A : List Block} (u : State) (index : Nat) (x : Option TraceEntry)
      (s : State)
    (hsamples : Block.samples ∈ A) :
    u.sameBut (setTrace index x s) A ↔ u.sameBut s A := by
  simp only [setTrace, withSamples_frame, sameBut_ite, ite_self, hsamples, implies_true]

@[simp] theorem traceCode_frame {A : List Block} (u : State) (e : SlotEntry) (stamp : PartTime)
      (channel : Nat) (code : Code) (s : State)
    (hsamples : Block.samples ∈ A) (hsite : Block.site ∈ A) :
    u.sameBut (traceCode e stamp channel code s) A ↔ u.sameBut s A := by
  unfold traceCode
  (repeat' split) <;> simp only [queueTrace_frame, post_frame, setTrace_frame, sameBut_ite,
      ite_self, hsamples, hsite, implies_true]

@[simp] theorem traceOutcome_frame {A : List Block} (u : State) (e : SlotEntry)
      (outcome : SlotOutcome) (s : State)
    (hsamples : Block.samples ∈ A) (hsite : Block.site ∈ A) :
    u.sameBut (traceOutcome e outcome s) A ↔ u.sameBut s A := by
  unfold traceOutcome
  (repeat' split) <;> simp only [traceCode_frame, sameBut_ite, ite_self, foldl_frame,
      implies_true, hsamples, hsite]

@[simp] theorem checkMismatch_frame {A : List Block} (u : State) (r : Rack) (s : State)
    (hsamples : Block.samples ∈ A) :
    u.sameBut (checkMismatch r s) A ↔ u.sameBut s A := by
  unfold checkMismatch
  (repeat' split) <;> simp only [refreshBlind_frame, setRackSamples_frame, sameBut_ite, ite_self,
      hsamples, implies_true]

@[simp] theorem prepareSet_frame {A : List Block} (u : State) (r : Rack) (s : State)
    (hsamples : Block.samples ∈ A) :
    u.sameBut (prepareSet r s) A ↔ u.sameBut s A := by
  simp only [prepareSet, checkMismatch_frame, setRackSamples_frame, sameBut_ite, ite_self,
      hsamples, implies_true]

@[simp] theorem samplesSwapped_frame {A : List Block} (u : State) (before : List SlotEntry)
      (s : State)
    (hsamples : Block.samples ∈ A) :
    u.sameBut (samplesSwapped before s) A ↔ u.sameBut s A := by
  simp only [samplesSwapped, withSamples_frame, refreshBlind_frame, sameBut_ite, ite_self,
      forRacks_frame, hsamples, implies_true]

@[simp] theorem clearSides_frame {A : List Block} (u : State) (affected : Rack → Bool) (s : State)
    (hsamples : Block.samples ∈ A) :
    u.sameBut (clearSides affected s) A ↔ u.sameBut s A := by
  unfold clearSides
  simp only [withSamples_frame, sameBut_ite, ite_self, hsamples, implies_true]

@[simp] theorem blindTimerSwapped_frame {A : List Block} (u : State) (was : Rack → Bool)
      (r : Rack) (s : State)
    (hsamples : Block.samples ∈ A) (hlimits : Block.limits ∈ A) (hsequencer : Block.sequencer ∈ A)
      (htrips : Block.trips ∈ A) (hconverter : Block.converter ∈ A) (hsite : Block.site ∈ A)
      (hchoices : Block.choices ∈ A) :
    u.sameBut (blindTimerSwapped was r s) A ↔ u.sameBut s A := by
  simp only [blindTimerSwapped, setRackSamples_frame, blindDue_frame, sameBut_ite, ite_self,
      hsamples, hlimits, hsequencer, htrips, hconverter, hsite, hchoices, implies_true]

@[simp] theorem samplesReset_frame {A : List Block} (u : State) (s : State)
    (hsamples : Block.samples ∈ A) :
    u.sameBut (samplesReset s) A ↔ u.sameBut s A := by
  simp only [samplesReset, refreshBlind_frame, withSamples_frame, sameBut_ite, ite_self,
      forRacks_frame, hsamples, implies_true]

@[simp] theorem acknowledgeRecord_frame {A : List Block} (u : State) (rec_ : Record) (s : State)
    (hring : Block.ring ∈ A) (hsamples : Block.samples ∈ A) (hlimits : Block.limits ∈ A)
      (hbalance : Block.balance ∈ A) (hcooling : Block.cooling ∈ A)
      (hsequencer : Block.sequencer ∈ A) (htrips : Block.trips ∈ A)
      (hconverter : Block.converter ∈ A) (hsite : Block.site ∈ A) (hchoices : Block.choices ∈ A) :
    u.sameBut (acknowledgeRecord rec_ s) A ↔ u.sameBut s A := by
  simp only [acknowledgeRecord, announceSides_frame, mapRecord_frame, sameBut_ite, ite_self,
      hring, hsamples, hlimits, hbalance, hcooling, hsequencer, htrips, hconverter, hsite,
      hchoices, implies_true]

@[simp] theorem acknowledgeSides_frame {A : List Block} (u : State) (r : Rack) (s : State)
    (hring : Block.ring ∈ A) (hsamples : Block.samples ∈ A) (hlimits : Block.limits ∈ A)
      (hbalance : Block.balance ∈ A) (hcooling : Block.cooling ∈ A)
      (hsequencer : Block.sequencer ∈ A) (htrips : Block.trips ∈ A)
      (hconverter : Block.converter ∈ A) (hsite : Block.site ∈ A) (hchoices : Block.choices ∈ A) :
    u.sameBut (acknowledgeSides r s) A ↔ u.sameBut s A := by
  simp only [acknowledgeSides, acknowledgeRecord_frame, sameBut_ite, ite_self, foldl_frame,
      implies_true, hring, hsamples, hlimits, hbalance, hcooling, hsequencer, htrips, hconverter,
      hsite, hchoices]

/-! ## Machine/LimitCore.lean -/

@[simp] theorem postAnchor_frame {A : List Block} (u : State) (r : Rack) (k : AnchorKind)
      (before : RackCharge) (stamp : PartTime) (s : State)
    (hsite : Block.site ∈ A) :
    u.sameBut (postAnchor r k before stamp s) A ↔ u.sameBut s A := by
  simp only [postAnchor, post_frame, sameBut_ite, ite_self, hsite, implies_true]

@[simp] theorem anchorCheck_frame {A : List Block} (u : State) (r : Rack) (e : RackEntry)
      (d : DerateRecord) (fresh : Option (Int × PartTime)) (s : State)
    (hlimits : Block.limits ∈ A) (hsite : Block.site ∈ A) :
    u.sameBut (anchorCheck r e d fresh s) A ↔ u.sameBut s A := by
  simp only [anchorCheck]
  (repeat' split) <;> simp only [postAnchor_frame, setRackCharge_frame, sameBut_ite, ite_self,
      hlimits, hsite, implies_true]

@[simp] theorem restCheck_frame {A : List Block} (u : State) (r : Rack) (e : RackEntry)
      (d : DerateRecord) (fresh : Option (Int × PartTime)) (s : State)
    (hlimits : Block.limits ∈ A) (hsite : Block.site ∈ A) :
    u.sameBut (restCheck r e d fresh s) A ↔ u.sameBut s A := by
  simp only [restCheck]
  (repeat' split) <;> simp only [setRackCharge_frame, postAnchor_frame, sameBut_ite, ite_self,
      hlimits, hsite, implies_true]

@[simp] theorem integrateRack_frame {A : List Block} (u : State) (r : Rack) (e : RackEntry) (fresh
      : Option (Int × PartTime)) (s : State)
    (hlimits : Block.limits ∈ A) :
    u.sameBut (integrateRack r e fresh s) A ↔ u.sameBut s A := by
  unfold integrateRack
  (repeat' split) <;> simp only [setRackCharge_frame, sameBut_ite, ite_self, hlimits, implies_true]

@[simp] theorem publishRack_frame {A : List Block} (u : State) (r : Rack) (e : RackEntry)
      (d : DerateRecord) (s : State)
    (hlimits : Block.limits ∈ A) (hconverter : Block.converter ∈ A) :
    u.sameBut (publishRack r e d s) A ↔ u.sameBut s A := by
  simp only [publishRack, workOutContainer_frame, setRackCharge_frame, sameBut_ite, ite_self,
      hlimits, hconverter, implies_true]

@[simp] theorem evaluateRack_frame {A : List Block} (u : State) (r : Rack) (e : RackEntry)
      (d : DerateRecord) (s : State)
    (hlimits : Block.limits ∈ A) (hconverter : Block.converter ∈ A) (hsite : Block.site ∈ A) :
    u.sameBut (evaluateRack r e d s) A ↔ u.sameBut s A := by
  simp only [evaluateRack, publishRack_frame, restCheck_frame, anchorCheck_frame,
      integrateRack_frame, sameBut_ite, ite_self, hlimits, hconverter, hsite, implies_true]

@[simp] theorem limitSetComplete_frame {A : List Block} (u : State) (r : Rack) (s : State)
    (hlimits : Block.limits ∈ A) (hconverter : Block.converter ∈ A) (hsite : Block.site ∈ A) :
    u.sameBut (limitSetComplete r s) A ↔ u.sameBut s A := by
  unfold limitSetComplete
  (repeat' split) <;> simp only [evaluateRack_frame, workOutContainer_frame, zeroRackLimit_frame,
      sameBut_ite, ite_self, hlimits, hconverter, hsite, implies_true]

@[simp] theorem capRackLimits_frame {A : List Block} (u : State) (s : State)
    (hlimits : Block.limits ∈ A) (hconverter : Block.converter ∈ A) :
    u.sameBut (capRackLimits s) A ↔ u.sameBut s A := by
  simp only [capRackLimits, workOutContainer_frame, withLimits_frame, sameBut_ite, ite_self, hlimits,
      hconverter, implies_true]

@[simp] theorem limitsAtRackSwap_frame {A : List Block} (u : State)
      (before : Rack → Option RackEntry) (s : State)
    (hlimits : Block.limits ∈ A) (hconverter : Block.converter ∈ A) :
    u.sameBut (limitsAtRackSwap before s) A ↔ u.sameBut s A := by
  simp only [limitsAtRackSwap, capRackLimits_frame, withLimits_frame, sameBut_ite, ite_self, hlimits,
      hconverter, implies_true]

@[simp] theorem limitsAtDerateSwap_frame {A : List Block} (u : State)
      (before : Option DerateRecord) (s : State)
    (hlimits : Block.limits ∈ A) :
    u.sameBut (limitsAtDerateSwap before s) A ↔ u.sameBut s A := by
  unfold limitsAtDerateSwap
  (repeat' split) <;> simp only [withLimits_frame, sameBut_ite, ite_self, hlimits, implies_true]

@[simp] theorem limitsAtSlotSwap_frame {A : List Block} (u : State) (s : State)
    (hlimits : Block.limits ∈ A) (hconverter : Block.converter ∈ A) :
    u.sameBut (limitsAtSlotSwap s) A ↔ u.sameBut s A := by
  simp only [limitsAtSlotSwap, workOutContainer_frame, zeroRackLimit_frame, sameBut_ite, ite_self,
      forRacks_frame, hlimits, hconverter, implies_true]

/-! ## Machine/SwitchFlow.lean -/

@[simp] theorem becomeConnected_frame {A : List Block} (u : State) (r : Rack) (cause : RackCause)
      (s : State)
    (hlimits : Block.limits ∈ A) (hsequencer : Block.sequencer ∈ A) (htrips : Block.trips ∈ A)
      (hconverter : Block.converter ∈ A) (hsite : Block.site ∈ A) :
    u.sameBut (becomeConnected r cause s) A ↔ u.sameBut s A := by
  simp only [becomeConnected, freeSlot_frame, connectResult_frame, changeRack_frame, sameBut_ite,
      ite_self, hlimits, hsequencer, htrips, hconverter, hsite, implies_true]

@[simp] theorem mainProven_frame {A : List Block} (u : State) (r : Rack) (cause : RackCause)
      (s : State)
    (hlimits : Block.limits ∈ A) (hsequencer : Block.sequencer ∈ A) (htrips : Block.trips ∈ A)
      (hconverter : Block.converter ∈ A) (hsite : Block.site ∈ A) :
    u.sameBut (mainProven r cause s) A ↔ u.sameBut s A := by
  simp only [mainProven, setRackSwitch_frame, becomeConnected_frame, sameBut_ite, ite_self,
      hlimits, hsequencer, htrips, hconverter, hsite, implies_true]

@[simp] theorem enterJoining_frame {A : List Block} (u : State) (r : Rack) (prechargeUsed : Bool)
      (s : State)
    (hlimits : Block.limits ∈ A) (hsequencer : Block.sequencer ∈ A) (htrips : Block.trips ∈ A)
      (hconverter : Block.converter ∈ A) (hsite : Block.site ∈ A) :
    u.sameBut (enterJoining r prechargeUsed s) A ↔ u.sameBut s A := by
  simp only [enterJoining, changeRack_frame, mainProven_frame, sameBut_ite, ite_self, hlimits,
      hsequencer, htrips, hconverter, hsite, implies_true]

@[simp] theorem enterPrecharging_frame {A : List Block} (u : State) (r : Rack) (g : GridRecord)
      (s : State)
    (hlimits : Block.limits ∈ A) (hsequencer : Block.sequencer ∈ A) (htrips : Block.trips ∈ A)
      (hconverter : Block.converter ∈ A) (hsite : Block.site ∈ A) :
    u.sameBut (enterPrecharging r g s) A ↔ u.sameBut s A := by
  simp only [enterPrecharging, changeRack_frame, sameBut_ite, ite_self, hlimits, hsequencer,
      htrips, hconverter, hsite, implies_true]

@[simp] theorem scanQueue_frame {A : List Block} (u : State) (g : GridRecord) (s : State)
    (hlimits : Block.limits ∈ A) (hsequencer : Block.sequencer ∈ A) (htrips : Block.trips ∈ A)
      (hconverter : Block.converter ∈ A) (hsite : Block.site ∈ A) :
    u.sameBut (scanQueue g s) A ↔ u.sameBut s A := by
  unfold scanQueue
  (repeat' split) <;> simp only [dequeue_frame, withSequencer_frame, enterPrecharging_frame,
      enterJoining_frame, sameBut_ite, ite_self, hlimits, hsequencer, htrips, hconverter, hsite,
      implies_true]

@[simp] theorem prechargeSet_frame {A : List Block} (u : State) (r : Rack) (g : GridRecord)
      (s : State)
    (hlimits : Block.limits ∈ A) (hsequencer : Block.sequencer ∈ A) (htrips : Block.trips ∈ A)
      (hconverter : Block.converter ∈ A) (hsite : Block.site ∈ A) :
    u.sameBut (prechargeSet r g s) A ↔ u.sameBut s A := by
  unfold prechargeSet
  (repeat' split) <;> simp only [enterJoining_frame, sameBut_ite, ite_self, hlimits, hsequencer,
      htrips, hconverter, hsite, implies_true]

@[simp] theorem drainSet_frame {A : List Block} (u : State) (r : Rack) (s : State)
    (hlimits : Block.limits ∈ A) (hsequencer : Block.sequencer ∈ A) (htrips : Block.trips ∈ A)
      (hconverter : Block.converter ∈ A) (hsite : Block.site ∈ A) (hchoices : Block.choices ∈ A) :
    u.sameBut (drainSet r s) A ↔ u.sameBut s A := by
  unfold drainSet
  (repeat' split) <;> simp only [endDrain_frame, sameBut_ite, ite_self, hlimits, hsequencer,
      htrips, hconverter, hsite, hchoices, implies_true]

@[simp] theorem moveAtSet_frame {A : List Block} (u : State) (r : Rack) (g : GridRecord) (s : State)
    (hlimits : Block.limits ∈ A) (hsequencer : Block.sequencer ∈ A) (htrips : Block.trips ∈ A)
      (hconverter : Block.converter ∈ A) (hsite : Block.site ∈ A) (hchoices : Block.choices ∈ A) :
    u.sameBut (moveAtSet r g s) A ↔ u.sameBut s A := by
  unfold moveAtSet
  (repeat' split) <;> simp only [prechargeSet_frame, drainSet_frame, sameBut_ite, ite_self,
      hlimits, hsequencer, htrips, hconverter, hsite, hchoices, implies_true]

@[simp] theorem switchSetComplete_frame {A : List Block} (u : State) (r : Rack) (s : State)
    (hlimits : Block.limits ∈ A) (hsequencer : Block.sequencer ∈ A) (htrips : Block.trips ∈ A)
      (hconverter : Block.converter ∈ A) (hsite : Block.site ∈ A) (hchoices : Block.choices ∈ A) :
    u.sameBut (switchSetComplete r s) A ↔ u.sameBut s A := by
  unfold switchSetComplete
  (repeat' split) <;> simp only [scanQueue_frame, grantDisconnects_frame, moveAtSet_frame,
      sameBut_ite, ite_self, hlimits, hsequencer, htrips, hconverter, hsite, hchoices,
      implies_true]

@[simp] theorem endInFault_frame {A : List Block} (u : State) (r : Rack) (kind : FaultKind)
      (cause : RackCause) (s : State)
    (hlimits : Block.limits ∈ A) (hsequencer : Block.sequencer ∈ A) (htrips : Block.trips ∈ A)
      (hconverter : Block.converter ∈ A) (hsite : Block.site ∈ A) (hchoices : Block.choices ∈ A) :
    u.sameBut (endInFault r kind cause s) A ↔ u.sameBut s A := by
  simp only [endInFault, endOperation_frame, sameBut_ite, ite_self, hlimits, hsequencer, htrips,
      hconverter, hsite, hchoices, implies_true]

@[simp] theorem takeWelded_frame {A : List Block} (u : State) (r : Rack) (c : Contactor) (s : State)
    (hlimits : Block.limits ∈ A) (hsequencer : Block.sequencer ∈ A) (htrips : Block.trips ∈ A)
      (hconverter : Block.converter ∈ A) (hsite : Block.site ∈ A) (hchoices : Block.choices ∈ A) :
    u.sameBut (takeWelded r c s) A ↔ u.sameBut s A := by
  simp only [takeWelded, takeCause_frame, sameBut_ite, ite_self, hlimits, hsequencer, htrips,
      hconverter, hsite, hchoices, implies_true]

@[simp] theorem weldAtRest_frame {A : List Block} (u : State) (r : Rack) (c : Contactor) (s : State)
    (hlimits : Block.limits ∈ A) (hsequencer : Block.sequencer ∈ A) (htrips : Block.trips ∈ A)
      (hconverter : Block.converter ∈ A) (hsite : Block.site ∈ A) (hchoices : Block.choices ∈ A) :
    u.sameBut (weldAtRest r c s) A ↔ u.sameBut s A := by
  simp only [weldAtRest, connectResult_frame, dequeue_frame, takeWelded_frame, endInFault_frame,
      sameBut_ite, ite_self, hlimits, hsequencer, htrips, hconverter, hsite, hchoices,
      implies_true]

@[simp] theorem failClosed_frame {A : List Block} (u : State) (r : Rack) (s : State)
    (hlimits : Block.limits ∈ A) (hsequencer : Block.sequencer ∈ A) (htrips : Block.trips ∈ A)
      (hconverter : Block.converter ∈ A) (hsite : Block.site ∈ A) (hchoices : Block.choices ∈ A) :
    u.sameBut (failClosed r s) A ↔ u.sameBut s A := by
  simp only [failClosed, endInFault_frame, setRackSwitch_frame, sameBut_ite, ite_self, hlimits,
      hsequencer, htrips, hconverter, hsite, hchoices, implies_true]

@[simp] theorem expireRackWatch_frame {A : List Block} (u : State) (r : Rack) (c : Contactor)
      (s : State)
    (hlimits : Block.limits ∈ A) (hsequencer : Block.sequencer ∈ A) (htrips : Block.trips ∈ A)
      (hconverter : Block.converter ∈ A) (hsite : Block.site ∈ A) (hchoices : Block.choices ∈ A) :
    u.sameBut (expireRackWatch r c s) A ↔ u.sameBut s A := by
  simp only [expireRackWatch]
  (repeat' split) <;> simp only [setRackSwitch_frame, weldAtRest_frame, failClosed_frame,
      takeWelded_frame, sameBut_ite, ite_self, hlimits, hsequencer, htrips, hconverter, hsite,
      hchoices, implies_true]

@[simp] theorem watchDue_frame {A : List Block} (u : State) (r : Rack) (c : Contactor) (s : State)
    (hlimits : Block.limits ∈ A) (hsequencer : Block.sequencer ∈ A) (htrips : Block.trips ∈ A)
      (hconverter : Block.converter ∈ A) (hsite : Block.site ∈ A) (hchoices : Block.choices ∈ A) :
    u.sameBut (watchDue r c s) A ↔ u.sameBut s A := by
  simp only [watchDue, expireRackWatch_frame, sameBut_ite, ite_self, hlimits, hsequencer, htrips,
      hconverter, hsite, hchoices, implies_true]

@[simp] theorem changeFeedback_frame {A : List Block} (u : State) (r : Rack) (c : Contactor)
      (closed : Bool) (s : State)
    (hlimits : Block.limits ∈ A) (hsequencer : Block.sequencer ∈ A) (htrips : Block.trips ∈ A)
      (hconverter : Block.converter ∈ A) (hsite : Block.site ∈ A) (hchoices : Block.choices ∈ A) :
    u.sameBut (changeFeedback r c closed s) A ↔ u.sameBut s A := by
  simp only [changeFeedback]
  (repeat' split) <;> simp only [setRackSwitch_frame, mainProven_frame, passOpenProof_frame,
      sameBut_ite, ite_self, hlimits, hsequencer, htrips, hconverter, hsite, hchoices,
      implies_true]

@[simp] theorem expirePrecharge_frame {A : List Block} (u : State) (r : Rack) (s : State)
    (hlimits : Block.limits ∈ A) (hsequencer : Block.sequencer ∈ A) (htrips : Block.trips ∈ A)
      (hconverter : Block.converter ∈ A) (hsite : Block.site ∈ A) (hchoices : Block.choices ∈ A) :
    u.sameBut (expirePrecharge r s) A ↔ u.sameBut s A := by
  simp only [expirePrecharge, abandonPrecharge_frame, sameBut_ite, ite_self, hlimits, hsequencer,
      htrips, hconverter, hsite, hchoices, implies_true]

@[simp] theorem expireCloseProof_frame {A : List Block} (u : State) (r : Rack) (s : State)
    (hlimits : Block.limits ∈ A) (hsequencer : Block.sequencer ∈ A) (htrips : Block.trips ∈ A)
      (hconverter : Block.converter ∈ A) (hsite : Block.site ∈ A) (hchoices : Block.choices ∈ A) :
    u.sameBut (expireCloseProof r s) A ↔ u.sameBut s A := by
  simp only [expireCloseProof, connectResult_frame, endInFault_frame, sameBut_ite, ite_self,
      hlimits, hsequencer, htrips, hconverter, hsite, hchoices, implies_true]

@[simp] theorem endReleaseDelay_frame {A : List Block} (u : State) (r : Rack) (s : State)
    (hlimits : Block.limits ∈ A) (hsequencer : Block.sequencer ∈ A) (htrips : Block.trips ∈ A)
      (hconverter : Block.converter ∈ A) (hsite : Block.site ∈ A) :
    u.sameBut (endReleaseDelay r s) A ↔ u.sameBut s A := by
  simp only [endReleaseDelay, becomeConnected_frame, sameBut_ite, ite_self, hlimits, hsequencer,
      htrips, hconverter, hsite, implies_true]

@[simp] theorem expireDrain_frame {A : List Block} (u : State) (r : Rack) (s : State)
    (hlimits : Block.limits ∈ A) (hsequencer : Block.sequencer ∈ A) (htrips : Block.trips ∈ A)
      (hconverter : Block.converter ∈ A) (hsite : Block.site ∈ A) (hchoices : Block.choices ∈ A) :
    u.sameBut (expireDrain r s) A ↔ u.sameBut s A := by
  simp only [expireDrain, endDrain_frame, sameBut_ite, ite_self, hlimits, hsequencer, htrips,
      hconverter, hsite, hchoices, implies_true]

@[simp] theorem takeWeldedOf_frame {A : List Block} (u : State) (r : Rack) (s : State)
    (hlimits : Block.limits ∈ A) (hsequencer : Block.sequencer ∈ A) (htrips : Block.trips ∈ A)
      (hconverter : Block.converter ∈ A) (hsite : Block.site ∈ A) (hchoices : Block.choices ∈ A) :
    u.sameBut (takeWeldedOf r s) A ↔ u.sameBut s A := by
  have h := pickFree_frame u (s.sequencer.racks.get r).closedContactors s hchoices
  unfold takeWeldedOf
  split
  · next hp =>
    rw [hp] at h
    simp only [takeWelded_frame, hlimits, hsequencer, htrips, hconverter, hsite, hchoices, h]
  · next hp =>
    rw [hp] at h
    exact h

@[simp] theorem expireOpenProof_frame {A : List Block} (u : State) (r : Rack) (s : State)
    (hlimits : Block.limits ∈ A) (hsequencer : Block.sequencer ∈ A) (htrips : Block.trips ∈ A)
      (hconverter : Block.converter ∈ A) (hsite : Block.site ∈ A) (hchoices : Block.choices ∈ A) :
    u.sameBut (expireOpenProof r s) A ↔ u.sameBut s A := by
  simp only [expireOpenProof, takeWeldedOf_frame, endInFault_frame, sameBut_ite, ite_self,
      hlimits, hsequencer, htrips, hconverter, hsite, hchoices, implies_true]

@[simp] theorem expireWait_frame {A : List Block} (u : State) (r : Rack) (s : State)
    (hlimits : Block.limits ∈ A) (hsequencer : Block.sequencer ∈ A) (htrips : Block.trips ∈ A)
      (hconverter : Block.converter ∈ A) (hsite : Block.site ∈ A) :
    u.sameBut (expireWait r s) A ↔ u.sameBut s A := by
  simp only [expireWait, leaveQueue_frame, sameBut_ite, ite_self, hlimits, hsequencer, htrips,
      hconverter, hsite, implies_true]

@[simp] theorem waitDue_frame {A : List Block} (u : State) (r : Rack) (s : State)
    (hlimits : Block.limits ∈ A) (hsequencer : Block.sequencer ∈ A) (htrips : Block.trips ∈ A)
      (hconverter : Block.converter ∈ A) (hsite : Block.site ∈ A) :
    u.sameBut (waitDue r s) A ↔ u.sameBut s A := by
  simp only [waitDue, expireWait_frame, sameBut_ite, ite_self, hlimits, hsequencer, htrips,
      hconverter, hsite, implies_true]

@[simp] theorem dropAttempts_frame {A : List Block} (u : State) (r : Rack) (s : State)
    (hsequencer : Block.sequencer ∈ A) :
    u.sameBut (dropAttempts r s) A ↔ u.sameBut s A := by
  simp only [dropAttempts, setRackSwitch_frame, sameBut_ite, ite_self, hsequencer, implies_true]

@[simp] theorem enqueue_frame {A : List Block} (u : State) (r : Rack) (s : State)
    (hlimits : Block.limits ∈ A) (hsequencer : Block.sequencer ∈ A) (htrips : Block.trips ∈ A)
      (hconverter : Block.converter ∈ A) (hsite : Block.site ∈ A) :
    u.sameBut (enqueue r s) A ↔ u.sameBut s A := by
  simp only [enqueue, withSequencer_frame, changeRack_frame, sameBut_ite, ite_self, hlimits,
      hsequencer, htrips, hconverter, hsite, implies_true]

@[simp] theorem setPendingDisconnect_frame {A : List Block} (u : State) (r : Rack) (s : State)
    (hsequencer : Block.sequencer ∈ A) :
    u.sameBut (setPendingDisconnect r s) A ↔ u.sameBut s A := by
  simp only [setPendingDisconnect, setRackSwitch_frame, sameBut_ite, ite_self, hsequencer,
      implies_true]

@[simp] theorem switchAtGridSwap_frame {A : List Block} (u : State) (s : State)
    (hlimits : Block.limits ∈ A) (hsequencer : Block.sequencer ∈ A) (htrips : Block.trips ∈ A)
      (hconverter : Block.converter ∈ A) (hsite : Block.site ∈ A) (hchoices : Block.choices ∈ A) :
    u.sameBut (switchAtGridSwap s) A ↔ u.sameBut s A := by
  simp only [switchAtGridSwap, watchDue_frame, waitDue_frame, sameBut_ite, ite_self,
      forRacks_frame, hlimits, hsequencer, htrips, hconverter, hsite, hchoices, implies_true]

@[simp] theorem weldedAtReset_frame {A : List Block} (u : State) (s : State)
    (hlimits : Block.limits ∈ A) (hsequencer : Block.sequencer ∈ A) (htrips : Block.trips ∈ A)
      (hconverter : Block.converter ∈ A) (hsite : Block.site ∈ A) (hchoices : Block.choices ∈ A) :
    u.sameBut (weldedAtReset s) A ↔ u.sameBut s A := by
  simp only [weldedAtReset, takeWeldedOf_frame, sameBut_ite, ite_self, inAnyOrder_map_frame,
      inAnyOrder_frame, List.mem_cons, List.not_mem_nil, forall_eq_or_imp, or_false, forall_eq,
      imp_false, IsEmpty.forall_iff, implies_true, and_true, and_self, hlimits, hsequencer,
      htrips, hconverter, hsite, hchoices]

/-! ## Machine/RingCore.lean -/

@[simp] theorem ringSwapped_frame {A : List Block} (u : State) (s : State)
    (hring : Block.ring ∈ A) :
    u.sameBut (ringSwapped s) A ↔ u.sameBut s A := by
  unfold ringSwapped
  simp only [withRing_frame, sameBut_ite, ite_self, hring, implies_true]

@[simp] theorem startRing_frame {A : List Block} (u : State) (s : State)
    (hring : Block.ring ∈ A) :
    u.sameBut (startRing s) A ↔ u.sameBut s A := by
  simp only [startRing, withRing_frame, sameBut_ite, ite_self, hring, implies_true]

@[simp] theorem ringReset_frame {A : List Block} (u : State) (s : State)
    (hring : Block.ring ∈ A) :
    u.sameBut (ringReset s) A ↔ u.sameBut s A := by
  simp only [ringReset, startRing_frame, withRing_frame, sameBut_ite, ite_self, hring, implies_true]

@[simp] theorem discard_frame {A : List Block} (u : State) (d : RingEnd) (k : RingError) (s : State)
    (hring : Block.ring ∈ A) :
    u.sameBut (discard d k s) A ↔ u.sameBut s A := by
  simp only [discard, withRing_frame, sameBut_ite, ite_self, hring, implies_true]

@[simp] theorem setExpectation_frame {A : List Block} (u : State) (d : RingEnd)
      (x : Option Expectation) (s : State)
    (hring : Block.ring ∈ A) :
    u.sameBut (setExpectation d x s) A ↔ u.sameBut s A := by
  simp only [setExpectation, withRing_frame, sameBut_ite, ite_self, hring, implies_true]

@[simp] theorem markEnded_frame {A : List Block} (u : State) (d : RingEnd) (s : State)
    (hring : Block.ring ∈ A) :
    u.sameBut (markEnded d s) A ↔ u.sameBut s A := by
  simp only [markEnded, setExpectation_frame, sameBut_ite, ite_self, hring, implies_true]

@[simp] theorem sendPoll_frame {A : List Block} (u : State) (d : RingEnd) (f : RingFrame)
      (x : Expectation) (s : State)
    (hring : Block.ring ∈ A) :
    u.sameBut (sendPoll d f x s) A ↔ u.sameBut s A := by
  simp only [sendPoll, withRing_frame, sameBut_ite, ite_self, hring, implies_true]

@[simp] theorem sendToken_frame {A : List Block} (u : State) (s : State)
    (hring : Block.ring ∈ A) :
    u.sameBut (sendToken s) A ↔ u.sameBut s A := by
  simp only [sendToken, withRing_frame, sameBut_ite, ite_self, hring, implies_true]

@[simp] theorem slotPoll_frame {A : List Block} (u : State) (e : SlotEntry) (s : State)
    (hring : Block.ring ∈ A) :
    u.sameBut (slotPoll e s) A ↔ u.sameBut s A := by
  simp only [slotPoll, sendPoll_frame, sameBut_ite, ite_self, hring, implies_true]

@[simp] theorem eventPoll_frame {A : List Block} (u : State) (node : Nat) (s : State)
    (hring : Block.ring ∈ A) :
    u.sameBut (eventPoll node s) A ↔ u.sameBut s A := by
  simp only [eventPoll, sendPoll_frame, sameBut_ite, ite_self, hring, implies_true]

@[simp] theorem pollLater_frame {A : List Block} (u : State) (node : Nat) (s : State)
    (hring : Block.ring ∈ A) :
    u.sameBut (pollLater node s) A ↔ u.sameBut s A := by
  simp only [pollLater, withRing_frame, sameBut_ite, ite_self, hring, implies_true]

@[simp] theorem settleToken_frame {A : List Block} (u : State) (s : State)
    (hring : Block.ring ∈ A) (hsite : Block.site ∈ A) :
    u.sameBut (settleToken s) A ↔ u.sameBut s A := by
  unfold settleToken
  (repeat' split) <;> simp only [withRing_frame, produceContainerSummary_frame, post_frame,
      sameBut_ite, ite_self, hring, hsite, implies_true]

@[simp] theorem setPhase_frame {A : List Block} (u : State) (p : Phase) (s : State)
    (hring : Block.ring ∈ A) :
    u.sameBut (setPhase p s) A ↔ u.sameBut s A := by
  simp only [setPhase, withRing_frame, sameBut_ite, ite_self, hring, implies_true]

@[simp] theorem beginCycle_frame {A : List Block} (u : State) (s : State)
    (hring : Block.ring ∈ A) (hsamples : Block.samples ∈ A) :
    u.sameBut (beginCycle s) A ↔ u.sameBut s A := by
  simp only [beginCycle, withSamples_frame, sendToken_frame, withRing_frame, sameBut_ite,
      ite_self, hring, hsamples, implies_true]

/-! ## Machine/ConverterFlow.lean -/

@[simp] theorem periodDue_frame {A : List Block} (u : State) (s : State)
    (hconverter : Block.converter ∈ A) :
    u.sameBut (periodDue s) A ↔ u.sameBut s A := by
  simp only [periodDue, messageDue_frame, sameBut_ite, ite_self, hconverter, implies_true]

@[simp] theorem messageSent_frame {A : List Block} (u : State) (s : State)
    (hconverter : Block.converter ∈ A) :
    u.sameBut (messageSent s) A ↔ u.sameBut s A := by
  simp only [messageSent, withConverter_frame, composeMessage_frame, sameBut_ite, ite_self,
      hconverter, implies_true]

@[simp] theorem expireSilence_frame {A : List Block} (u : State) (s : State)
    (hlimits : Block.limits ∈ A) (hconverter : Block.converter ∈ A) (hsite : Block.site ∈ A)
      (hchoices : Block.choices ∈ A) :
    u.sameBut (expireSilence s) A ↔ u.sameBut s A := by
  unfold expireSilence
  refine (inAnyOrder_frame u _ _ hchoices fun act ha t => ?_).trans ?_
  · rcases List.mem_cons.1 ha with rfl | ha
    · simp only [workOutContainer_frame, hlimits, hconverter]
    · unfold gridActions at ha
      split at ha
      · exact absurd ha List.not_mem_nil
      · simp only [List.mem_cons, List.not_mem_nil, or_false] at ha
        rcases ha with rfl | rfl <;>
          simp only [judgePermit_frame, produceContainerSummary_frame, hconverter, hsite]
  · simp only [withConverter_frame, hconverter]

@[simp] theorem silenceDue_frame {A : List Block} (u : State) (s : State)
    (hlimits : Block.limits ∈ A) (hconverter : Block.converter ∈ A) (hsite : Block.site ∈ A)
      (hchoices : Block.choices ∈ A) :
    u.sameBut (silenceDue s) A ↔ u.sameBut s A := by
  simp only [silenceDue, expireSilence_frame, sameBut_ite, ite_self, hlimits, hconverter, hsite,
      hchoices, implies_true]

@[simp] theorem expireSilentTrip_frame {A : List Block} (u : State) (s : State)
    (hlimits : Block.limits ∈ A) (hsequencer : Block.sequencer ∈ A) (htrips : Block.trips ∈ A)
      (hconverter : Block.converter ∈ A) (hsite : Block.site ∈ A) (hchoices : Block.choices ∈ A) :
    u.sameBut (expireSilentTrip s) A ↔ u.sameBut s A := by
  simp only [expireSilentTrip, takeCause_frame, withConverter_frame, sameBut_ite, ite_self,
      hlimits, hsequencer, htrips, hconverter, hsite, hchoices, implies_true]

@[simp] theorem silentTripDue_frame {A : List Block} (u : State) (s : State)
    (hlimits : Block.limits ∈ A) (hsequencer : Block.sequencer ∈ A) (htrips : Block.trips ∈ A)
      (hconverter : Block.converter ∈ A) (hsite : Block.site ∈ A) (hchoices : Block.choices ∈ A) :
    u.sameBut (silentTripDue s) A ↔ u.sameBut s A := by
  simp only [silentTripDue, expireSilentTrip_frame, sameBut_ite, ite_self, hlimits, hsequencer,
      htrips, hconverter, hsite, hchoices, implies_true]

@[simp] theorem takeStatus_frame {A : List Block} (u : State) (x : ConverterStatus) (s : State)
    (hlimits : Block.limits ∈ A) (hsequencer : Block.sequencer ∈ A) (htrips : Block.trips ∈ A)
      (hconverter : Block.converter ∈ A) (hsite : Block.site ∈ A) (hchoices : Block.choices ∈ A) :
    u.sameBut (takeStatus x s) A ↔ u.sameBut s A := by
  unfold takeStatus
  refine (inAnyOrder_frame u _ _ hchoices fun act ha t => ?_).trans ?_
  · simp only [List.mem_append] at ha
    rcases ha with (ha | ha) | ha <;> split at ha <;>
      simp only [List.mem_cons, List.not_mem_nil, or_false] at ha
    · rcases ha with rfl | rfl <;>
        simp only [workOutContainer_frame, judgeContainerLatch_frame, hlimits, hsequencer, htrips,
          hconverter, hsite, hchoices]
    · subst ha; simp only [judgePermit_frame, hconverter]
    · subst ha; simp only [produceContainerSummary_frame, hsite]
  · simp only [withConverter_frame, hconverter]

@[simp] theorem receiveStatus_frame {A : List Block} (u : State) (f : StatusFrame) (s : State)
    (hlimits : Block.limits ∈ A) (hsequencer : Block.sequencer ∈ A) (htrips : Block.trips ∈ A)
      (hconverter : Block.converter ∈ A) (hsite : Block.site ∈ A) (hchoices : Block.choices ∈ A) :
    u.sameBut (receiveStatus f s) A ↔ u.sameBut s A := by
  unfold receiveStatus
  (repeat' split) <;> simp only [withConverter_frame, takeStatus_frame, sameBut_ite, ite_self,
      hlimits, hsequencer, htrips, hconverter, hsite, hchoices, implies_true]

@[simp] theorem endPulse_frame {A : List Block} (u : State) (s : State)
    (hconverter : Block.converter ∈ A) :
    u.sameBut (endPulse s) A ↔ u.sameBut s A := by
  simp only [endPulse, withConverter_frame, sameBut_ite, ite_self, hconverter, implies_true]

@[simp] theorem expireBreakerProof_frame {A : List Block} (u : State) (s : State)
    (hconverter : Block.converter ∈ A) (hsite : Block.site ∈ A) :
    u.sameBut (expireBreakerProof s) A ↔ u.sameBut s A := by
  simp only [expireBreakerProof, beginPulse_frame, post_frame, withConverter_frame, sameBut_ite,
      ite_self, hconverter, hsite, implies_true]

@[simp] theorem changeBreaker_frame {A : List Block} (u : State) (closed : Bool) (s : State)
    (hconverter : Block.converter ∈ A) :
    u.sameBut (changeBreaker closed s) A ↔ u.sameBut s A := by
  unfold changeBreaker
  (repeat' split) <;> simp only [withConverter_frame, sameBut_ite, ite_self, hconverter,
      implies_true]

@[simp] theorem expireSiteSilence_frame {A : List Block} (u : State) (s : State)
    (hlimits : Block.limits ∈ A) (hsequencer : Block.sequencer ∈ A) (htrips : Block.trips ∈ A)
      (hconverter : Block.converter ∈ A) (hsite : Block.site ∈ A) :
    u.sameBut (expireSiteSilence s) A ↔ u.sameBut s A := by
  simp only [expireSiteSilence, withSite_frame, cancelQueue_frame, produceContainerSummary_frame,
      post_frame, sameBut_ite, ite_self, hlimits, hsequencer, htrips, hconverter, hsite,
      implies_true]

@[simp] theorem siteSilenceDue_frame {A : List Block} (u : State) (s : State)
    (hlimits : Block.limits ∈ A) (hsequencer : Block.sequencer ∈ A) (htrips : Block.trips ∈ A)
      (hconverter : Block.converter ∈ A) (hsite : Block.site ∈ A) :
    u.sameBut (siteSilenceDue s) A ↔ u.sameBut s A := by
  simp only [siteSilenceDue, expireSiteSilence_frame, sameBut_ite, ite_self, hlimits, hsequencer,
      htrips, hconverter, hsite, implies_true]

@[simp] theorem siteHeard_frame {A : List Block} (u : State) (s : State)
    (hsite : Block.site ∈ A) :
    u.sameBut (siteHeard s) A ↔ u.sameBut s A := by
  simp only [siteHeard, withSite_frame, produceContainerSummary_frame, post_frame, sameBut_ite,
      ite_self, hsite, implies_true]

@[simp] theorem converterAtGridSwap_frame {A : List Block} (u : State) (first : Bool) (s : State)
    (hlimits : Block.limits ∈ A) (hsequencer : Block.sequencer ∈ A) (htrips : Block.trips ∈ A)
      (hconverter : Block.converter ∈ A) (hsite : Block.site ∈ A) (hchoices : Block.choices ∈ A) :
    u.sameBut (converterAtGridSwap first s) A ↔ u.sameBut s A := by
  simp only [converterAtGridSwap, periodDue_frame, withConverter_frame, silentTripDue_frame,
      silenceDue_frame, sameBut_ite, ite_self, hlimits, hsequencer, htrips, hconverter, hsite,
      hchoices, implies_true]

@[simp] theorem siteAtGridSwap_frame {A : List Block} (u : State) (first : Bool) (s : State)
    (hlimits : Block.limits ∈ A) (hsequencer : Block.sequencer ∈ A) (htrips : Block.trips ∈ A)
      (hconverter : Block.converter ∈ A) (hsite : Block.site ∈ A) :
    u.sameBut (siteAtGridSwap first s) A ↔ u.sameBut s A := by
  simp only [siteAtGridSwap, withSite_frame, siteSilenceDue_frame, sameBut_ite, ite_self, hlimits,
      hsequencer, htrips, hconverter, hsite, implies_true]

@[simp] theorem gridSwapped_frame {A : List Block} (u : State) (first : Bool) (s : State)
    (hlimits : Block.limits ∈ A) (hsequencer : Block.sequencer ∈ A) (htrips : Block.trips ∈ A)
      (hconverter : Block.converter ∈ A) (hsite : Block.site ∈ A) (hchoices : Block.choices ∈ A) :
    u.sameBut (gridSwapped first s) A ↔ u.sameBut s A := by
  simp only [gridSwapped, switchAtGridSwap_frame, workOutContainer_frame,
      converterAtGridSwap_frame, siteAtGridSwap_frame, sameBut_ite, ite_self,
      inAnyOrder_map_frame, inAnyOrder_frame, List.mem_cons, List.not_mem_nil, forall_eq_or_imp,
      or_false, forall_eq, imp_false, IsEmpty.forall_iff, implies_true, and_true, and_self,
      hlimits, hsequencer, htrips, hconverter, hsite, hchoices]

/-! ## Machine/Swaps.lean -/

@[simp] theorem swapBank_frame {A : List Block} (u : State) (t : TableName) (s : State)
    (htables : Block.tables ∈ A) :
    u.sameBut (swapBank t s) A ↔ u.sameBut s A := by
  simp only [swapBank, setTable_frame, sameBut_ite, ite_self, htables, implies_true]

@[simp] theorem postSwapped_frame {A : List Block} (u : State) (t : TableName) (s : State)
    (hsite : Block.site ∈ A) :
    u.sameBut (postSwapped t s) A ↔ u.sameBut s A := by
  simp only [postSwapped, post_frame, sameBut_ite, ite_self, hsite, implies_true]

@[simp] theorem judgeRequiredSet_frame {A : List Block} (u : State) (s : State)
    (hring : Block.ring ∈ A) (hbalance : Block.balance ∈ A) (hcooling : Block.cooling ∈ A)
      (htables : Block.tables ∈ A) (hsite : Block.site ∈ A) (hchoices : Block.choices ∈ A) :
    u.sameBut (judgeRequiredSet s) A ↔ u.sameBut s A := by
  simp only [judgeRequiredSet, changeMode_frame, withTables_frame, sameBut_ite, ite_self, hring,
      hbalance, hcooling, htables, hsite, hchoices, implies_true]

@[simp] theorem balanceSwapped_frame {A : List Block} (u : State) (before : List SlotEntry)
      (s : State)
    (hbalance : Block.balance ∈ A) :
    u.sameBut (balanceSwapped before s) A ↔ u.sameBut s A := by
  simp only [balanceSwapped, withBalance_frame, sameBut_ite, ite_self, hbalance, implies_true]

@[simp] theorem tripsAtSlotSwap_frame {A : List Block} (u : State) (s : State)
    (htrips : Block.trips ∈ A) :
    u.sameBut (tripsAtSlotSwap s) A ↔ u.sameBut s A := by
  simp only [tripsAtSlotSwap, markHeard_frame, sameBut_ite, ite_self, forRacks_frame, htrips,
      implies_true]

@[simp] theorem slotSwapped_frame {A : List Block} (u : State) (b : Before) (s : State)
    (hring : Block.ring ∈ A) (hsamples : Block.samples ∈ A) (hlimits : Block.limits ∈ A)
      (hbalance : Block.balance ∈ A) (hfire : Block.fire ∈ A) (htrips : Block.trips ∈ A)
      (hconverter : Block.converter ∈ A) :
    u.sameBut (slotSwapped b s) A ↔ u.sameBut s A := by
  simp only [slotSwapped, tripsAtSlotSwap_frame, refreshGasFault_frame, limitsAtSlotSwap_frame,
      balanceSwapped_frame, samplesSwapped_frame, ringSwapped_frame, sameBut_ite, ite_self, hring,
      hsamples, hlimits, hbalance, hfire, htrips, hconverter, implies_true]

@[simp] theorem forgetSets_frame {A : List Block} (u : State) (b : Before) (s : State)
    (hsamples : Block.samples ∈ A) :
    u.sameBut (forgetSets b s) A ↔ u.sameBut s A := by
  simp only [forgetSets, withSamples_frame, sameBut_ite, ite_self, hsamples, implies_true]

@[simp] theorem rackSwapped_frame {A : List Block} (u : State) (b : Before) (s : State)
    (hsamples : Block.samples ∈ A) (hlimits : Block.limits ∈ A) (hsequencer : Block.sequencer ∈ A)
      (htrips : Block.trips ∈ A) (hconverter : Block.converter ∈ A) (hsite : Block.site ∈ A)
      (hchoices : Block.choices ∈ A) :
    u.sameBut (rackSwapped b s) A ↔ u.sameBut s A := by
  simp only [rackSwapped, blindTimerSwapped_frame, forgetSets_frame, limitsAtRackSwap_frame,
      clearSides_frame, sameBut_ite, ite_self, forRacks_frame, hsamples, hlimits, hsequencer,
      htrips, hconverter, hsite, hchoices, implies_true]

@[simp] theorem ownerAtSwap_frame {A : List Block} (u : State) (b : Before) (t : TableName) (s : State)
    (hring : Block.ring ∈ A) (hsamples : Block.samples ∈ A) (hlimits : Block.limits ∈ A)
      (hbalance : Block.balance ∈ A) (hfire : Block.fire ∈ A) (hsequencer : Block.sequencer ∈ A)
      (htrips : Block.trips ∈ A) (hconverter : Block.converter ∈ A) (hsite : Block.site ∈ A)
      (hchoices : Block.choices ∈ A) :
    u.sameBut (ownerAtSwap b t s) A ↔ u.sameBut s A := by
  cases t <;> simp only [ownerAtSwap, slotSwapped_frame, clearSides_frame, rackSwapped_frame,
      limitsAtDerateSwap_frame, hring, hsamples, hlimits, hbalance, hfire, hsequencer, htrips,
      hconverter, hsite, hchoices]

@[simp] theorem swapRingPath_frame {A : List Block} (u : State) (names : List TableName) (s : State)
    (hring : Block.ring ∈ A) (hsamples : Block.samples ∈ A) (hlimits : Block.limits ∈ A)
      (hbalance : Block.balance ∈ A) (hcooling : Block.cooling ∈ A) (hfire : Block.fire ∈ A)
      (hsequencer : Block.sequencer ∈ A) (htrips : Block.trips ∈ A)
      (hconverter : Block.converter ∈ A) (htables : Block.tables ∈ A) (hsite : Block.site ∈ A)
      (hchoices : Block.choices ∈ A) :
    u.sameBut (swapRingPath names s) A ↔ u.sameBut s A := by
  simp only [swapRingPath, postSwapped_frame, swapBank_frame, ownerAtSwap_frame, withdrawRack_frame,
      startRing_frame,
      judgeRequiredSet_frame, powerOnReload_frame, sameBut_ite, ite_self, forRacks_frame,
      inAnyOrder_map_frame, inAnyOrder_frame, List.mem_cons, List.not_mem_nil, forall_eq_or_imp,
      or_false, forall_eq, imp_false, IsEmpty.forall_iff, implies_true, and_true, and_self,
      foldl_frame, hring, hsamples, hlimits, hbalance, hcooling, hfire, hsequencer, htrips,
      hconverter, htables, hsite, hchoices]

@[simp] theorem proofDue_frame {A : List Block} (u : State) (o : Output) (s : State)
    (hring : Block.ring ∈ A) (hlimits : Block.limits ∈ A) (hbalance : Block.balance ∈ A)
      (hcooling : Block.cooling ∈ A) (hsequencer : Block.sequencer ∈ A) (htrips : Block.trips ∈ A)
      (hconverter : Block.converter ∈ A) (hsite : Block.site ∈ A) (hchoices : Block.choices ∈ A) :
    u.sameBut (proofDue o s) A ↔ u.sameBut s A := by
  simp only [proofDue, expireProof_frame, sameBut_ite, ite_self, hring, hlimits, hbalance,
      hcooling, hsequencer, htrips, hconverter, hsite, hchoices, implies_true]

@[simp] theorem blindHoldDue_frame {A : List Block} (u : State) (s : State)
    (hring : Block.ring ∈ A) (hbalance : Block.balance ∈ A) (hcooling : Block.cooling ∈ A)
      (hsite : Block.site ∈ A) :
    u.sameBut (blindHoldDue s) A ↔ u.sameBut s A := by
  simp only [blindHoldDue, expireBlindHold_frame, sameBut_ite, ite_self, hring, hbalance,
      hcooling, hsite, implies_true]

@[simp] theorem coolSwapped_frame {A : List Block} (u : State) (first : Bool) (s : State)
    (hring : Block.ring ∈ A) (hlimits : Block.limits ∈ A) (hbalance : Block.balance ∈ A)
      (hcooling : Block.cooling ∈ A) (hsequencer : Block.sequencer ∈ A) (htrips : Block.trips ∈ A)
      (hconverter : Block.converter ∈ A) (hsite : Block.site ∈ A) (hchoices : Block.choices ∈ A) :
    u.sameBut (coolSwapped first s) A ↔ u.sameBut s A := by
  unfold coolSwapped
  (repeat' split) <;> simp only [withCooling_frame, refreshAllowance_frame, refreshFactor_frame,
      composeCommands_frame, blindHoldDue_frame, proofDue_frame, sameBut_ite, ite_self,
      inAnyOrder_map_frame, inAnyOrder_frame, List.mem_cons, List.not_mem_nil, forall_eq_or_imp,
      or_false, forall_eq, imp_false, IsEmpty.forall_iff, implies_true, and_true, and_self, hring,
      hlimits, hbalance, hcooling, hsequencer, htrips, hconverter, hsite, hchoices]

@[simp] theorem swapCool_frame {A : List Block} (u : State) (s : State)
    (hring : Block.ring ∈ A) (hlimits : Block.limits ∈ A) (hbalance : Block.balance ∈ A)
      (hcooling : Block.cooling ∈ A) (hsequencer : Block.sequencer ∈ A) (htrips : Block.trips ∈ A)
      (hconverter : Block.converter ∈ A) (htables : Block.tables ∈ A) (hsite : Block.site ∈ A)
      (hchoices : Block.choices ∈ A) :
    u.sameBut (swapCool s) A ↔ u.sameBut s A := by
  simp only [swapCool, coolSwapped_frame, postSwapped_frame, swapBank_frame, sameBut_ite,
      ite_self, hring, hlimits, hbalance, hcooling, hsequencer, htrips, hconverter, htables,
      hsite, hchoices, implies_true]

@[simp] theorem swapFire_frame {A : List Block} (u : State) (s : State)
    (hring : Block.ring ∈ A) (hlimits : Block.limits ∈ A) (hbalance : Block.balance ∈ A)
      (hcooling : Block.cooling ∈ A) (hfire : Block.fire ∈ A) (hsequencer : Block.sequencer ∈ A)
      (htrips : Block.trips ∈ A) (hconverter : Block.converter ∈ A) (htables : Block.tables ∈ A)
      (hsite : Block.site ∈ A) (hchoices : Block.choices ∈ A) :
    u.sameBut (swapFire s) A ↔ u.sameBut s A := by
  simp only [swapFire, fireSwapped_frame, postSwapped_frame, swapBank_frame, sameBut_ite,
      ite_self, hring, hlimits, hbalance, hcooling, hfire, hsequencer, htrips, hconverter,
      htables, hsite, hchoices, implies_true]

@[simp] theorem swapGrid_frame {A : List Block} (u : State) (s : State)
    (hring : Block.ring ∈ A) (hlimits : Block.limits ∈ A) (hbalance : Block.balance ∈ A)
      (hcooling : Block.cooling ∈ A) (hsequencer : Block.sequencer ∈ A) (htrips : Block.trips ∈ A)
      (hconverter : Block.converter ∈ A) (htables : Block.tables ∈ A) (hsite : Block.site ∈ A)
      (hchoices : Block.choices ∈ A) :
    u.sameBut (swapGrid s) A ↔ u.sameBut s A := by
  simp only [swapGrid, judgeRequiredSet_frame, gridSwapped_frame, postSwapped_frame,
      swapBank_frame, sameBut_ite, ite_self, hring, hlimits, hbalance, hcooling, hsequencer,
      htrips, hconverter, htables, hsite, hchoices, implies_true]

@[simp] theorem endHold_frame {A : List Block} (u : State) (s : State)
    (hring : Block.ring ∈ A) (hlimits : Block.limits ∈ A) (hbalance : Block.balance ∈ A)
      (hcooling : Block.cooling ∈ A) (hsequencer : Block.sequencer ∈ A) (htrips : Block.trips ∈ A)
      (hconverter : Block.converter ∈ A) (htables : Block.tables ∈ A) (hsite : Block.site ∈ A)
      (hchoices : Block.choices ∈ A) :
    u.sameBut (endHold s) A ↔ u.sameBut s A := by
  simp only [endHold, workOutContainer_frame, withSequencer_frame, swapGrid_frame, sameBut_ite,
      ite_self, hring, hlimits, hbalance, hcooling, hsequencer, htrips, hconverter, htables,
      hsite, hchoices, implies_true]

@[simp] theorem settle_frame {A : List Block} (u : State) (s : State)
    (hring : Block.ring ∈ A) (hlimits : Block.limits ∈ A) (hbalance : Block.balance ∈ A)
      (hcooling : Block.cooling ∈ A) (hsequencer : Block.sequencer ∈ A) (htrips : Block.trips ∈ A)
      (hconverter : Block.converter ∈ A) (htables : Block.tables ∈ A) (hsite : Block.site ∈ A)
      (hchoices : Block.choices ∈ A) :
    u.sameBut (settle s) A ↔ u.sameBut s A := by
  simp only [settle, endHold_frame, grantDisconnects_frame, judgeContainerLatch_frame,
      sameBut_ite, ite_self, hring, hlimits, hbalance, hcooling, hsequencer, htrips, hconverter,
      htables, hsite, hchoices, implies_true]

@[simp] theorem swapNow_frame {A : List Block} (u : State) (t : TableName) (s : State)
    (hring : Block.ring ∈ A) (hsamples : Block.samples ∈ A) (hlimits : Block.limits ∈ A)
      (hbalance : Block.balance ∈ A) (hcooling : Block.cooling ∈ A) (hfire : Block.fire ∈ A)
      (hsequencer : Block.sequencer ∈ A) (htrips : Block.trips ∈ A)
      (hconverter : Block.converter ∈ A) (htables : Block.tables ∈ A) (hsite : Block.site ∈ A)
      (hchoices : Block.choices ∈ A) :
    u.sameBut (swapNow t s) A ↔ u.sameBut s A := by
  unfold swapNow
  (repeat' split) <;> simp only [swapCool_frame, swapFire_frame, swapGrid_frame,
      swapRingPath_frame, sameBut_ite, ite_self, hring, hsamples, hlimits, hbalance, hcooling,
      hfire, hsequencer, htrips, hconverter, htables, hsite, hchoices, implies_true]

/-! ## Machine/BalanceCommands.lean -/

@[simp] theorem endCoolDown_frame {A : List Block} (u : State) (node : Nat) (s : State)
    (hbalance : Block.balance ∈ A) :
    u.sameBut (endCoolDown node s) A ↔ u.sameBut s A := by
  simp only [endCoolDown, resumeRecords_frame, mapBalanceNode_frame, sameBut_ite, ite_self,
      hbalance, implies_true]

@[simp] theorem enableBalance_frame {A : List Block} (u : State) (r : Rack) (s : State)
    (hbalance : Block.balance ∈ A) :
    u.sameBut (enableBalance r s) A ↔ u.sameBut s A := by
  simp only [enableBalance, setRackBalance_frame, resumeRecords_frame, mapBalanceNode_frame,
      sameBut_ite, ite_self, foldl_frame, implies_true, hbalance]

@[simp] theorem disableBalance_frame {A : List Block} (u : State) (r : Rack) (s : State)
    (hring : Block.ring ∈ A) (hbalance : Block.balance ∈ A) :
    u.sameBut (disableBalance r s) A ↔ u.sameBut s A := by
  simp only [disableBalance, endActive_frame, setRackBalance_frame, sameBut_ite, ite_self, hring,
      hbalance, implies_true]

/-! ## Machine/CoolingCommands.lean -/

@[simp] theorem judgeBlindState_frame {A : List Block} (u : State) (s : State)
    (hcooling : Block.cooling ∈ A) (hsite : Block.site ∈ A) :
    u.sameBut (judgeBlindState s) A ↔ u.sameBut s A := by
  unfold judgeBlindState
  (repeat' split) <;> simp only [withCooling_frame, post_frame, sameBut_ite, ite_self, hcooling,
      hsite, implies_true]

@[simp] theorem stepLadder_frame {A : List Block} (u : State) (s : State)
    (hring : Block.ring ∈ A) (hbalance : Block.balance ∈ A) (hcooling : Block.cooling ∈ A) :
    u.sameBut (stepLadder s) A ↔ u.sameBut s A := by
  unfold stepLadder
  (repeat' split) <;> simp only [setLevel_frame, sameBut_ite, ite_self, hring, hbalance, hcooling,
      implies_true]

@[simp] theorem judgeHeater_frame {A : List Block} (u : State) (s : State)
    (hcooling : Block.cooling ∈ A) :
    u.sameBut (judgeHeater s) A ↔ u.sameBut s A := by
  unfold judgeHeater
  (repeat' split) <;> simp only [setHeaterDemand_frame, sameBut_ite, ite_self, hcooling,
      implies_true]

@[simp] theorem swapCoolIfCommitted_frame {A : List Block} (u : State) (s : State)
    (hring : Block.ring ∈ A) (hlimits : Block.limits ∈ A) (hbalance : Block.balance ∈ A)
      (hcooling : Block.cooling ∈ A) (hsequencer : Block.sequencer ∈ A) (htrips : Block.trips ∈ A)
      (hconverter : Block.converter ∈ A) (htables : Block.tables ∈ A) (hsite : Block.site ∈ A)
      (hchoices : Block.choices ∈ A) :
    u.sameBut (swapCoolIfCommitted s) A ↔ u.sameBut s A := by
  simp only [swapCoolIfCommitted, swapCool_frame, sameBut_ite, ite_self, hring, hlimits, hbalance,
      hcooling, hsequencer, htrips, hconverter, htables, hsite, hchoices, implies_true]

@[simp] theorem controlStep_frame {A : List Block} (u : State) (s : State)
    (hring : Block.ring ∈ A) (hlimits : Block.limits ∈ A) (hbalance : Block.balance ∈ A)
      (hcooling : Block.cooling ∈ A) (hsequencer : Block.sequencer ∈ A) (htrips : Block.trips ∈ A)
      (hconverter : Block.converter ∈ A) (htables : Block.tables ∈ A) (hsite : Block.site ∈ A)
      (hchoices : Block.choices ∈ A) :
    u.sameBut (controlStep s) A ↔ u.sameBut s A := by
  simp only [controlStep, swapCoolIfCommitted_frame, withCooling_frame, judgeCoolingLoss_frame,
      judgeHeater_frame, stepLadder_frame, judgeBlindState_frame, sameBut_ite, ite_self, hring,
      hlimits, hbalance, hcooling, hsequencer, htrips, hconverter, htables, hsite, hchoices,
      implies_true]

@[simp] theorem changeOutputFeedback_frame {A : List Block} (u : State) (o : Output) (on : Bool)
      (s : State)
    (hcooling : Block.cooling ∈ A) :
    u.sameBut (changeOutputFeedback o on s) A ↔ u.sameBut s A := by
  simp only [changeOutputFeedback, composeCommands_frame, setOutput_frame, sameBut_ite, ite_self,
      hcooling, implies_true]

@[simp] theorem clearStatuses_frame {A : List Block} (u : State) (s : State)
    (hcooling : Block.cooling ∈ A) :
    u.sameBut (clearStatuses s) A ↔ u.sameBut s A := by
  simp only [clearStatuses, withCooling_frame, sameBut_ite, ite_self, hcooling, implies_true]

/-! ## Machine/FireCommands.lean -/

@[simp] theorem changeReading_frame {A : List Block} (u : State) (l : Line) (reading : LineClass)
      (s : State)
    (hfire : Block.fire ∈ A) :
    u.sameBut (changeReading l reading s) A ↔ u.sameBut s A := by
  simp only [changeReading, setLine_frame, sameBut_ite, ite_self, hfire, implies_true]

@[simp] theorem toggleHorn_frame {A : List Block} (u : State) (s : State)
    (hfire : Block.fire ∈ A) :
    u.sameBut (toggleHorn s) A ↔ u.sameBut s A := by
  simp only [toggleHorn, withFire_frame, sameBut_ite, ite_self, hfire, implies_true]

@[simp] theorem endRelease_frame {A : List Block} (u : State) (s : State)
    (hfire : Block.fire ∈ A) :
    u.sameBut (endRelease s) A ↔ u.sameBut s A := by
  simp only [endRelease, withFire_frame, sameBut_ite, ite_self, hfire, implies_true]

/-! ## Machine/Resets.lean -/

@[simp] theorem losePower_frame {A : List Block} (u : State) (s : State)
    (hlimits : Block.limits ∈ A) (hbalance : Block.balance ∈ A) (hsequencer : Block.sequencer ∈ A)
      (htrips : Block.trips ∈ A) (htables : Block.tables ∈ A) :
    u.sameBut (losePower s) A ↔ u.sameBut s A := by
  simp only [losePower, withTables_frame, withLimits_frame, withBalance_frame, withTrips_frame,
      withSequencer_frame, sameBut_ite, ite_self, hlimits, hbalance, hsequencer, htrips, htables,
      implies_true]

@[simp] theorem keepTables_frame {A : List Block} (u : State) (s : State)
    (hlimits : Block.limits ∈ A) (hbalance : Block.balance ∈ A) (htrips : Block.trips ∈ A)
      (htables : Block.tables ∈ A) :
    u.sameBut (keepTables s) A ↔ u.sameBut s A := by
  simp only [keepTables, withTables_frame, withLimits_frame, withBalance_frame, withTrips_frame,
      sameBut_ite, ite_self, hlimits, hbalance, htrips, htables, implies_true]

@[simp] theorem coolingReset_frame {A : List Block} (u : State) (s : State)
    (hcooling : Block.cooling ∈ A) :
    u.sameBut (coolingReset s) A ↔ u.sameBut s A := by
  unfold coolingReset
  (repeat' split) <;> simp only [withCooling_frame, sameBut_ite, ite_self, hcooling, implies_true]

@[simp] theorem switchReset_frame {A : List Block} (u : State) (s : State)
    (hsequencer : Block.sequencer ∈ A) :
    u.sameBut (switchReset s) A ↔ u.sameBut s A := by
  simp only [switchReset, withSequencer_frame, sameBut_ite, ite_self, hsequencer, implies_true]

@[simp] theorem siteReset_frame {A : List Block} (u : State) (s : State)
    (hsite : Block.site ∈ A) :
    u.sameBut (siteReset s) A ↔ u.sameBut s A := by
  simp only [siteReset, withSite_frame, sameBut_ite, ite_self, hsite, implies_true]

@[simp] theorem limitsReset_frame {A : List Block} (u : State) (s : State)
    (hlimits : Block.limits ∈ A) :
    u.sameBut (limitsReset s) A ↔ u.sameBut s A := by
  simp only [limitsReset, withLimits_frame, sameBut_ite, ite_self, hlimits, implies_true]

@[simp] theorem fireReset_frame {A : List Block} (u : State) (s : State)
    (hfire : Block.fire ∈ A) :
    u.sameBut (fireReset s) A ↔ u.sameBut s A := by
  simp only [fireReset, refreshGasFault_frame, withFire_frame, sameBut_ite, ite_self, hfire,
      implies_true]

@[simp] theorem converterReset_frame {A : List Block} (u : State) (s : State)
    (hconverter : Block.converter ∈ A) :
    u.sameBut (converterReset s) A ↔ u.sameBut s A := by
  simp only [converterReset, withConverter_frame, sameBut_ite, ite_self, hconverter, implies_true]

@[simp] theorem resetBlocks_frame {A : List Block} (u : State) (s : State)
    (hnow : Block.now ∈ A) (hring : Block.ring ∈ A) (hsamples : Block.samples ∈ A)
      (hlimits : Block.limits ∈ A) (hcooling : Block.cooling ∈ A) (hfire : Block.fire ∈ A)
      (hsequencer : Block.sequencer ∈ A) (htrips : Block.trips ∈ A)
      (hconverter : Block.converter ∈ A) (hsite : Block.site ∈ A) (hchoices : Block.choices ∈ A) :
    u.sameBut (resetBlocks s) A ↔ u.sameBut s A := by
  simp only [resetBlocks, weldedAtReset_frame, limitsReset_frame, fireReset_frame,
      coolingReset_frame, samplesReset_frame, ringReset_frame, converterReset_frame,
      switchReset_frame, siteReset_frame, withNow_frame, sameBut_ite, ite_self, hnow, hring,
      hsamples, hlimits, hcooling, hfire, hsequencer, htrips, hconverter, hsite, hchoices,
      implies_true]

/-! ## Machine/RingCommands.lean -/

@[simp] theorem postSetComplete_frame {A : List Block} (u : State) (r : Rack) (s : State)
    (hring : Block.ring ∈ A) (hlimits : Block.limits ∈ A) (hbalance : Block.balance ∈ A)
      (hsequencer : Block.sequencer ∈ A) (htrips : Block.trips ∈ A)
      (hconverter : Block.converter ∈ A) (hsite : Block.site ∈ A) (hchoices : Block.choices ∈ A) :
    u.sameBut (postSetComplete r s) A ↔ u.sameBut s A := by
  unfold postSetComplete
  refine inAnyOrder_frame u _ _ hchoices fun act ha t => ?_
  simp only [List.mem_append, List.mem_cons, List.not_mem_nil, or_false] at ha
  rcases ha with (rfl | rfl | rfl | rfl) | ha
  · simp only [limitSetComplete_frame, hlimits, hconverter, hsite]
  · simp only [balanceSetComplete_frame, hring, hbalance, hsite]
  · simp only [switchSetComplete_frame, hlimits, hsequencer, htrips, hconverter, hsite, hchoices]
  · simp only [tripSetComplete_frame, hlimits, hsequencer, htrips, hconverter, hsite, hchoices]
  · split at ha
    · rw [List.mem_singleton.1 ha]
      simp only [produceRackSummary_frame, hsite, hlimits]
    · exact absurd ha List.not_mem_nil

@[simp] theorem rackSetComplete_frame {A : List Block} (u : State) (r : Rack) (s : State)
    (hring : Block.ring ∈ A) (hsamples : Block.samples ∈ A) (hlimits : Block.limits ∈ A)
      (hbalance : Block.balance ∈ A) (hsequencer : Block.sequencer ∈ A) (htrips : Block.trips ∈ A)
      (hconverter : Block.converter ∈ A) (hsite : Block.site ∈ A) (hchoices : Block.choices ∈ A) :
    u.sameBut (rackSetComplete r s) A ↔ u.sameBut s A := by
  simp only [rackSetComplete, prepareSet_frame, postSetComplete_frame, setRackSamples_frame,
      sameBut_ite, ite_self, hring, hsamples, hlimits, hbalance, hsequencer, htrips, hconverter,
      hsite, hchoices, implies_true]

@[simp] theorem takeOutcome_frame {A : List Block} (u : State) (e : SlotEntry)
      (outcome : SlotOutcome) (link : LinkState) (s : State)
    (hring : Block.ring ∈ A) (hsamples : Block.samples ∈ A) (hlimits : Block.limits ∈ A)
      (hbalance : Block.balance ∈ A) (hcooling : Block.cooling ∈ A) (hfire : Block.fire ∈ A)
      (hsequencer : Block.sequencer ∈ A) (htrips : Block.trips ∈ A)
      (hconverter : Block.converter ∈ A) (hsite : Block.site ∈ A) (hchoices : Block.choices ∈ A) :
    u.sameBut (takeOutcome e outcome link s) A ↔ u.sameBut s A := by
  unfold takeOutcome
  (repeat' split) <;> simp only [traceOutcome_frame, checkStale_frame, takeCodes_frame,
      rackSetComplete_frame, plantNotice_frame, sameBut_ite, ite_self, hring, hsamples, hlimits,
      hbalance, hcooling, hfire, hsequencer, htrips, hconverter, hsite, hchoices, implies_true]

@[simp] theorem startCycle_frame {A : List Block} (u : State) (s : State)
    (hring : Block.ring ∈ A) (hsamples : Block.samples ∈ A) (hlimits : Block.limits ∈ A)
      (hbalance : Block.balance ∈ A) (hcooling : Block.cooling ∈ A) (hfire : Block.fire ∈ A)
      (hsequencer : Block.sequencer ∈ A) (htrips : Block.trips ∈ A)
      (hconverter : Block.converter ∈ A) (htables : Block.tables ∈ A) (hsite : Block.site ∈ A)
      (hchoices : Block.choices ∈ A) :
    u.sameBut (startCycle s) A ↔ u.sameBut s A := by
  simp only [startCycle, withRing_frame, beginCycle_frame, swapRingPath_frame, sameBut_ite,
      ite_self, hring, hsamples, hlimits, hbalance, hcooling, hfire, hsequencer, htrips,
      hconverter, htables, hsite, hchoices, implies_true]

@[simp] theorem receiveToken_frame {A : List Block} (u : State) (d : RingEnd) (f : TokenFrame)
      (s : State)
    (hring : Block.ring ∈ A) :
    u.sameBut (receiveToken d f s) A ↔ u.sameBut s A := by
  unfold receiveToken
  (repeat' split) <;> simp only [discard_frame, withRing_frame, sameBut_ite, ite_self, hring,
      implies_true]

@[simp] theorem endTokenPhase_frame {A : List Block} (u : State) (s : State)
    (hring : Block.ring ∈ A) (hsite : Block.site ∈ A) :
    u.sameBut (endTokenPhase s) A ↔ u.sameBut s A := by
  simp only [endTokenPhase, setPhase_frame, settleToken_frame, sameBut_ite, ite_self, hring,
      hsite, implies_true]

@[simp] theorem startSlot_frame {A : List Block} (u : State) (s : State)
    (hring : Block.ring ∈ A) :
    u.sameBut (startSlot s) A ↔ u.sameBut s A := by
  unfold startSlot
  (repeat' split) <;> simp only [setPhase_frame, slotPoll_frame, sameBut_ite, ite_self, hring,
      implies_true]

@[simp] theorem takeEcho_frame {A : List Block} (u : State) (e : SlotEntry) (applied : CellMask)
      (s : State)
    (hring : Block.ring ∈ A) (hbalance : Block.balance ∈ A) :
    u.sameBut (takeEcho e applied s) A ↔ u.sameBut s A := by
  unfold takeEcho
  (repeat' split) <;> simp only [echoCheck_frame, mapRingNode_frame, sameBut_ite, ite_self, hring,
      hbalance, implies_true]

@[simp] theorem acceptSample_frame {A : List Block} (u : State) (d : RingEnd) (f : SampleFrame)
      (e : SlotEntry) (s : State)
    (hring : Block.ring ∈ A) (hsamples : Block.samples ∈ A) (hlimits : Block.limits ∈ A)
      (hbalance : Block.balance ∈ A) (hcooling : Block.cooling ∈ A) (hfire : Block.fire ∈ A)
      (hsequencer : Block.sequencer ∈ A) (htrips : Block.trips ∈ A)
      (hconverter : Block.converter ∈ A) (hsite : Block.site ∈ A) (hchoices : Block.choices ∈ A) :
    u.sameBut (acceptSample d f e s) A ↔ u.sameBut s A := by
  simp only [acceptSample, setExpectation_frame, mapRingNode_frame, takeEcho_frame,
      pollLater_frame, takeOutcome_frame, sameBut_ite, ite_self, hring, hsamples, hlimits,
      hbalance, hcooling, hfire, hsequencer, htrips, hconverter, hsite, hchoices, implies_true]

@[simp] theorem receiveSample_frame {A : List Block} (u : State) (d : RingEnd) (f : SampleFrame)
      (s : State)
    (hring : Block.ring ∈ A) (hsamples : Block.samples ∈ A) (hlimits : Block.limits ∈ A)
      (hbalance : Block.balance ∈ A) (hcooling : Block.cooling ∈ A) (hfire : Block.fire ∈ A)
      (hsequencer : Block.sequencer ∈ A) (htrips : Block.trips ∈ A)
      (hconverter : Block.converter ∈ A) (hsite : Block.site ∈ A) (hchoices : Block.choices ∈ A) :
    u.sameBut (receiveSample d f s) A ↔ u.sameBut s A := by
  unfold receiveSample
  (repeat' split) <;> simp only [discard_frame, acceptSample_frame, sameBut_ite, ite_self, hring,
      hsamples, hlimits, hbalance, hcooling, hfire, hsequencer, htrips, hconverter, hsite,
      hchoices, implies_true]

@[simp] theorem takeMiss_frame {A : List Block} (u : State) (e : SlotEntry) (s : State)
    (hring : Block.ring ∈ A) (hsamples : Block.samples ∈ A) (hlimits : Block.limits ∈ A)
      (hbalance : Block.balance ∈ A) (hcooling : Block.cooling ∈ A) (hfire : Block.fire ∈ A)
      (hsequencer : Block.sequencer ∈ A) (htrips : Block.trips ∈ A)
      (hconverter : Block.converter ∈ A) (hsite : Block.site ∈ A) (hchoices : Block.choices ∈ A) :
    u.sameBut (takeMiss e s) A ↔ u.sameBut s A := by
  unfold takeMiss
  simp only [markEnded_frame, mapRingNode_frame, takeOutcome_frame,
      sameBut_ite, ite_self, hring, hsamples, hlimits, hbalance, hcooling, hfire, hsequencer,
      htrips, hconverter, hsite, hchoices, implies_true]

@[simp] theorem endSlot_frame {A : List Block} (u : State) (s : State)
    (hring : Block.ring ∈ A) (hsamples : Block.samples ∈ A) (hlimits : Block.limits ∈ A)
      (hbalance : Block.balance ∈ A) (hcooling : Block.cooling ∈ A) (hfire : Block.fire ∈ A)
      (hsequencer : Block.sequencer ∈ A) (htrips : Block.trips ∈ A)
      (hconverter : Block.converter ∈ A) (hsite : Block.site ∈ A) (hchoices : Block.choices ∈ A) :
    u.sameBut (endSlot s) A ↔ u.sameBut s A := by
  unfold endSlot
  (repeat' split) <;> simp only [takeMiss_frame, setPhase_frame, sameBut_ite, ite_self, hring,
      hsamples, hlimits, hbalance, hcooling, hfire, hsequencer, htrips, hconverter, hsite,
      hchoices, implies_true]

@[simp] theorem startTurn_frame {A : List Block} (u : State) (s : State)
    (hring : Block.ring ∈ A) :
    u.sameBut (startTurn s) A ↔ u.sameBut s A := by
  unfold startTurn
  (repeat' split) <;> simp only [setPhase_frame, eventPoll_frame, withRing_frame, sameBut_ite,
      ite_self, hring, implies_true]

@[simp] theorem handleEvent_frame {A : List Block} (u : State) (e : SlotEntry)
      (kind : NodeEventCode) (channel : Nat) (s : State)
    (hring : Block.ring ∈ A) (hsamples : Block.samples ∈ A) (hlimits : Block.limits ∈ A)
      (hbalance : Block.balance ∈ A) (hsequencer : Block.sequencer ∈ A) (htrips : Block.trips ∈ A)
      (hconverter : Block.converter ∈ A) (hsite : Block.site ∈ A) (hchoices : Block.choices ∈ A) :
    u.sameBut (handleEvent e kind channel s) A ↔ u.sameBut s A := by
  have ev : ∀ act ∈ eventActions e kind channel s.now, ∀ t,
      u.sameBut (act t) A ↔ u.sameBut t A := by
    intro act ha t
    cases kind <;> simp only [eventActions, List.mem_cons, List.not_mem_nil, or_false] at ha
    · rcases ha with rfl | rfl | rfl | rfl
      · simp only [mapRingNode_frame, hring]
      · simp only [balanceRestart_frame, sameBut_ite, ite_self, hring, hbalance]
      · simp only [sampleRestart_frame, hsamples]
      · simp only [restartHeard_frame, hlimits, hsequencer, htrips, hconverter, hsite, hchoices]
    · subst ha
      simp only [takeCause_frame, hlimits, hsequencer, htrips, hconverter, hsite, hchoices]
    · subst ha
      simp only [takeCause_frame, hlimits, hsequencer, htrips, hconverter, hsite, hchoices]
    · subst ha; simp only [senseOpened_frame, hsamples]
    · subst ha; simp only [bleedHot_frame, hring, hbalance]
    · subst ha; simp only [nodeFaulted_frame, hsamples]
  unfold handleEvent
  split
  · rfl
  · split
    · refine inAnyOrder_frame u _ _ hchoices fun act ha t => ?_
      rcases List.mem_cons.1 ha with rfl | ha
      · simp only [post_frame, hsite]
      · exact ev act ha t
    · simp only [post_frame, hsite]

@[simp] theorem receiveEvent_frame {A : List Block} (u : State) (d : RingEnd) (f : EventFrame)
      (s : State)
    (hring : Block.ring ∈ A) (hsamples : Block.samples ∈ A) (hlimits : Block.limits ∈ A)
      (hbalance : Block.balance ∈ A) (hsequencer : Block.sequencer ∈ A) (htrips : Block.trips ∈ A)
      (hconverter : Block.converter ∈ A) (hsite : Block.site ∈ A) (hchoices : Block.choices ∈ A) :
    u.sameBut (receiveEvent d f s) A ↔ u.sameBut s A := by
  unfold receiveEvent
  (repeat' split) <;> simp only [discard_frame, setExpectation_frame, pollLater_frame,
      handleEvent_frame, sameBut_ite, ite_self, hring, hsamples, hlimits, hbalance, hsequencer,
      htrips, hconverter, hsite, hchoices, implies_true]

@[simp] theorem endTurn_frame {A : List Block} (u : State) (s : State)
    (hring : Block.ring ∈ A) :
    u.sameBut (endTurn s) A ↔ u.sameBut s A := by
  unfold endTurn
  (repeat' split) <;> simp only [pollLater_frame, markEnded_frame, setPhase_frame, sameBut_ite,
      ite_self, hring, implies_true]

/-! ## Machine/SiteCommands.lean -/

@[simp] theorem flagError_frame {A : List Block} (u : State) (set : LinkErrors → LinkErrors)
      (s : State)
    (hsite : Block.site ∈ A) :
    u.sameBut (flagError set s) A ↔ u.sameBut s A := by
  simp only [flagError, withSite_frame, sameBut_ite, ite_self, hsite, implies_true]

@[simp] theorem receiveFrame_frame {A : List Block} (u : State) (v : FrameVerdict) (s : State)
    (hsite : Block.site ∈ A) :
    u.sameBut (receiveFrame v s) A ↔ u.sameBut s A := by
  unfold receiveFrame
  (repeat' split) <;> simp only [flagError_frame, siteHeard_frame, offerRequest_frame,
      sameBut_ite, ite_self, hsite, implies_true]

@[simp] theorem frameSent_frame {A : List Block} (u : State) (s : State)
    (hsite : Block.site ∈ A) :
    u.sameBut (frameSent s) A ↔ u.sameBut s A := by
  unfold frameSent
  (repeat' split) <;> simp only [withSite_frame, sameBut_ite, ite_self, hsite, implies_true]

@[simp] theorem clearErrors_frame {A : List Block} (u : State) (s : State)
    (hring : Block.ring ∈ A) (hconverter : Block.converter ∈ A) (hsite : Block.site ∈ A) :
    u.sameBut (clearErrors s) A ↔ u.sameBut s A := by
  simp only [clearErrors, withSite_frame, withRing_frame, withConverter_frame, sameBut_ite,
      ite_self, hring, hconverter, hsite, implies_true]

@[simp] theorem clearExtremes_frame {A : List Block} (u : State) (r : Rack) (nodes : List Nat)
      (s : State)
    (hsamples : Block.samples ∈ A) :
    u.sameBut (clearExtremes r nodes s) A ↔ u.sameBut s A := by
  simp only [clearExtremes, withSamples_frame, sameBut_ite, ite_self, hsamples, implies_true]

/-! ## Machine/TripCommands.lean -/

@[simp] theorem ackLatch_frame {A : List Block} (u : State) (n : LatchName) (s : State)
    (htrips : Block.trips ∈ A) :
    u.sameBut (ackLatch n s) A ↔ u.sameBut s A := by
  unfold ackLatch
  (repeat' split) <;> simp only [setRackLatches_frame, withTrips_frame, sameBut_ite, ite_self,
      htrips, implies_true]

@[simp] theorem clearTrips_frame {A : List Block} (u : State) (racks : List Rack)
      (names : List LatchName) (s : State)
    (hring : Block.ring ∈ A) (hsamples : Block.samples ∈ A) (hlimits : Block.limits ∈ A)
      (hbalance : Block.balance ∈ A) (hcooling : Block.cooling ∈ A)
      (hsequencer : Block.sequencer ∈ A) (htrips : Block.trips ∈ A)
      (hconverter : Block.converter ∈ A) (hsite : Block.site ∈ A) (hchoices : Block.choices ∈ A) :
    u.sameBut (clearTrips racks names s) A ↔ u.sameBut s A := by
  simp only [clearTrips, ackLatch_frame, acknowledgeSides_frame, judgeRackLatches_frame,
      judgeContainerLatch_frame, sameBut_ite, ite_self, forRacks_frame, foldl_frame, implies_true,
      hring, hsamples, hlimits, hbalance, hcooling, hsequencer, htrips, hconverter, hsite,
      hchoices]

end Sys2Proof.Machine
end

