-- ==== Sys2Proof/Laws/Racks.lean ====
section
/-!
SUPPORT. What the shared moves of the rack sequencer do to the racks (chapter 7): a change of state
writes the one rack, an order leaves no rack it names ready to conduct, and a sequencer at rest is left
alone by the settling that closes a step.
-/

namespace Sys2Proof.Machine

/-! ## Changing a rack's state -/

@[simp] theorem rewatch_state (now : PartTime) (x : RackSwitch) : (x.rewatch now).state = x.state :=
  rfl

@[simp] theorem rewatch_operation (now : PartTime) (x : RackSwitch) :
    (x.rewatch now).operation = x.operation := rfl

@[simp] theorem rewatch_faultKind (now : PartTime) (x : RackSwitch) :
    (x.rewatch now).faultKind = x.faultKind := rfl

/-- The hold's start changes no rack, no queue entry and no slot (R137). -/
theorem startHold_sequencer (s : State) :
    (startHold s).sequencer.racks = s.sequencer.racks ∧
      (startHold s).sequencer.queue = s.sequencer.queue ∧
      (startHold s).sequencer.slot = s.sequencer.slot := by
  unfold startHold
  split
  · have h := forRacks_frame (A := [.limits]) (s.withSequencer { s.sequencer with hold := true })
      Rack.all zeroRackLimit (s.withSequencer { s.sequencer with hold := true })
      (fun r t => zeroRackLimit_frame _ r t (by simp))
    have k := h.2 (sameBut_refl _ _) .sequencer (by simp)
    simp only [Block.same] at k
    rw [k]
    exact ⟨rfl, rfl, rfl⟩
  · exact ⟨rfl, rfl, rfl⟩

/-- A change of rack state writes that rack, with its watches brought up, and no other; the queue and
the slot stay (R123 to R125). -/
theorem changeRack_sequencer (r : Rack) (x : RackSwitch) (cause : RackCause) (s : State) :
    (changeRack r x cause s).sequencer.racks = s.sequencer.racks.set r (x.rewatch s.now) ∧
      (changeRack r x cause s).sequencer.queue = s.sequencer.queue ∧
      (changeRack r x cause s).sequencer.slot = s.sequencer.slot := by
  have keep {A : List Block} {u t : State} (h : u.sameBut t A) (hA : Block.sequencer ∉ A) :
      t.sequencer = u.sequencer := h .sequencer hA
  unfold changeRack
  simp only []
  split
  · exact ⟨rfl, rfl, rfl⟩
  · rw [keep (A := [.converter]) ((judgePermit_frame _ _ (by simp)).2 (sameBut_refl _ _)) (by simp)]
    have hw (t : State) : (workOutContainer t).sequencer = t.sequencer :=
      keep (A := [.limits, .converter])
        ((workOutContainer_frame t t (by simp) (by simp)).2 (sameBut_refl _ _)) (by simp)
    have hl (t : State) : (leaveConnected r t).sequencer = t.sequencer :=
      keep (A := [.limits, .trips])
        ((leaveConnected_frame t r t (by simp) (by simp)).2 (sameBut_refl _ _)) (by simp)
    have hp (e : Event) (t : State) : (post e t).sequencer = t.sequencer :=
      keep (post_sameBut e t) (by simp)
    have hs := startHold_sequencer
    split <;> split <;> simp [hw, hl, hp, hs]

/-- The rack states after a change of one. -/
theorem changeRack_rackState (r k : Rack) (x : RackSwitch) (cause : RackCause) (s : State) :
    (changeRack r x cause s).rackState k = if k = r then x.state else s.rackState k := by
  simp only [State.rackState, (changeRack_sequencer r x cause s).1, PerRack.get_set]
  split <;> rfl

/-! ## Settling -/

theorem judgeContainerLatch_stays {s : State} {k : TripKind}
    (h : (s.trips.container.latch k).standing = true → s.containerGone k = false) :
    judgeContainerLatch k s = s := by
  unfold judgeContainerLatch
  rw [if_neg]
  intro hh
  simp only [Bool.and_eq_true] at hh
  simp [h hh.1] at hh

theorem grantDisconnects_stays {s : State} (h : s.grantable = none) (n : Nat) :
    grantDisconnects n s = s := by
  cases n with
  | zero => rfl
  | succ n => simp [grantDisconnects, h]

theorem endHold_stays {s : State} (h : s.sequencer.hold = true → s.anySwitching = true) :
    endHold s = s := by
  unfold endHold
  rw [if_neg]
  intro hh
  simp only [Bool.and_eq_true] at hh
  simp [h hh.1] at hh

/-- A sequencer at rest is left alone by the settling that closes a step. -/
theorem settle_stays {s : State} (h : s.Settled) : settle s = s := by
  unfold settle
  rw [judgeContainerLatch_stays (k := .welded) h.welded, grantDisconnects_stays h.granted,
    endHold_stays h.hold, judgeContainerLatch_stays (k := .welded) h.welded,
    grantDisconnects_stays h.granted, endHold_stays h.hold]

/-! ## Published limits at a RACK swap -/

/-- Working the container limits out leaves every rack's charge and published limit alone (R66). -/
@[simp] theorem workOutContainer_racks (s : State) :
    (workOutContainer s).limits.racks = s.limits.racks := by
  have keep (lower : Bool) (x : State) : (judgeFlags lower x).limits = x.limits :=
    ((judgeFlags_frame (A := [.converter]) x lower x (by decide)).2
      (sameBut_refl x _)) .limits (by decide)
  simp only [workOutContainer, keep]
  rfl

/-- Capping the published limits does nothing else to a rack of the limit computer (R65). -/
theorem capRackLimits_rack (s : State) (r : Rack) :
    (capRackLimits s).limits.racks.get r = (s.limits.racks.get r).capped (s.rackEntry r) := by
  simp only [capRackLimits]
  split
  next h => simpa using (congrArg (PerRack.get · r) h).symm
  next => simp

/-- What a RACK swap does to a rack of the limit computer: its charge moves as R58 states, and its
published limits fall to the base currents of its entry (R65). -/
theorem limitsAtRackSwap_rack (before : Rack → Option RackEntry) (s : State) (r : Rack) :
    (limitsAtRackSwap before s).limits.racks.get r =
      ((s.limits.racks.get r).swap (before r) (s.rackConfig r)).capped (s.rackEntry r) := by
  rw [limitsAtRackSwap, capRackLimits_rack, State.withLimits_limits, PerRack.get_mapWith]
  rfl

end Sys2Proof.Machine
end

