-- ==== Sys2Proof/WellFormed.lean ====
section
/-!
DEFINITION. Which commands are well formed: every numeric operand fits the field that carries it.
A value inside its field but outside the manual's range (a rack 9, a count 0) is well formed: the
command's meaning answers it as the manual states.
-/

namespace Sys2Proof

/-- A node address as a frame carries it: one byte. -/
def fitsByte (n : Nat) : Bool := n < 256

/-- A 16-bit field. -/
def fitsWord (n : Nat) : Bool := n < 65536

/-- The echoed cycle counter of a token fits its byte. -/
def TokenFrame.wf (f : TokenFrame) : Bool := fitsByte f.echo

/-- The node and echo of a sample reply fit a byte each, and its codes can be counted in one. -/
def SampleFrame.wf (f : SampleFrame) : Bool :=
  fitsByte f.node && fitsByte f.echo && decide (f.codes.length < 256)

/-- The kind code of an event reply that is none of R20's fits one byte. -/
def NodeEventCode.wf : NodeEventCode → Bool
  | .other c => fitsByte c
  | _ => true

/-- The node, echo, kind and channel of an event reply fit a byte each. -/
def EventFrame.wf (f : EventFrame) : Bool :=
  fitsByte f.node && fitsByte f.echo && f.kind.wf && fitsByte f.channel

/-- The converter's voltage and current fit 16 and 32 bits as they arrive. -/
def StatusFrame.wf (f : StatusFrame) : Bool :=
  decide (0 ≤ f.voltage) && decide (f.voltage < 65536) &&
    decide (-2147483648 ≤ f.current) && decide (f.current < 2147483648)

/-- The node and channel a TRACE_CLEAR names fit a byte each. -/
def TraceTarget.wf : TraceTarget → Bool
  | .one node channel => fitsByte node && fitsByte channel
  | .all => true

/-- The command's operands fit their fields. -/
def Instr.wf : Instr → Bool
  | .powerOnReset => true
  | .pinReset => true
  | .commandReset => true
  | .cycleStart => true
  | .loopToken _ f => f.wf
  | .tokenPhaseEnd => true
  | .pollSlotStart => true
  | .sampleReply _ f => f.wf
  | .pollSlotEnd => true
  | .eventTurnStart => true
  | .eventReply _ f => f.wf
  | .eventTurnEnd => true
  | .blindTimerExpiry _ => true
  | .oneSecondTimerExpiry => true
  | .dailyReloadTimerExpiry => true
  | .coolDownTimerExpiry node => decide (1 ≤ node) && decide (node ≤ 56)
  | .controlIntervalExpiry => true
  | .blindHoldTimerExpiry => true
  | .outputFeedbackChange _ _ => true
  | .proofTimerExpiry _ => true
  | .coolingFaultClear _ => true
  | .lineReadingChange _ _ => true
  | .lineDebounceExpiry _ => true
  | .hornPatternToggle => true
  | .countdownExpiry => true
  | .releasePulseEnd => true
  | .feedbackWatchExpiry => true
  | .fireAck _ => true
  | .fireReset _ => true
  | .connect _ _ => true
  | .disconnect _ _ => true
  | .clearFault _ _ => true
  | .contactorFeedbackChange _ _ _ => true
  | .watchTimerExpiry _ _ => true
  | .waitTimerExpiry _ => true
  | .prechargeTimeout _ => true
  | .closeProofExpiry _ => true
  | .prechargeReleaseDelayEnd _ => true
  | .drainTimerExpiry _ => true
  | .openProofExpiry _ => true
  | .clearTrip _ _ => true
  | .emergencyOpen _ => true
  | .readTrips _ => true
  | .clearTripHistory _ => true
  | .limitPeriodExpiry => true
  | .limitMessageSent => true
  | .converterStatus f => f.wf
  | .silenceWatchExpiry => true
  | .silentTripExpiry => true
  | .breakerPulseEnd => true
  | .breakerProofExpiry => true
  | .breakerFeedbackChange _ => true
  | .tableWrite _ _ first count data =>
      fitsWord first && fitsByte count && decide (data.length ≤ 2048)
  | .tableRead _ _ _ first count => fitsWord first && fitsByte count
  | .tableCommit _ _ _ => true
  | .downwardFrame f => decide (f.body.length < 65536)
  | .unknownRequest _ _ => true
  | .upwardFrameSent => true
  | .siteSilenceExpiry => true
  | .setMode _ _ => true
  | .resetPart _ => true
  | .readStatus _ => true
  | .readRack _ rack => fitsByte rack
  | .readCells _ rack lo hi _ => fitsByte rack && fitsByte lo && fitsByte hi
  | .traceSet _ node channel count => fitsByte node && fitsByte channel && fitsWord count
  | .traceClear _ t => t.wf
  | .balanceEnable _ _ _ => true
  | .budgetReload _ _ => true
  | .prechargeAttemptExpiry _ => true

end Sys2Proof
end

