-- ==== Sys2Proof/Tests/Slice0.lean ====
section
/-!
SUPPORT. The tests: a smoke test of WellFormed with an ill-formed command for each check, worked
examples of the manual's formulas with expected results calculated by hand, and for every statement
with hypotheses a witness that they can be met together, clause by clause, at the boundary of a range
where the clause has one. Each witness is named for its statement.
-/

namespace Sys2Proof.Tests

open Sys2Proof Sys2Proof.Machine

/-! ## Well-formed commands -/

theorem test_wf_token :
    Instr.wf (.loopToken .b ⟨true, true, 255, 0⟩) = true ∧
      Instr.wf (.loopToken .b ⟨true, true, 256, 0⟩) = false := by decide

theorem test_wf_sample_reply :
    Instr.wf (.sampleReply .a ⟨true, true, 255, 255, [], false, false, 0, 0⟩) = true ∧
      Instr.wf (.sampleReply .a ⟨true, true, 256, 0, [], false, false, 0, 0⟩) = false ∧
      Instr.wf (.sampleReply .a ⟨true, true, 0, 256, [], false, false, 0, 0⟩) = false := by decide

theorem test_wf_sample_reply_codes :
    SampleFrame.wf ⟨true, true, 0, 0, List.replicate 256 0, false, false, 0, 0⟩ = false := by
  simp only [SampleFrame.wf, List.length_replicate]
  decide

theorem test_wf_event_reply :
    Instr.wf (.eventReply .a ⟨true, true, 256, 0, false, false, .nothing, 0, 0⟩) = false ∧
      Instr.wf (.eventReply .a ⟨true, true, 0, 256, false, false, .nothing, 0, 0⟩) = false ∧
      Instr.wf (.eventReply .a ⟨true, true, 0, 0, false, false, .other 256, 0, 0⟩) = false ∧
      Instr.wf (.eventReply .a ⟨true, true, 0, 0, false, false, .other 255, 256, 0⟩) = false := by
  decide

theorem test_wf_converter_status :
    Instr.wf (.converterStatus ⟨true, 65536, 0, .other 9, .other 9, 0⟩) = false ∧
      Instr.wf (.converterStatus ⟨true, -1, 0, .other 9, .other 9, 0⟩) = false ∧
      Instr.wf (.converterStatus ⟨true, 0, 2147483648, .other 9, .other 9, 0⟩) = false ∧
      Instr.wf (.converterStatus ⟨true, 0, -2147483649, .other 9, .other 9, 0⟩) = false := by decide

theorem test_wf_cool_down :
    Instr.wf (.coolDownTimerExpiry 0) = false ∧ Instr.wf (.coolDownTimerExpiry 57) = false := by
  decide

theorem test_wf_table_requests :
    Instr.wf (.tableWrite 0 none 65536 0 []) = false ∧
      Instr.wf (.tableWrite 0 none 0 256 []) = false ∧
      Instr.wf (.tableRead 0 none none 65536 0) = false ∧
      Instr.wf (.tableRead 0 none none 0 256) = false := by decide

theorem test_wf_table_write_data :
    Instr.wf (.tableWrite 0 none 0 0 (List.replicate 2049 0)) = false := by
  simp only [Instr.wf, List.length_replicate]
  decide

theorem test_wf_downward_frame :
    Instr.wf (.downwardFrame ⟨0, false, 0, List.replicate 65536 0, 0⟩) = false := by
  simp only [Instr.wf, List.length_replicate]
  decide

theorem test_wf_reads :
    Instr.wf (.readRack 0 256) = false ∧ Instr.wf (.readCells 0 256 0 0 false) = false ∧
      Instr.wf (.readCells 0 0 256 0 false) = false ∧
      Instr.wf (.readCells 0 0 0 256 false) = false := by decide

theorem test_wf_trace_requests :
    Instr.wf (.traceSet 0 256 0 0) = false ∧ Instr.wf (.traceSet 0 0 256 0) = false ∧
      Instr.wf (.traceSet 0 0 0 65536) = false ∧
      Instr.wf (.traceClear 0 (.one 256 0)) = false ∧
      Instr.wf (.traceClear 0 (.one 0 256)) = false := by decide

/-! ## Worked examples -/

/-- The CRC-16 of R178 (polynomial x^16 + x^12 + x^5 + 1, all ones, no inversion) over "123456789". -/
theorem test_crc16_check_value :
    crc16 [0x31, 0x32, 0x33, 0x34, 0x35, 0x36, 0x37, 0x38, 0x39] = 0x29B1#16 := by
  decide +kernel


/-- The schedules of section 1.2: 54,500 of 60,000 µs fits, 144,500 of 140,000 µs does not. -/
theorem test_schedule_examples :
    scheduleFits ⟨60, 1200, 2000, 3, 3, 4, 4⟩ 40 = true ∧
      scheduleFits ⟨140, 2000, 4000, 8, 3, 4, 4⟩ 56 = false := by decide

/-- The cell voltages worked out after R29: 3488 mV, and 3487 mV with the plain calibration. -/
theorem test_cell_voltage_examples :
    convertCellVoltage ⟨-12, 32790⟩ 34871#16 = .value 3488 false ∧
      convertCellVoltage ⟨0, 32768⟩ 34871#16 = .value 3487 false := by decide

/-- The rack current worked out in R28: -1233 dA from the code -1234. -/
theorem test_rack_current_example :
    convertCurrent ⟨6, 32900⟩ (BitVec.ofInt 16 (-1234)) = .value (-1233) false := by decide

/-- The temperatures of the table after R29, with the breakpoints it names. -/
theorem test_temperature_examples :
    let curve : List Breakpoint := [⟨8000, 850⟩, ⟨20000, 250⟩, ⟨24000, 150⟩]
    convertTemperature curve 21337#16 = .value 217 false ∧
      convertTemperature curve 20020#16 = .value 250 false ∧
      convertTemperature curve 24000#16 = .value 150 false ∧
      convertTemperature curve 7000#16 = .value 850 true ∧
      convertTemperature curve 65535#16 = .invalid := by decide

/-- The indexes of the trace table in section 2.8. -/
theorem test_trace_index_examples :
    traceIndex 5 3 = 3 ∧ traceIndex 37 1 = 7 ∧ traceIndex 3 0 = 3 ∧ traceIndex 12 16 = 12 := by
  decide

/-- The charge of the sequence in section 3.2 at its sets 1, 2 and 4, and the rack near full. -/
theorem test_integration_sequence :
    let x : RackCharge :=
      { RackCharge.initial with q := 612000000, r := 4, quality := .known, lastStamp := some 0 }
    let x1 := x.integrate 720000000 (-1237) 97
    let x2 := x1.integrate 720000000 845 197
    let x4 := x2.integrate 720000000 845 2547
    (x1.q, x1.r, x1.gap) = (611988001, 5, false) ∧ (x2.q, x2.r, x2.gap) = (611996451, 5, false) ∧
      (x4.q, x4.r, x4.gap) = (612165451, 5, true) ∧
      addCharge 720000000 719999000 (2000 * 100 + 3) = (720000000, 0) := by decide

/-- R56: a rest from stamp 1000 has lasted 500 ms at the junction stamp 1500, whatever time it is now. -/
theorem test_rest_lasted :
    RackCharge.restLasted
        { RackCharge.initial with restStart := some 1000, lastStamp := some 1500 } = 500 ∧
      RackCharge.restLasted { RackCharge.initial with lastStamp := some 1500 } = 0 := by decide

/-- The curve of section 3.4 at 413, 120, 30 and -250. -/
theorem test_derate_curve :
    let charge : List Breakpoint :=
      [⟨-200, 0⟩, ⟨0, 0⟩, ⟨50, 256⟩, ⟨150, 1024⟩, ⟨350, 1024⟩, ⟨450, 512⟩, ⟨550, 0⟩]
    let discharge : List Breakpoint :=
      [⟨-200, 256⟩, ⟨0, 512⟩, ⟨50, 1024⟩, ⟨150, 1024⟩, ⟨350, 1024⟩, ⟨450, 768⟩, ⟨550, 0⟩]
    curveAt 413 charge = 701 ∧ curveAt 413 discharge = 862 ∧ curveAt 120 charge = 793 ∧
      curveAt 30 charge = 153 ∧ curveAt 30 discharge = 819 ∧ curveAt (-250) charge = 0 := by decide

/-- The SOC factors after R61 and the taper and target of section 3.4. -/
theorem test_taper_examples :
    let d : DerateRecord :=
      ⟨7, 3450, 3600, 3050, 2900, 3550, 2950, 9000, 1000, 256, 512, 256, 512, 100, 20, 3, 1800⟩
    chargeSoc d 9600 = 409 ∧ dischargeSoc d 420 = 430 ∧
      chargeTaper d (some ⟨3512, 1, 0⟩) = 600 ∧ dischargeTaper d (some ⟨3287, 1, 0⟩) = 1024 ∧
      (makeFactors 701 600 1024 1024 none none none false 2800).target = 1640 ∧
      (makeFactors 862 1024 1024 1024 none none none false 2800).target = 2357 ∧
      (makeFactors 153 600 1024 1024 none none none false 2800).target = 418 := by decide

/-- The level sequence of section 2.5: WARN at the third sample, TRIP at the seventh step, held until
it is acknowledged, NORMAL at step 13. The trip release is 3580, the warn release 3550. -/
theorem test_level_sequence :
    let set : LimitSet :=
      ⟨⟨3600, 3550, some (3650, 3580)⟩, ⟨0, 0, none⟩, ⟨0, 0, none⟩, ⟨0, 0, none⟩, 3, 2⟩
    let run (x : SideState) (vs : List Int) := vs.foldl (fun acc v => acc.judge set .ov v) x
    let x3 := run .initial [3605, 3660, 3670]
    let x10 := run x3 [3655, 3662, 3668, 3575, 3570, 3590]
    let x11 := { x10 with acknowledged := true }
    x3.level = .warn ∧ x10.level = .trip ∧ x10.releaseCount = 0 ∧
      (run x11 [3560]).level = .trip ∧ (run x11 [3560, 3548]) = .initial := by decide

/-- The hydrogen sequence of section 6.5: PRE at notice 5, ALARM at 8, PRE again at 10, CLEAR at 12. -/
theorem test_gas_sequence :
    let g : GasLimits := ⟨1000, 800, 4000, 3000, 3, 2⟩
    let run (x : GasChannelState) (vs : List Int) := vs.foldl (fun acc v => acc.judge g v 0) x
    let x5 := run .initial [950, 1200, 4100, 4300]
    let x8 := run x5 [4400, 4500, 4600]
    let x10 := run x8 [2900, 2700]
    (run .initial [950, 1200, 4100]).level = .clear ∧ x5.level = .pre ∧
      x8.level = .alarm ∧ x10.level = .pre ∧ (run x10 [790, 760]).level = .clear := by decide

/-- The selection of section 4.3: node 9 gives 8 of the 10, and its ninth cell is skipped. -/
theorem test_selection_example :
    let cell (n c : Nat) : BalanceRecord := ⟨.r1, n, c, .idle, 100, false, false, false⟩
    let chosen := walkCandidates 10
      [cell 9 0, cell 9 1, cell 9 2, cell 10 2, cell 9 3, cell 9 4, cell 9 5, cell 9 6, cell 9 7,
        cell 9 8, cell 10 5, cell 9 9, cell 10 11] []
    chosen = [cell 9 0, cell 9 1, cell 9 2, cell 10 2, cell 9 3, cell 9 4, cell 9 5, cell 9 6,
        cell 9 7, cell 10 5] := by decide

/-! ## Small states for the witnesses -/

/-- A table active with a bank, its pending bank a copy. -/
def active (t : TableName) (bank : Bank) (s : State) : State :=
  s.setTable t ⟨some bank, some bank, .clean, some (digestOf bank)⟩

/-- A request waiting alone in the FIFO with tag 7. -/
def asking (q : Request) (s : State) : State := s.withSite { s.site with fifo := [⟨7, q⟩] }

theorem asking_offers (q : Request) (s : State) (h : s.site.replies.length < 8)
    (n : s.site.reset = .none) : (asking q s).offers ⟨7, q⟩ [] := ⟨rfl, h, n⟩

/-- The SLOT bank of the witnesses: 60 ms cycles, 3 event turns; node 1 a CELL node of rack 1 with two
cells and one temperature, node 2 the junction node of rack 1, node 3 the PLANT node. -/
def slotBank : Bank :=
  [[60, 4, 176, 7, 208, 3, 3, 4, 4], [1, 0, 1, 2, 1, 0, 0, 0, 1], [2, 1, 1, 0, 0, 1, 0, 0, 1],
    [3, 2, 0, 0, 0, 2, 0, 0, 1]]

/-- The RACK bank: rack 1 enabled, blind time 2 s, base currents 2800 dA, Qmax 1,000,000 mAs, ramp 500,
cool-down 10 s, daily budget 100 s. -/
def rackBank : Bank :=
  [[1, 0, 0, 50, 0, 2, 10, 240, 10, 240, 0, 15, 66, 64, 1, 244, 0, 20, 0, 20, 0, 5, 0, 10, 0, 100]]

/-- The GRID bank: wait limit 10 s, contactor proof 200 ms, drain 500 ms, silence 300 ms, silent trip
5 s, site silence 30 s, cap 2000 dA, among others. -/
def gridBank : Bank :=
  [[0, 50, 0, 20, 0, 10, 1, 0, 2, 0, 0, 200, 0, 100, 0, 50, 1, 244, 1, 244, 5, 0, 20, 3, 232, 7,
    208, 0, 100, 1, 44, 0, 5, 0, 200, 0, 30]]

/-- The COOL bank: one level (pump, fan 1), start 280, interval 30 s, blind hold 60 s, fallback 1,
heater on below 50 and off from 100, proof times 5 s. -/
def coolBank : Bank :=
  [[1, 1, 24, 30, 0, 60, 1, 0, 50, 0, 100, 5, 5, 5, 5, 5, 5, 5, 5, 2, 0, 2, 0, 2, 0, 0, 24, 0, 8, 1,
    194], [3, 1, 64, 1, 4, 0, 120]]

/-- The node of the ring controller as a reset leaves it. -/
def ringNode (node : Nat) (side : RingEnd) : RingNode :=
  ⟨node, side, 0, 0, .online, false, 0, false, none⟩

def record (rack : Option Rack) (node channel : Nat) (kind : RecordKind) (value : Int) : Record :=
  ⟨rack, node, channel, kind, some value, some 0, .fresh, some value, some value, none, none⟩

def bleeding (channel : Nat) (state : BalanceState) (remaining : Nat) : BalanceRecord :=
  ⟨.r1, 1, channel, state, remaining, false, false, false⟩

/-- A part in RUN with SLOT, RACK, GRID and COOL active and one rack's nodes. -/
def loaded : State :=
  let s := active .slot slotBank (active .rack rackBank
    (active .grid gridBank (active .cool coolBank State.reset)))
  { s with
    ring := { s.ring with
      phase := .due, nodes := [ringNode 1 .a, ringNode 2 .a, ringNode 3 .b] }
    samples := { s.samples with
      records := [record (some .r1) 1 0 .cellVoltage 3300, record (some .r1) 1 1 .cellVoltage 3310,
        record (some .r1) 1 16 .cellTemperature 250]
      nodes := [⟨1, 0, false, 0, false⟩, ⟨2, 0, false, 0, false⟩, ⟨3, 0, false, 0, false⟩] }
    balance := { s.balance with
      records := [bleeding 0 .active 1, bleeding 1 .idle 5], nodes := [⟨1, false, 0, none⟩] }
    site := { s.site with mode := .run } }

/-- A rack of the sequencer changed. -/
def withRack (r : Rack) (f : RackSwitch → RackSwitch) (s : State) : State :=
  s.setRackSwitch r (f (s.sequencer.racks.get r))

def at_ (now : PartTime) (s : State) : State := s.withNow now

/-! ## Witnesses: the step, the queues and the upward link -/

theorem test_witness_StepRunsFrontCommand :
    (State.reset.withPending [.cycleStart, .fireAck 7]).pending = .cycleStart :: [.fireAck 7] ∧
      State.reset.pending = [] := by decide

/-- A free link with one event and one trace report waiting. -/
def waitingSite : Site :=
  { Site.initial with events := [⟨0, 0, .breakerFailed 3⟩], traces := [⟨1, 0, 0, none, 0⟩] }

/-- A reply. -/
def someReply : Reply := ⟨7, .readTrips, .ok, .nothing⟩

theorem test_witness_ArbiterGrantsByClass :
    ({ waitingSite with link := some (.reply someReply) }.link = some (.reply someReply)) ∧
      ({ waitingSite with reset := .due }.link = none ∧
        { waitingSite with reset := .due }.reset = .due) ∧
      ({ waitingSite with replies := [someReply] }.replies = someReply :: [] ∧
        waitingSite.link = none ∧ waitingSite.reset ≠ .due) ∧
      (waitingSite.replies = [] ∧ waitingSite.events = ⟨0, 0, .breakerFailed 3⟩ :: []) ∧
      ({ waitingSite with events := [] }.events = [] ∧
        { waitingSite with events := [] }.traces = ⟨1, 0, 0, none, 0⟩ :: []) ∧
      (Site.initial.traces = [] ∧ Site.initial.events = [] ∧ Site.initial.replies = []) := by decide

theorem test_witness_ArbiterGrantsByClass_unfilled (p : Place) : waitingSite.filled p = false := by
  cases p <;> decide

/-- The pointer at the container's place, with only rack 1's place filled: the turn wraps. -/
theorem test_witness_ArbiterGrantsByClass_place :
    let x : Site := { Site.initial with
      pointer := .container
      rackPlaces := { Site.initial.rackPlaces with r1 := some (rackSummaryOf .r1 State.reset) } }
    x.link = none ∧ x.reset ≠ .due ∧ x.replies = [] ∧ x.events = [] ∧
      x.pointer.ringFrom = [.container] ++ .rack1 :: [.rack2, .rack3, .rack4] ∧
      (∀ q ∈ [Place.container], x.filled q = false) ∧ x.filled .rack1 = true := by
  decide

/-- So many events waiting. -/
def withEvents (n : Nat) : State :=
  State.reset.withSite
    { Site.initial with events := List.replicate n ⟨0, 0, .breakerFailed 3⟩ }

theorem test_witness_EventsAreNumberedAndBounded :
    (withEvents 31).site.events.length < 32 ∧ 32 ≤ (withEvents 32).site.events.length := by decide

theorem test_witness_RequestsNotOfferedWait :
    (Instr.fireAck 7).request = some ⟨7, .fireAck⟩ ∧
      (¬ ∃ rest, State.reset.offers ⟨7, .fireAck⟩ rest) ∧
      (¬ ∃ rest, (asking .fireAck (State.reset.withSite
        { Site.initial with replies := List.replicate 8 someReply })).offers ⟨7, .fireAck⟩ rest) ∧
      (¬ ∃ rest, (asking .fireAck (State.reset.withSite
        { Site.initial with reset := .taken })).offers ⟨7, .fireAck⟩ rest) :=
  ⟨rfl, fun ⟨_, h⟩ => absurd h.1 (by simp [State.reset, Site.initial]),
    fun ⟨_, h⟩ => absurd h.2.1 (by decide), fun ⟨_, h⟩ => absurd h.2.2 (by decide)⟩

theorem test_witness_EveryTakenRequestIsAnsweredOnce :
    (Instr.fireAck 7).request = some ⟨7, .fireAck⟩ ∧
      (asking .fireAck State.reset).offers ⟨7, .fireAck⟩ [] :=
  ⟨rfl, asking_offers _ _ (by decide) rfl⟩

theorem test_witness_QueuesStayBounded :
    let s := (withEvents 32).withPending [.fireAck 7]
    s.QueuesBounded ∧ ∃ t, step s = .next t :=
  ⟨⟨by decide, by decide, by decide, by decide, by decide, by decide⟩, ⟨_, rfl⟩⟩

theorem test_witness_HeaterStaysInterlocked :
    let s := (State.reset.setOutput .heater ⟨true, true, .normal, none⟩).withPending
      [.outputFeedbackChange .compressor1 true]
    s.HeaterInterlocked ∧ ∃ t, step s = .next t :=
  ⟨⟨by decide, by decide, by decide, by decide⟩, ⟨_, rfl⟩⟩

theorem test_witness_TablesStayConsistent :
    let s := (loaded.setTable .ocv ⟨none, some [], .edited, none⟩).withPending
      [.tableCommit 7 (some .ocv) 0]
    s.TablesConsistent ∧ ∃ t, step s = .next t :=
  ⟨by intro t; cases t <;> exact ⟨by decide +kernel, by decide +kernel, by decide⟩, ⟨_, rfl⟩⟩

theorem test_witness_TrippedRacksStayApart :
    let s := ((withRack .r1 (fun x => { x with state := .locked }) (withRack .r2
      (fun x => { x with state := .connected }) loaded)).setRackLatches .r1
        { RackLatches.initial with cellOv := ⟨true, false⟩ }).withPending [.clearTripHistory 7]
    s.TrippedRacksApart ∧ s.SequencerKept ∧ ∃ t, step s = .next t :=
  ⟨by intro r; cases r <;> decide,
    ⟨by intro r; cases r <;> decide, by decide, by intro r; cases r <;> decide⟩, ⟨_, rfl⟩⟩

/-- The queue of the sequencer's invariant at work: rack 3 QUEUED, rack 4 OPENING under a trip. -/
theorem test_witness_TrippedRacksStayApart_queued :
    let s := (withRack .r3 (fun x => { x with state := .queued }) (withRack .r4
      (fun x => { x with state := .opening, operation := .protectiveImmediate }) loaded))
    State.SequencerKept (s.withSequencer { s.sequencer with queue := [⟨.r3, 0⟩] }) :=
  ⟨by intro r; cases r <;> decide, by decide, by intro r; cases r <;> decide⟩

theorem test_witness_ContactorsCloseOnlyAtSetComplete :
    (Instr.releasePulseEnd).endsSlot = false ∧ (∃ t, exec .releasePulseEnd State.reset = .next t) ∧
      State.reset.commandedOpen .r1 :=
  ⟨rfl, ⟨_, rfl⟩, ⟨rfl, rfl⟩⟩

theorem test_witness_EmergencyOpensEveryRack :
    (asking .emergencyOpen (withRack .r1 (fun x => { x with state := .connected }) loaded)).offers
      ⟨7, .emergencyOpen⟩ [] :=
  asking_offers _ _ (by decide) rfl

/-! ## Witnesses: resets -/

theorem test_witness_PowerOnResetGivesResetState :
    (∀ r, (loaded.sequencer.racks.get r).mainClosed = false ∧
        (loaded.sequencer.racks.get r).prechargeClosed = false) ∧
      (∀ o, (loaded.cooling.outputs.get o).feedback = false) ∧
      (∀ l, (loaded.fire.lines.get l).reading = .normal) ∧
      loaded.converter.breakerClosed = false :=
  ⟨fun r => by cases r <;> decide, fun o => by cases o <;> decide, fun l => by cases l <;> decide,
    rfl⟩

theorem test_witness_ResetsClearTheRing :
    (∃ t, exec .powerOnReset loaded = .next t) ∧ (∃ t, exec .pinReset loaded = .next t) ∧
      ((loaded.withSite { loaded.site with reset := .due }).site.reset = .due ∧
        ∃ t, exec .commandReset (loaded.withSite { loaded.site with reset := .due }) = .next t) :=
  ⟨⟨_, rfl⟩, ⟨_, rfl⟩, rfl, ⟨_, rfl⟩⟩

theorem test_witness_ResetsKeepTables :
    (loaded.withSite { loaded.site with reset := .due }).site.reset = .due ∧
      (∀ r, (loaded.sequencer.racks.get r).mainClosed = false ∧
        (loaded.sequencer.racks.get r).prechargeClosed = false) ∧
      ((withRack .r3 (fun x => { x with mainClosed := true }) loaded).sequencer.racks.get
        .r3).mainClosed = true ∧
      ((withRack .r3 (fun x => { x with prechargeClosed := true }) loaded).sequencer.racks.get
        .r3).prechargeClosed = true :=
  ⟨rfl, fun r => by cases r <;> decide, by decide, by decide⟩

/-! ## Witnesses: the cell ring -/

/-- The ring of the loaded part in a phase. -/
def inPhase (p : Phase) (s : State) : State := s.withRing { s.ring with phase := p }

theorem other_crc (c : Code) : c + 1 ≠ c := by bv_omega

theorem test_witness_CycleStartSendsToken :
    loaded.cycleDue = true ∧ loaded.slotHeader = some ⟨60, 1200, 2000, 3, 3, 4, 4⟩ ∧
      (∀ n ∈ TableName.ringPath, (loaded.table n).state ≠ .committed) ∧
      (at_ 60 (inPhase (.betweenTurns 3)
        (loaded.withRing { loaded.ring with cycleLength := 60 }))).cycleDue = true ∧
      (at_ 59 (inPhase (.betweenTurns 3)
        (loaded.withRing { loaded.ring with cycleLength := 60 }))).cycleDue = false := by decide

/-- A token frame with a right CRC-16. -/
def token (echo : Nat) : TokenFrame := ⟨true, true, echo, crc16 (Config.tokenBytes echo)⟩

theorem test_witness_TokensAreChecked :
    loaded.ring.phase ≠ .token ∧ (inPhase .token loaded).ring.phase = .token ∧
      { token 0 with lengthOk := false }.lengthOk = false ∧
      ({ token 0 with symbolsOk := false }.lengthOk = true ∧
        { token 0 with symbolsOk := false }.symbolsOk = false) ∧
      { token 0 with crc := crc16 (Config.tokenBytes 0) + 1 }.crc ≠ crc16 (Config.tokenBytes 0) ∧
      ((token 1).crc = crc16 (Config.tokenBytes 1) ∧ (token 1).echo ≠ loaded.ring.cycle) ∧
      ((token 0).crc = crc16 (Config.tokenBytes 0) ∧ (token 0).echo = loaded.ring.cycle) :=
  ⟨by decide, rfl, rfl, ⟨rfl, rfl⟩, other_crc _, ⟨rfl, by decide⟩, rfl, rfl⟩

/-- R8: inside a token phase another cycle's token at end A is LATE there, and the present one's is
nothing. -/
theorem test_token_at_end_a :
    let s := inPhase .token loaded
    (receiveToken .a (token 1) s).ring.endA.errors.late = 1 ∧ receiveToken .a (token 0) s = s :=
  ⟨rfl, rfl⟩

theorem test_witness_TokenPhaseEndSettlesRing :
    let settled (s : State) : RingState :=
      let up := if s.ring.tokenReturned then min 2 (s.ring.returnedRun + 1) else 0
      let down := if s.ring.tokenReturned then 0 else min 2 (s.ring.lostRun + 1)
      if s.ring.ringState = .closed ∧ down = 2 then .opened
      else if s.ring.ringState = .opened ∧ up = 2 then .closed
      else s.ring.ringState
    let first := inPhase .token loaded
    let second := first.withRing { first.ring with lostRun := 1 }
    let back := first.withRing
      { first.ring with tokenReturned := true, ringState := .opened, returnedRun := 1 }
    first.ring.phase = .token ∧ settled first = first.ring.ringState ∧
      second.ring.phase = .token ∧ settled second ≠ second.ring.ringState ∧
      back.ring.phase = .token ∧ settled back ≠ back.ring.ringState := by decide

theorem test_witness_PollSlotStartPollsNode :
    let s (k : Nat) := inPhase (.betweenSlots k) loaded
    (s 0).ring.phase = .betweenSlots 0 ∧ (s 0).entries[0]? = some ⟨1, 1, 0, 1, 2, 1, 0, 0, 0, 1⟩ ∧
      (s 0).ringNode 1 = some (ringNode 1 .a) ∧
      (s 1).entries[1]? = some ⟨2, 2, 1, 1, 0, 0, 1, 0, 0, 1⟩ ∧
      (s 1).ringNode 2 = some (ringNode 2 .a) ∧
      (s 2).entries[2]? = some ⟨3, 3, 2, 0, 0, 0, 2, 0, 0, 1⟩ ∧
      (s 2).ringNode 3 = some (ringNode 3 .b) := by decide +kernel

/-- The loaded part in slot 1 of cycle 0, with the poll of node 1 out on end A. -/
def polling : State :=
  inPhase (.slot 0) (setExpectation .a (some ⟨1, 0, .sample 3, false⟩) loaded)

/-- A sample reply of node 1 with a right CRC-16. -/
def sample (node echo : Nat) (codes : List Code) : SampleFrame :=
  ⟨true, true, node, echo, codes, true, false, 0,
    crc16 (Config.sampleReplyBytes node echo codes true false 0)⟩

theorem test_witness_BadRepliesAreDiscarded :
    let f := sample 1 0 [0, 0, 0]
    let x := (polling.ring.endOf .a).expectation
    let bytes (f : SampleFrame) :=
      Config.sampleReplyBytes f.node f.echo f.codes f.eventPending f.nodeFault f.applied
    x = some ⟨1, 0, .sample f.codes.length, false⟩ ∧ f.lengthOk = true ∧
      { f with lengthOk := false }.lengthOk = false ∧ [0#16, 0#16].length ≠ 3 ∧
      { f with symbolsOk := false }.symbolsOk = false ∧
      { f with crc := crc16 (bytes f) + 1 }.crc ≠ crc16 (bytes f) ∧
      ((sample 2 0 [0, 0, 0]).crc = crc16 (bytes (sample 2 0 [0, 0, 0])) ∧
        (sample 2 0 [0, 0, 0]).node ≠ 1) ∧
      ((sample 1 63 [0, 0, 0]).crc = crc16 (bytes (sample 1 63 [0, 0, 0])) ∧
        (sample 1 63 [0, 0, 0]).echo ≠ 0) ∧
      (((markEnded .a polling).ring.endOf .a).expectation = some ⟨1, 0, .sample 3, true⟩) ∧
      (loaded.ring.endOf .a).expectation = none :=
  ⟨rfl, rfl, rfl, by decide, rfl, other_crc _, ⟨rfl, by decide⟩, ⟨rfl, by decide⟩, rfl, rfl⟩

theorem test_witness_BadRepliesAreDiscarded_unexpected :
    (loaded.ring.endOf .a).expectation = none ∧
      ∀ e, (loaded.ring.endOf .a).expectation = some e → e.wanted = .sample 3 :=
  ⟨rfl, fun _ h => by simp [show (loaded.ring.endOf .a).expectation = none from rfl] at h⟩

theorem test_witness_BadRepliesAreDiscarded_event :
    let g (node echo : Nat) : EventFrame := ⟨true, true, node, echo, false, false, .nothing, 0,
      crc16 (Config.eventReplyBytes node echo false false .nothing 0)⟩
    let bytes (g : EventFrame) :=
      Config.eventReplyBytes g.node g.echo g.eventPending g.nodeFault g.kind g.channel
    let expecting (ended : Bool) := setExpectation .a (some ⟨1, 0, .event, ended⟩) loaded
    { g 1 0 with lengthOk := false }.lengthOk = false ∧
      ((expecting false).ring.endOf .a).expectation = some ⟨1, 0, .event, false⟩ ∧
      { g 1 0 with symbolsOk := false }.symbolsOk = false ∧
      { g 1 0 with crc := crc16 (bytes (g 1 0)) + 1 }.crc ≠ crc16 (bytes (g 1 0)) ∧
      ((g 1 0).crc = crc16 (bytes (g 1 0)) ∧ (loaded.ring.endOf .a).expectation = none) ∧
      ((g 2 0).crc = crc16 (bytes (g 2 0)) ∧ (g 2 0).node ≠ 1) ∧
      ((g 1 63).crc = crc16 (bytes (g 1 63)) ∧ (g 1 63).echo ≠ 0) ∧
      ((expecting true).ring.endOf .a).expectation = some ⟨1, 0, .event, true⟩ :=
  ⟨rfl, rfl, rfl, other_crc _, ⟨rfl, rfl⟩, ⟨rfl, by decide⟩, ⟨rfl, by decide⟩, rfl⟩

theorem test_witness_AcceptedReplyMarksNode :
    polling.sampleError .a (sample 1 0 [0, 0, 0]) = none ∧
      polling.entryOf 1 = some ⟨1, 1, 0, 1, 2, 1, 0, 0, 0, 1⟩ ∧
      polling.ringNode 1 = some (ringNode 1 .a) :=
  ⟨by simp [State.sampleError, wrongCodes, expectationError, polling, inPhase, setExpectation,
      Ring.setEnd, Ring.endOf, sample, State.withRing],
    by decide +kernel, by decide⟩

/-- The loaded part with a CAL table of one plain entry and a LIMIT table of the set of section 2.5. -/
def filing : State :=
  active .cal [[0, 0, 128, 0]] (active .limit [[14, 16, 13, 222, 14, 66, 13, 252]] loaded)

/-- The code 34880 of node 1 channel 0 is 3488 mV, 65535 is invalid, and a sense-open mark is set. -/
theorem test_witness_AcceptedReplyMarksNode_filed :
    let e : SlotEntry := ⟨1, 1, 0, 1, 2, 1, 0, 0, 0, 1⟩
    let marked := filing.withSamples
      { filing.samples with nodes := [⟨1, 0, false, 1#20, false⟩] }
    filing.record e.node 0 = some (record (some .r1) 1 0 .cellVoltage 3300) ∧
      filing.convert e 0 34880#16 = .value 3488 false ∧ filing.senseOpen 1 0 = false ∧
      (filing.limitSet .r1).isSome = true ∧ filing.convert e 0 65535#16 = .invalid ∧
      marked.convert e 0 34880#16 = .value 3488 false ∧ marked.senseOpen 1 0 = true := by
  decide +kernel

/-- Node 1 unfaulted and faulted by its mark, the reply's flag both ways, one empty slot short of STALE. -/
theorem test_witness_AcceptedReplyMarksNode_records :
    let faulted := polling.withSamples
      { polling.samples with nodes := [⟨1, 2, true, 0#20, false⟩] }
    polling.sampleNode 1 = some ⟨1, 0, false, 0, false⟩ ∧ 1 ≤ polling.staleThreshold ∧
      (sample 1 0 [0, 0, 0]).nodeFault = false ∧
      { sample 1 0 [0, 0, 0] with nodeFault := true }.nodeFault = true ∧
      faulted.sampleNode 1 = some ⟨1, 2, true, 0, false⟩ ∧
      faulted.staleThreshold ≤ min 255 (2 + 1) ∧ polling.staleThreshold = 3 := by
  decide +kernel

theorem test_witness_SlotEndTakesMiss :
    polling.ring.phase = .slot 0 ∧ polling.entries[0]? = some ⟨1, 1, 0, 1, 2, 1, 0, 0, 0, 1⟩ ∧
      polling.ringNode 1 = some (ringNode 1 .a) ∧ polling.unanswered .a 1 = true ∧
      (setExpectation .a none polling).unanswered .a 1 = false ∧
      polling.sampleNode 1 = some ⟨1, 0, false, 0, false⟩ ∧ polling.staleThreshold = 3 ∧
      SlotEntry.sidePolicy ⟨1, 1, 0, 1, 2, 1, 0, 0, 0, 1⟩ = .auto := by decide +kernel

/-- The loaded part before event turn 1 with node 1 in the poll list, and in that turn. -/
def beforeTurn : State :=
  inPhase (.betweenTurns 2) (loaded.withRing { loaded.ring with pollList := [1] })

def inTurn : State :=
  inPhase (.turn 2 1) (setExpectation .a (some ⟨1, 0, .event, false⟩) loaded)

theorem test_witness_EventTurnsPollTheList :
    (beforeTurn.ring.phase = .betweenTurns 2 ∧ 2 < beforeTurn.eventTurns ∧
        beforeTurn.ring.pollList = 1 :: [] ∧ beforeTurn.ringNode 1 = some (ringNode 1 .a)) ∧
      ((inPhase (.betweenTurns 2) loaded).ring.pollList = []) ∧
      (inTurn.ring.phase = .turn 2 1 ∧ inTurn.ringNode 1 = some (ringNode 1 .a) ∧
        inTurn.unanswered .a 1 = true ∧ (setExpectation .a none inTurn).unanswered .a 1 = false) ∧
      (let idle := inPhase (.turn 2 0) loaded;
        idle.ring.phase = .turn 2 0 ∧ idle.unanswered (idle.sideOf 0) 0 = false) := by
  decide

/-- An event reply of node 1 with a right CRC-16. -/
def eventOf (kind : NodeEventCode) : EventFrame :=
  ⟨true, true, 1, 0, true, false, kind, 0,
    crc16 (Config.eventReplyBytes 1 0 true false kind 0)⟩

theorem settled_of_calm (s : State) (w : s.trips.container.welded.standing = false)
    (g : s.grantable = none) (h : s.sequencer.hold = false) : s.Settled :=
  ⟨fun x => absurd x (by simp [w]), g, fun x => absurd x (by simp [h])⟩

theorem test_witness_EventRepliesAreTaken (kind : NodeEventCode) :
    inTurn.eventError .a (eventOf kind) = none ∧
      inTurn.entryOf 1 = some ⟨1, 1, 0, 1, 2, 1, 0, 0, 0, 1⟩ ∧ inTurn.Settled :=
  ⟨by simp [State.eventError, wrongKind, expectationError, inTurn, inPhase, setExpectation,
      Ring.setEnd, Ring.endOf, eventOf, State.withRing],
    by decide +kernel, settled_of_calm _ rfl (by decide) rfl⟩

/-- Every kind is usable from node 1, a CELL node with channels 0, 1 and 16, but an unknown kind; from
the junction node 2 a kind of the cells is not. -/
theorem test_witness_EventRepliesAreTaken_usable :
    let e : SlotEntry := ⟨1, 1, 0, 1, 2, 1, 0, 0, 0, 1⟩
    let j : SlotEntry := ⟨2, 2, 1, 1, 0, 0, 1, 0, 0, 1⟩
    e.nodeKind = .cell ∧ (eventOf .cellHwOv).channel < e.cells ∧
      (eventOf .senseOpen).channel ∈ e.channels ∧ e.channels = [0, 1, 16] ∧
      e.rackOf = some .r1 ∧ j.nodeKind ≠ .cell ∧ ¬ (2 : Nat) < e.cells := by decide +kernel

/-- The part in the turn of node 1 with the sense-open mark of its channel 0 set. -/
def senseOpenTurn : State :=
  inTurn.withSamples { inTurn.samples with
    nodes := [⟨1, 0, false, 1, false⟩, ⟨2, 0, false, 0, false⟩, ⟨3, 0, false, 0, false⟩] }

theorem test_witness_EventRepliesAreTaken_sense :
    inTurn.senseOpen 1 0 = false ∧ senseOpenTurn.senseOpen 1 0 = true ∧
      senseOpenTurn.eventError .a (eventOf .senseOpen) = none ∧
      senseOpenTurn.entryOf 1 = some ⟨1, 1, 0, 1, 2, 1, 0, 0, 0, 1⟩ :=
  ⟨by decide, by decide,
    by simp [State.eventError, wrongKind, expectationError, senseOpenTurn, inTurn, inPhase,
      setExpectation, Ring.setEnd, Ring.endOf, eventOf, State.withRing, State.withSamples],
    by decide +kernel⟩

/-- R31: a SENSE_OPEN makes the record of its channel INVALID, and changes nothing while the mark
stands. -/
theorem test_sense_open_again :
    let e : SlotEntry := ⟨1, 1, 0, 1, 2, 1, 0, 0, 0, 1⟩
    ((senseOpened e 0 inTurn).record 1 0).map (·.quality) = some .invalid ∧
      senseOpened e 0 senseOpenTurn = senseOpenTurn := ⟨by decide +kernel, rfl⟩

/-! ## Witnesses: samples and levels -/

theorem test_witness_CalibratedConversions :
    let s := active .cal [[0, 0, 128, 0]] loaded
    (s.table .cal).active = some [[0, 0, 128, 0]] ∧
      SlotEntry.nodeKind ⟨1, 1, 0, 1, 2, 1, 0, 0, 0, 1⟩ = .cell ∧ (15 : Nat) < 16 ∧
      s.record 1 0 = some (record (some .r1) 1 0 .cellVoltage 3300) ∧
      SlotEntry.nodeKind ⟨2, 2, 1, 1, 0, 0, 1, 0, 0, 1⟩ = .junction := by decide

/-- The levels of the LIMIT set of section 2.5. -/
def ovSet : LimitSet :=
  ⟨⟨3600, 3550, some (3650, 3580)⟩, ⟨0, 0, none⟩, ⟨0, 0, none⟩, ⟨0, 0, none⟩, 3, 2⟩

theorem test_witness_LevelsMoveByPersistence :
    let beyondAll (vs : List Int) := ∀ v ∈ vs, beyond .ov v (ovSet.side .ov).warnSet = true
    let high : SideState := ⟨.trip, 0, .warn, 0, false⟩
    SideState.initial.level = .normal ∧ SideState.initial.setCount = 0 ∧ 1 ≤ ovSet.setPersistence ∧
      (beyondAll [3600, 3600] ∧ [3600, (3600 : Int)].length < ovSet.setPersistence) ∧
      (beyondAll [3650, 3650, 3650] ∧ [3650, 3650, (3650 : Int)].length = ovSet.setPersistence ∧
        ∀ v ∈ [3650, 3650, (3650 : Int)], (ovSet.side .ov).tripsAt .ov v = true) ∧
      (beyondAll [3650, 3649, 3650] ∧
        ∃ v ∈ [3650, 3649, (3650 : Int)], (ovSet.side .ov).tripsAt .ov v = false) ∧
      (high.level = .trip ∧ high.acknowledged = false) ∧
      ({ high with acknowledged := true }.acknowledged = true ∧ high.releaseCount = 0 ∧
        1 ≤ ovSet.releasePersistence ∧
        (∀ v ∈ [3580, (3580 : Int)], (ovSet.side .ov).tripReleasesAt .ov v = true) ∧
        [(3580 : Int)].length < ovSet.releasePersistence ∧
        [3580, (3580 : Int)].length = ovSet.releasePersistence) := by decide

/-- The moves of a side at WARN, a side at TRIP that a sample lets fall, and a CLEAR_TRIP. -/
theorem test_witness_LevelsMoveByPersistence_moves :
    let warned : SideState := ⟨.warn, 2, .warn, 1, false⟩
    let high : SideState := ⟨.trip, 0, .warn, 1, true⟩
    let q := Request.clearTrip 1
    warned.level = .warn ∧ (warned.judge ovSet .ov 3650).level = .trip ∧
      (warned.judge ovSet .ov 3549).level = .normal ∧
      (warned.judge ovSet .ov 3600).level = .warn ∧
      high.level = .trip ∧ (high.judge ovSet .ov 3580).level = .warn ∧
      (high.judge ovSet .ov 3549).level = .normal ∧
      (asking q loaded).offers ⟨7, q⟩ [] ∧
      ((asking q loaded).samples.records.map fun x => (x.node, x.channel)).Nodup :=
  ⟨rfl, by decide, by decide, by decide, rfl, by decide, by decide,
    asking_offers _ _ (by decide) rfl, by decide⟩

/-- Rack 1's RACK entry of the bank above. -/
def rackOne : RackEntry := rackEntryAt rackBank 0

theorem test_witness_BlindTimerTripsRack :
    loaded.rackConfig .r1 = some rackOne ∧ rackOne.blindTime = 2 ∧
      (Timer.running 0).due 2000 (rackOne.blindTime * 1000) = true ∧
      (Timer.running 0).due 1999 (rackOne.blindTime * 1000) = false := by decide

/-- The two cells of rack 1 (3300 and 3310 mV, so floor(Vsum / 100) = 66) beside a rack voltage, with a
mismatch limit of 50: rack voltage 117 is beyond it, 116 is not. -/
def comparing (voltage : Int) (quality : Quality) : State :=
  loaded.withSamples { loaded.samples with
    records := loaded.samples.records ++
      [{ record (some .r1) 2 1 .junction voltage with quality := quality }]
    racks := loaded.samples.racks.set .r1
      { loaded.samples.racks.get .r1 with
        aggregates := { (loaded.samples.racks.get .r1).aggregates with vsum := some 6610 } } }

theorem test_witness_BlindTimerTripsRack_mismatch :
    let j : SlotEntry := ⟨2, 2, 1, 1, 0, 0, 1, 0, 0, 1⟩
    (comparing 117 .fresh).junctionOf .r1 = some j ∧
      (comparing 117 .fresh).record 2 1 = some (record (some .r1) 2 1 .junction 117) ∧
      ((comparing 117 .fresh).samples.racks.get .r1).aggregates.vsum = some 6610 ∧
      (comparing 117 .fresh).rackConfig .r1 = some rackOne ∧ rackOne.mismatchLimit = 50 ∧
      (comparing 117 .fresh).mismatchDifference .r1 = some 51 ∧
      (comparing 116 .range).mismatchDifference .r1 = some 50 ∧
      (comparing 116 .stale).mismatchDifference .r1 = none := by decide +kernel

/-- The aggregates of rack 1, with two cells, and of rack 2, with none. -/
theorem test_witness_BlindTimerTripsRack_aggregates :
    let a := loaded.aggregatesOf .r1
    a.vmax = some ⟨3310, 1, 1⟩ ∧ a.vmin = some ⟨3300, 1, 0⟩ ∧ a.vsum = some 6610 ∧
      a.vmean = some 3305 ∧ a.n = 2 ∧
      (loaded.aggregatesOf .r2).vmax = none := by
  decide +kernel

/-- The loaded part in the slot of node 2, the last of rack 1, with its poll out on end A. -/
def lastSlot : State :=
  inPhase (.slot 1) (setExpectation .a (some ⟨2, 0, .sample 4, false⟩) loaded)

theorem test_witness_BlindTimerTripsRack_complete :
    let e : SlotEntry := ⟨2, 2, 1, 1, 0, 0, 1, 0, 0, 1⟩
    lastSlot.ring.phase = .slot 1 ∧ lastSlot.entries[1]? = some e ∧
      lastSlot.unanswered (lastSlot.sideOf e.node) e.node = true ∧
      lastSlot.sampleError .a (sample 2 0 [0, 0, 0, 0]) = none ∧
      lastSlot.entryOf (sample 2 0 [0, 0, 0, 0]).node = some e ∧ e.rackOf = some .r1 ∧
      (lastSlot.entries.filter fun j => j.rackOf = some .r1).getLast? = some e :=
  ⟨by decide, by decide +kernel, by decide +kernel,
    by simp [State.sampleError, wrongCodes, expectationError, lastSlot, inPhase, setExpectation,
      Ring.setEnd, Ring.endOf, sample, State.withRing],
    by decide +kernel, by decide, by decide +kernel⟩

theorem test_witness_ReadRackAndCells :
    (asking (.readRack 4) loaded).offers ⟨7, .readRack 4⟩ [] ∧ Rack.ofNumber 4 = some .r4 ∧
      Rack.ofNumber 0 = none ∧ Rack.ofNumber 5 = none ∧
      (asking (.readCells 1 1 56 true) loaded).offers ⟨7, .readCells 1 1 56 true⟩ [] ∧
      Rack.ofNumber 1 = some .r1 ∧ ((1 : Nat) ≤ 1 ∧ 56 ≤ 56 ∧ 1 ≤ 56) ∧
      (asking (.readCells 1 0 56 true) loaded).offers ⟨7, .readCells 1 0 56 true⟩ [] ∧
      (asking (.readCells 1 1 57 true) loaded).offers ⟨7, .readCells 1 1 57 true⟩ [] ∧
      (asking (.readCells 1 2 1 true) loaded).offers ⟨7, .readCells 1 2 1 true⟩ [] :=
  ⟨asking_offers _ _ (by decide) rfl, rfl, rfl, rfl, asking_offers _ _ (by decide) rfl, rfl,
    by decide, asking_offers _ _ (by decide) rfl, asking_offers _ _ (by decide) rfl,
    asking_offers _ _ (by decide) rfl⟩

/-- The loaded part with node 5 channel 3 traced, at index 3. -/
def tracing : State :=
  loaded.withSamples
    { loaded.samples with trace := loaded.samples.trace.set 3 (some ⟨5, 3, 4⟩) }

theorem test_witness_TraceSetWritesItsEntry :
    (asking (.traceSet 5 3 1) tracing).offers ⟨7, .traceSet 5 3 1⟩ [] ∧
      tracing.samples.trace[3]? = some (some ⟨5, 3, 4⟩) ∧
      ((5 % 32) ^^^ ((2 * 3) % 32) = 3 ∧ (3 % 32) ^^^ ((2 * 0) % 32) = 3) ∧
      loaded.samples.trace[3]? = some none ∧
      (asking (.traceSet 56 19 0) loaded).offers ⟨7, .traceSet 56 19 0⟩ [] ∧
      (asking (.traceSet 0 0 0) loaded).offers ⟨7, .traceSet 0 0 0⟩ [] ∧
      (asking (.traceSet 57 0 0) loaded).offers ⟨7, .traceSet 57 0 0⟩ [] ∧
      (asking (.traceSet 1 20 0) loaded).offers ⟨7, .traceSet 1 20 0⟩ [] :=
  ⟨asking_offers _ _ (by decide) rfl, by decide, by decide, by decide,
    asking_offers _ _ (by decide) rfl, asking_offers _ _ (by decide) rfl,
    asking_offers _ _ (by decide) rfl, asking_offers _ _ (by decide) rfl⟩

theorem test_witness_TraceClearRule :
    tracing.samples.trace.length = 32 ∧
      (asking (.traceClear (.one 5 3)) tracing).offers ⟨7, .traceClear (.one 5 3)⟩ [] ∧
      (∃ n, (asking (.traceClear (.one 5 3)) tracing).samples.trace[traceIndex 5 3]? =
        some (some ⟨5, 3, n⟩)) ∧
      (asking (.traceClear (.one 3 0)) tracing).offers ⟨7, .traceClear (.one 3 0)⟩ [] ∧
      (¬ ∃ n, (asking (.traceClear (.one 3 0)) tracing).samples.trace[traceIndex 3 0]? =
        some (some ⟨3, 0, n⟩)) ∧
      (asking (.traceClear .all) tracing).offers ⟨7, .traceClear .all⟩ [] :=
  ⟨by decide, asking_offers _ _ (by decide) rfl, ⟨4, by decide⟩, asking_offers _ _ (by decide) rfl,
    fun ⟨n, h⟩ => absurd (h.symm.trans (show _ = some (some ⟨5, 3, 4⟩) by decide)) (by simp),
    asking_offers _ _ (by decide) rfl⟩

/-! ## Witnesses: charge and limits -/

/-- The taper settings of section 3.4: anchors at 3550 and 2950 mV below 100 dA, rest below 20 dA for
1800 s, an anchor persistence of 3. -/
def taperRecord : DerateRecord :=
  ⟨7, 3450, 3600, 3050, 2900, 3550, 2950, 9000, 1000, 256, 512, 256, 512, 100, 20, 3, 1800⟩

/-- Rack 1 of the loaded part with its charge changed and with Vmax, Vmin and Vmean at a value. -/
def charged (f : RackCharge → RackCharge) (v : Int) : State :=
  let s := loaded.setRackCharge .r1 (f RackCharge.initial)
  s.setRackSamples .r1 { s.samples.racks.get .r1 with
    aggregates := { (s.samples.racks.get .r1).aggregates with
      vmax := some ⟨v, 1, 0⟩, vmin := some ⟨v, 1, 0⟩, vmean := some v } }

/-- Both anchors with two evaluations counted of three: the top condition holds at 100 dA and 3550 mV,
not at 101 dA nor at 0; the bottom one at 0 and -100 dA and 2950 mV. -/
theorem test_witness_ChargeIntegration_anchors :
    let counting (v : Int) := charged (fun x => { x with topCount := 2, bottomCount := 2 }) v
    let x (v : Int) := (counting v).limits.racks.get .r1
    let y (v : Int) := (counting v).samples.racks.get .r1
    ((y 3550).blind = false ∧ (x 3550).topDue = false ∧ (x 3550).bottomDue = false ∧
        (x 3550).topCount ≤ taperRecord.anchorPersistence ∧
        (x 3550).topCount + 1 = taperRecord.anchorPersistence ∧
        (x 3550).bottomCount + 1 = taperRecord.anchorPersistence ∧
        1 ≤ taperRecord.anchorPersistence) ∧
      ((0 : Int) < 100 ∧ (100 : Int) ≤ taperRecord.taperCurrent ∧
        (y 3550).aggregates.vmax = some ⟨3550, 1, 0⟩ ∧ (taperRecord.topAnchor : Int) ≤ 3550) ∧
      (¬ (101 : Int) ≤ taperRecord.taperCurrent) ∧
      (-(taperRecord.taperCurrent : Int) ≤ -100 ∧ (0 : Int) ≤ 0 ∧
        (y 2950).aggregates.vmin = some ⟨2950, 1, 0⟩ ∧ (2950 : Int) ≤ taperRecord.bottomAnchor) ∧
      (let blind := (counting 3550).setRackSamples .r1 { y 3550 with blind := true };
        (blind.samples.racks.get .r1).blind = true) := by decide

/-- A rest of exactly 1800 s at 20 dA with a Vmean, with and without an OCV curve. -/
theorem test_witness_ChargeIntegration_rest :
    let resting := charged (fun x => { x with restStart := some 0 }) 3300
    let curve := active .ocv [[12, 228, 0, 0], [14, 16, 39, 16]] resting
    (resting.limits.racks.get .r1).quality = .unknown ∧
      (((charged (fun x => { x with quality := .known }) 3300).limits.racks.get .r1).quality ≠
        .unknown) ∧
      ((-20 : Int).natAbs ≤ taperRecord.restCurrent ∧ taperRecord.restCurrent < (21 : Int).natAbs) ∧
      (taperRecord.restTime * 1000 ≤ (1800000 - 0 : PartTime).toNat ∧
        ¬ taperRecord.restTime * 1000 ≤ (1799999 - 0 : PartTime).toNat) ∧
      (resting.samples.racks.get .r1).aggregates.vmean = some 3300 ∧
      (resting.table .ocv).active = none ∧
      (curve.table .ocv).active = some [[12, 228, 0, 0], [14, 16, 39, 16]] := by decide

theorem test_witness_ChargeIntegration_evaluation :
    let s := active .derate [[2, 13, 122, 14, 16]] loaded
    s.rackConfig .r1 = some rackOne ∧ s.derate = some (derateRecordOf [[2, 13, 122, 14, 16]]) := by
  decide

theorem test_witness_ChargeIntegration_curve :
    ([] ++ (⟨3300, 0⟩ : Breakpoint) :: ⟨3600, 10000⟩ :: []).Pairwise
        (fun (a b : Breakpoint) => a.x < b.x) ∧
      ((3300 : Int) ≤ 3450 ∧ (3450 : Int) ≤ 3600) := by decide

theorem test_witness_ChargeIntegration :
    let x : RackCharge := { RackCharge.initial with
      q := 1, r := 9, quality := .estimated, lastStamp := some 0 }
    x.quality ≠ .unknown ∧ x.lastStamp = some 0 ∧ x.q ≤ 1 ∧ x.r ≤ 9 ∧
      (-5000 ≤ (-5000 : Int) ∧ (5000 : Int) ≤ 5000) ∧
      (1 ≤ ((1 - 0 : PartTime).toNat : Int) ∧ ((2000 - 0 : PartTime).toNat : Int) ≤ 2000) ∧
      ((x.q : Int) + Int.fdiv (-5000 * 1 + x.r) 10 < 0) ∧
      ((1 : Int) < x.q + Int.fdiv (5000 * 2000 + x.r) 10) ∧
      (0 ≤ (x.q : Int) + Int.fdiv (-1 * 1 + x.r) 10 ∧
        (x.q : Int) + Int.fdiv (-1 * 1 + x.r) 10 ≤ 1) ∧
      (1 : Nat) ≤ 1 := by decide

theorem test_witness_VoltageAndSocTapers :
    (taperRecord.chargeStart < taperRecord.chargeEnd ∧
        taperRecord.dischargeEnd < taperRecord.dischargeStart ∧ taperRecord.chargeEnd ≤ 5000) ∧
      { record none 1 0 .cellVoltage 5000 with quality := .range }.quality = .range ∧
      (let s := loaded.setRackCharge .r1
          { RackCharge.initial with q := 960000, quality := .known };
        s.soc .r1 = some 9600 ∧ (s.limits.racks.get .r1).quality ≠ .unknown) ∧
      (let x := { record (some .r1) 1 0 .cellVoltage 5000 with quality := .range };
        x ∈ (loaded.withSamples { loaded.samples with records := [x] }).samples.records) ∧
      (loaded.soc .r1 = some 0 ∧ (loaded.limits.racks.get .r1).quality = .unknown) := by decide

/-- Factors whose target is given. -/
def aimingAt (target : Nat) : PerDirection Factors :=
  ⟨⟨1024, 1024, 1024, 1024, none, none, none, false, 1024, target⟩,
    ⟨1024, 1024, 1024, 1024, none, none, none, false, 1024, target⟩⟩

theorem test_witness_PublishedLimitsSlew :
    let s := (withRack .r1 (fun x => { x with state := .connected }) loaded).setRackCharge .r1
      { RackCharge.initial with limit := ⟨100, 100⟩ }
    s.slotHeader = some ⟨60, 1200, 2000, 3, 3, 4, 4⟩ ∧ s.rackState .r1 = .connected ∧
      s.sequencer.hold = false ∧ loaded.rackState .r1 ≠ .connected ∧
      ((aimingAt 100).charge.target ≤ (s.limits.racks.get .r1).limit.charge ∧
        (aimingAt 100).discharge.target ≤ (s.limits.racks.get .r1).limit.discharge) ∧
      ((s.limits.racks.get .r1).limit.charge < (aimingAt 101).charge.target ∧
        (s.limits.racks.get .r1).limit.discharge < (aimingAt 101).discharge.target) := by decide

theorem test_witness_ContainerLimitsAreBounded :
    let s := withRack .r1 (fun x => { x with state := .connected }) loaded
    State.reset.grid = none ∧ (Rack.all.filter fun r => loaded.rackState r = .connected).length = 0 ∧
      s.grid = some (gridRecordOf gridBank) ∧
      1 ≤ (Rack.all.filter fun r => s.rackState r = .connected).length ∧
      s.sequencer.hold = false ∧ s.fire.stage = .normal ∧ s.converter.silent = false := by decide

/-! ## Witnesses: cell balancing -/

theorem test_witness_SecondBoundaryChargesRecords :
    1000 ≤ ((at_ 1000 loaded).now - (at_ 1000 loaded).balance.secondSince).toNat ∧
      ¬ 1000 ≤ ((at_ 999 loaded).now - (at_ 999 loaded).balance.secondSince).toNat := by decide

theorem test_witness_ReloadsSetBudgets :
    86400000 ≤ ((at_ 86400000 loaded).now - (at_ 86400000 loaded).balance.dailySince).toNat ∧
      loaded.balance.records[0]? = some (bleeding 0 .active 1) ∧
      loaded.rackConfig .r1 = some rackOne ∧ racksOf 1#4 = [.r1] ∧ (1#4 : RackMask) ≠ 0#4 ∧
      (∀ r ∈ racksOf 1#4, loaded.rackEnabled r = true) ∧ loaded.isActive .rack = true ∧
      State.reset.isActive .rack = false ∧ (∃ r ∈ racksOf 3#4, loaded.rackEnabled r = false) := by
  decide

/-- A RACK bank whose second entry, not enabled, holds a daily budget of 7 s. -/
theorem test_witness_ReloadsSetBudgets_disabled :
    let bank := rackBank ++ [List.replicate 24 0 ++ [0, 7]]
    let s := active .rack bank (loaded.withBalance
      { loaded.balance with records := [{ bleeding 0 .idle 5 with rack := .r2 }] })
    s.rackConfig .r2 = none ∧ (s.rackEntry .r2).map (·.dailyBudget) = some 7 ∧
      s.balance.records[0]? = some { bleeding 0 .idle 5 with rack := .r2 } := by decide

theorem test_witness_ReloadsSetBudgets_offers (mask : RackMask) :
    (asking (.budgetReload mask) loaded).offers ⟨7, .budgetReload mask⟩ [] ∧
      (asking (.budgetReload mask) State.reset).offers ⟨7, .budgetReload mask⟩ [] :=
  ⟨asking_offers _ _ (by decide) rfl, asking_offers _ _ (by decide) rfl⟩

/-- Node 1 in its cool-down since part time 0. -/
def coolingDown (fault : Bool) (now : PartTime) : State :=
  at_ now (loaded.withBalance { loaded.balance with nodes := [⟨1, fault, 0, some ⟨0, 10⟩⟩] })

theorem test_witness_CoolDownEndsSuspension :
    (coolingDown false 10000).balanceNode 1 = some ⟨1, false, 0, some ⟨0, 10⟩⟩ ∧
      (coolingDown true 10000).balanceNode 1 = some ⟨1, true, 0, some ⟨0, 10⟩⟩ ∧
      10 * 1000 ≤ ((coolingDown false 10000).now - 0).toNat := by decide

theorem test_witness_BalanceEnableSetsFlags :
    (asking (.balanceEnable 1#4 true) loaded).offers ⟨7, .balanceEnable 1#4 true⟩ [] ∧
      (asking (.balanceEnable 1#4 false) loaded).offers ⟨7, .balanceEnable 1#4 false⟩ [] ∧
      (asking (.balanceEnable 0#4 true) loaded).offers ⟨7, .balanceEnable 0#4 true⟩ [] ∧
      (asking (.balanceEnable 1#4 true) State.reset).offers ⟨7, .balanceEnable 1#4 true⟩ [] ∧
      (∀ r ∈ racksOf 1#4, loaded.rackEnabled r = true) ∧ loaded.isActive .rack = true ∧
      State.reset.isActive .rack = false ∧ 1 ∈ loaded.cellNodes .r1 :=
  ⟨asking_offers _ _ (by decide) rfl, asking_offers _ _ (by decide) rfl,
    asking_offers _ _ (by decide) rfl, asking_offers _ _ (by decide) rfl, by decide, by decide,
    by decide, by decide +kernel⟩

theorem test_witness_BleedingIsBounded :
    loaded.balance.records[1]? = some (bleeding 1 .idle 5) ∧
      (bleeding 1 .idle 5).state ≠ .active := by decide

/-! ## Witnesses: cooling -/

/-- The loaded part with its control interval running since 0. -/
def controlled (now : PartTime) : State :=
  at_ now (loaded.withCooling { loaded.cooling with interval := some 0 })

theorem test_witness_ControlIntervalStepsLadder :
    ((controlled 30000).table .cool).active = some coolBank ∧
      ((controlled 30000).table .cool).state ≠ .committed ∧
      (controlled 30000).cooling.interval = some 0 ∧
      (coolHeaderOf coolBank).interval * 1000 ≤ ((controlled 30000).now - 0).toNat ∧
      (controlled 30000).hottest = some 250 ∧
      ((controlled 30000).withSamples Samples.initial).hottest = none ∧
      (controlled 30000).cooling.blind = .clear := by decide

/-- The pump commanded on, its feedback off since part time 0. -/
def provingPump (now : PartTime) : State :=
  at_ now (loaded.setOutput .pump ⟨true, false, .normal, some 0⟩)

/-- Blind hold since part time 0. -/
def blindHolding (now : PartTime) : State :=
  at_ now (loaded.withCooling { loaded.cooling with blind := .holding, blindHold := some 0 })

theorem test_witness_OutputsAreComposedAndProved :
    ((provingPump 5000).cooling.outputs.get .pump).proof = some 0 ∧
      (provingPump 5000).proofTime .pump ≤ ((provingPump 5000).now - 0).toNat ∧
      (blindHolding 60000).cool = some (coolHeaderOf coolBank) ∧
      (blindHolding 60000).cooling.blindHold = some 0 ∧
      (coolHeaderOf coolBank).blindHold * 1000 ≤ ((blindHolding 60000).now - 0).toNat := by decide

theorem test_witness_CoolingFaultClearRestores :
    let failed := loaded.setOutput .pump ⟨false, true, .failed, none⟩
    (asking .coolingFaultClear loaded).offers ⟨7, .coolingFaultClear⟩ [] ∧
      (∀ o, ((asking .coolingFaultClear loaded).cooling.outputs.get o).status = .normal) ∧
      (asking .coolingFaultClear failed).offers ⟨7, .coolingFaultClear⟩ [] ∧
      (∃ o, ((asking .coolingFaultClear failed).cooling.outputs.get o).status ≠ .normal) ∧
      (asking .coolingFaultClear failed).isActive .cool = true :=
  ⟨asking_offers _ _ (by decide) rfl, fun o => by cases o <;> decide,
    asking_offers _ _ (by decide) rfl, ⟨.pump, by decide⟩, by decide⟩

/-! ## Witnesses: fire and gas -/

/-- A line of the part in reset, under the built-in SMOKE settings, changed. -/
def withLine (l : Line) (x : LineState) (now : PartTime) : State :=
  at_ now (State.reset.setLine l x)

theorem test_witness_LinesAreDebounced :
    let s := withLine .l1 ⟨.active, .normal, some ⟨.active, 0⟩, false, false, false⟩ 100
    (s.fire.lines.get .l1).candidate = some ⟨.active, 0⟩ ∧
      (s.lineSettings .l1).debounce ≤ (s.now - 0).toNat ∧
      (s.lineSettings .l1).kind = .smoke ∧ Line.l2 ≠ .l1 := by decide

/-- The fire and gas unit of the part in reset, changed. -/
def withUnit (f : Fire → Fire) (now : PartTime) : State :=
  at_ now (State.reset.withFire (f State.reset.fire))

theorem test_witness_FireTimersAct :
    let horn (on : Bool) := withUnit fun x => { x with stage := .preAlarm, horn := on }
    let release := withUnit fun x => { x with release := true, pulse := some 0 }
    let watch := withUnit fun x => { x with watch := .awaiting, watchSince := some 0 }
    let count := withUnit fun x => { x with stage := .countdown, countdown := some 0 }
    ((horn true 500).fire.stage = .preAlarm ∧
        500 ≤ ((horn true 500).now - (horn true 500).fire.hornSince).toNat) ∧
      1500 ≤ ((horn false 1500).now - (horn false 1500).fire.hornSince).toNat ∧
      ((release 2000).fire.pulse = some 0 ∧
        (release 2000).fireRecord.pulse * 1000 ≤ ((release 2000).now - 0).toNat) ∧
      ((watch 10000).fire.watch = .awaiting ∧ (watch 10000).fire.watchSince = some 0 ∧
        (watch 10000).fireRecord.feedback * 1000 ≤ ((watch 10000).now - 0).toNat) ∧
      ((count 30000).fire.stage = .countdown ∧ (count 30000).fire.countdown = some 0 ∧
        (count 30000).fireRecord.countdown * 1000 ≤ ((count 30000).now - 0).toNat) := by decide

/-- Two latched SMOKE lines of zone 1. -/
def twoLatched : State :=
  (withLine .l1 ⟨.active, .active, none, false, true, false⟩ 0).setLine .l2
    ⟨.normal, .normal, none, false, true, false⟩

/-- A FIRE bank whose record enables the release with a countdown of 10 s; its lines are SMOKE lines of
zone 1. -/
def releaseBank : Bank := [1, 10, 2, 10] :: List.replicate 12 [0, 1, 0, 0, 100]

theorem test_witness_FireStageAndRequests_stage :
    (twoLatched.fire.stage = .normal ∧ twoLatched.confirmed = true ∧
        twoLatched.fireRecord.releaseEnabled = false) ∧
      (let s := active .fire releaseBank twoLatched;
        s.confirmed = true ∧ s.fireRecord.releaseEnabled = true ∧ 0 < s.fireRecord.countdown) ∧
      (State.reset.confirmed = false ∧ State.reset.fire.stage = .normal) ∧
      (let s := withUnit (fun x => { x with stage := .preAlarm }) 0;
        s.confirmed = false ∧ s.fire.stage = .preAlarm) := by decide

/-- The FIRE bank with a countdown of 0, without and with an ABORT line ACTIVE. -/
theorem test_witness_FireStageAndRequests_noCountdown :
    let bank : Bank := [1, 0, 2, 10] :: List.replicate 12 [0, 1, 0, 0, 100]
    let aborting : Bank := [1, 0, 2, 10] :: List.replicate 11 [0, 1, 0, 0, 100] ++ [[3, 0, 0, 0, 100]]
    let s := active .fire bank twoLatched
    let held := (active .fire aborting twoLatched).setLine .l12
      ⟨.active, .active, none, false, false, false⟩
    (s.fire.stage = .normal ∧ s.confirmed = true ∧ s.fireRecord.releaseEnabled = true ∧
        s.fireRecord.countdown = 0 ∧ s.abortActive = false) ∧
      (held.fire.stage = .normal ∧ held.confirmed = true ∧ held.fireRecord.releaseEnabled = true ∧
        held.fireRecord.countdown = 0 ∧ held.abortActive = true) := by decide

/-- The hydrogen limits of section 6.5 at the completing sample of each count. -/
theorem test_witness_FireStageAndRequests_channel :
    let g : GasLimits := ⟨1000, 800, 4000, 3000, 3, 2⟩
    let clear : GasChannelState := .initial
    let up (v : Int) : List (Int × PartTime) := [(1000, 0), (4000, 1), (v, 2)]
    let down : List (Int × PartTime) := [(3000, 0), (800, 1)]
    (clear.level = .clear ∧ clear.setCount = 0 ∧ 1 ≤ g.setPersistence ∧
        (∀ v ∈ up 1000, g.preSet ≤ v.1) ∧ (up 1000).length = g.setPersistence ∧
        (∃ v ∈ up 1000, v.1 < g.alarmSet)) ∧
      (∀ v ∈ [((4000 : Int), (0 : PartTime)), (4000, 1), (4000, 2)], g.alarmSet ≤ v.1) ∧
      ({ clear with level := .alarm }.level = .alarm ∧
        { clear with level := .alarm }.releaseCount = 0 ∧ 1 ≤ g.releasePersistence ∧
        (∀ v ∈ down, v.1 ≤ g.alarmRelease) ∧ down.length = g.releasePersistence ∧
        down.getLast? = some (800, 1)) := by decide

theorem test_witness_FireStageAndRequests_gas :
    let gas (h2 co : GasLevel) := withUnit (fun x => { x with
      h2 := { x.h2 with level := h2 }, co := { x.co with level := co } }) 0
    (gas .clear .alarm).fire.co.level = .alarm ∧ (gas .clear .alarm).fire.gas ≠ .gasAlarm ∧
      ((gas .pre .clear).fire.h2.level = .pre ∧ (gas .pre .clear).fire.co.level ≠ .alarm) ∧
      ((gas .clear .clear).fire.h2.level = .clear ∧ (gas .clear .clear).fire.co.level = .clear) ∧
      (let e : SlotEntry := ⟨3, 3, 2, 0, 0, 0, 2, 0, 0, 1⟩;
        e.node = 3 ∧ ∀ r, loaded.record e.node 3 = some r → r.value = none) := by decide +kernel

theorem test_witness_FireStageAndRequests_ack :
    (asking .fireAck State.reset).offers ⟨7, .fireAck⟩ [] ∧
      (∀ l, ((asking .fireAck State.reset).fire.lines.get l).latch = false) ∧
      (asking .fireAck twoLatched).offers ⟨7, .fireAck⟩ [] ∧
      (∃ l, ((asking .fireAck twoLatched).fire.lines.get l).latch = true) :=
  ⟨asking_offers _ _ (by decide) rfl, fun l => by cases l <;> decide,
    asking_offers _ _ (by decide) rfl, ⟨.l1, by decide⟩⟩

theorem test_witness_FireStageAndRequests_reset :
    let latched (s : State) := Line.all.filter fun l => (s.fire.lines.get l).latch
    let alarm := withUnit (fun x => { x with stage := .alarm }) 0
    let burning := twoLatched.withFire { twoLatched.fire with stage := .countdown }
    let pulsing := withUnit (fun x => { x with stage := .released, pulse := some 0 }) 0
    let over_ := withUnit (fun x => { x with stage := .released }) 0
    (asking .fireReset alarm).offers ⟨7, .fireReset⟩ [] ∧
      (State.reset.fire.stage = .normal ∧ latched State.reset = []) ∧
      (burning.fire.stage = .countdown ∧ latched burning ≠ []) ∧
      (pulsing.fire.stage = .released ∧ pulsing.fire.pulse ≠ none) ∧
      (latched alarm = [] ∧ alarm.fire.stage = .alarm) ∧
      (latched over_ = [] ∧ over_.fire.stage = .released ∧ over_.fire.pulse = none) :=
  ⟨asking_offers _ _ (by decide) rfl, by decide, by decide, by decide, by decide, by decide⟩

/-! ## Witnesses: rack switching -/

theorem loaded_settled (q : Request) : (asking q loaded).Settled :=
  settled_of_calm _ rfl (show loaded.grantable = none by decide) rfl

theorem test_witness_ConnectQueuesRacks :
    (asking (.connect 1#4) loaded).offers ⟨7, .connect 1#4⟩ [] ∧
      (asking (.connect 1#4) loaded).Settled ∧ (asking (.connect 1#4) loaded).SequencerKept ∧
      loaded.site.mode = .run ∧ (1#4 : RackMask) ≠ 0#4 ∧
      (asking (.connect 1#4) State.reset).offers ⟨7, .connect 1#4⟩ [] ∧
      (asking (.connect 1#4) State.reset).Settled ∧
      (asking (.connect 1#4) State.reset).SequencerKept ∧ State.reset.site.mode = .unconfigured ∧
      (asking (.connect 1#4) (loaded.withSite
        { loaded.site with mode := .standby })).site.mode = .standby :=
  ⟨asking_offers _ _ (by decide) rfl, loaded_settled _,
    ⟨by intro r; cases r <;> decide, by decide, by intro r; cases r <;> decide⟩, rfl, by decide,
    asking_offers _ _ (by decide) rfl, settled_of_calm _ rfl (by decide) rfl,
    ⟨by intro r; cases r <;> decide, by decide, by intro r; cases r <;> decide⟩, rfl, rfl⟩

/-- Rack 2 QUEUED behind rack 1, whose path is shut; the bus reads 49 or 50 dV with a dead-bus limit of
50, and the join window is 20. -/
def queueing (bus rack : Int) (state : RackState) : State :=
  let reading (v : Int) : Option Reading := some ⟨v, .fresh⟩
  let s := withRack .r1 (fun x => { x with state := .queued }) (withRack .r2
    (fun x => { x with state := state, timer := some ⟨.precharge, 0, 2000⟩ }) loaded)
  let y := s.samples.racks.get .r2
  at_ 1000 ((s.withSequencer { s.sequencer with queue := [⟨.r1, 0⟩, ⟨.r2, 0⟩] }).setRackSamples .r2
    { y with
      hadSet := true, blind := false
      aggregates := { y.aggregates with rackVoltage := reading rack, busVoltage := reading bus } })

theorem test_witness_ConnectQueuesRacks_scan :
    let g := gridRecordOf gridBank
    let served (s : State) : Prop := s.sequencer.slot = none ∧ ∀ r,
      (s.sequencer.racks.get r).operation.protective = false ∧
        (s.sequencer.racks.get r).disconnectPending = false
    let s (bus rack : Int) := queueing bus rack .queued
    (g.deadBus = 50 ∧ g.joinWindow = 20) ∧ served (s 49 3000) ∧
      (s 49 3000).sequencer.queue = [⟨.r1, 0⟩] ++ ⟨.r2, 0⟩ :: [] ∧
      ((s 49 3000).sequencer.queue.map (·.rack)).Nodup ∧ (s 49 3000).pathOf g .r1 = none ∧
      (s 49 3000).pathOf g .r2 = some .precharge ∧ (s 50 70).pathOf g .r2 = some .join ∧
      (s 50 71).pathOf g .r2 = none ∧ (s 49 3000).rackState .r2 = .queued ∧
      ((s 49 3000).sequencer.racks.get .r2).mainClosed = false :=
  ⟨by decide, ⟨by decide, by intro r; cases r <;> decide⟩, by decide, by decide, by decide,
    by decide, by decide, by decide, by decide, by decide⟩

theorem test_witness_ConnectQueuesRacks_joins :
    let g := gridRecordOf gridBank
    let s := queueing 50 70 .precharging
    let q := s.sequencer.racks.get .r2
    q.state = .precharging ∧ q.timer = some ⟨.precharge, 0, 2000⟩ ∧ q.mainClosed = false ∧
      g.minPrecharge ≤ (s.now - 0).toNat ∧
      (s.samples.racks.get .r2).aggregates.rackVoltage = some ⟨70, .fresh⟩ ∧
      ((70 : Int) - 50).natAbs ≤ g.joinWindow := by decide

theorem test_witness_DisconnectAndClearFault :
    let connected := withRack .r1 (fun x => { x with state := .connected }) loaded
    let faulty := withRack .r1 (fun x => { x with state := .fault, hardBreaks := 5 }) loaded
    let welded := withRack .r1 (fun x => { x with state := .fault, mainClosed := true }) loaded
    (asking (.disconnect 1#4) connected).offers ⟨7, .disconnect 1#4⟩ [] ∧
      connected.site.mode ≠ .unconfigured ∧
      (asking (.disconnect 1#4) State.reset).offers ⟨7, .disconnect 1#4⟩ [] ∧
      (asking (.clearFault 1#4) faulty).offers ⟨7, .clearFault 1#4⟩ [] ∧
      (asking (.clearFault 1#4) faulty).Settled ∧ faulty.rackState .r1 = .fault ∧
      Rack.r1 ∈ racksOf 1#4 ∧ faulty.rackEnabled .r1 = true ∧
      ((faulty.sequencer.racks.get .r1).mainClosed = false ∧
        (faulty.sequencer.racks.get .r1).prechargeClosed = false) ∧
      (asking (.clearFault 1#4) welded).Settled ∧ welded.rackState .r1 = .fault ∧
      (welded.sequencer.racks.get .r1).mainClosed = true ∧
      (asking (.clearFault 1#4) loaded).Settled ∧ loaded.rackState .r1 = .opened :=
  ⟨asking_offers _ _ (by decide) rfl, by decide, asking_offers _ _ (by decide) rfl,
    asking_offers _ _ (by decide) rfl, settled_of_calm _ rfl (by decide) rfl, by decide, by decide,
    by decide, by decide, settled_of_calm _ rfl (by decide) rfl, by decide, by decide,
    loaded_settled _, by decide⟩

/-- Rack 1 in a state with an operation timer that has just run out at 200 ms. -/
def timed (state : RackState) (kind : OperationTimerKind) : State :=
  at_ 200 (withRack .r1 (fun x => { x with state := state, timer := some ⟨kind, 0, 200⟩ }) loaded)

theorem test_witness_RackTimersAct :
    let runs (s : State) (k : OperationTimerKind) : Prop :=
      ∃ m, (s.sequencer.racks.get .r1).timer = some m ∧ m.kind = k ∧
        m.limit ≤ (s.now - m.since).toNat
    let watching (state : RackState) :=
      at_ 200 (withRack .r1 (fun x => { x with state := state, mainWatch := .running 0 }) loaded)
    let queued := at_ 10000 (withRack .r1 (fun x => { x with state := .queued })
      (loaded.withSequencer { loaded.sequencer with queue := [⟨.r1, 0⟩] }))
    (loaded.table .grid).state ≠ .committed ∧
      ((watching .opened).watchIsDue .r1 .main = true ∧ (watching .opened).rackState .r1 = .opened) ∧
      ((watching .connected).watchIsDue .r1 .main = true ∧
        (watching .connected).rackState .r1 = .connected) ∧
      (queued.waitIsDue .r1 = true ∧ queued.rackState .r1 = .queued) ∧
      runs (timed .precharging .precharge) .precharge ∧
      runs (timed .joining .closeProof) .closeProof ∧
      (runs (timed .joining .releaseDelay) .releaseDelay ∧
        ((timed .joining .releaseDelay).sequencer.racks.get .r1).disconnectPending = false) ∧
      runs (timed .draining .drain) .drain ∧
      (let s := withRack .r1 (fun x => { x with prechargeClosed := true })
          (timed .opening .openProof);
        runs s .openProof ∧ (s.sequencer.racks.get .r1).prechargeClosed = true) :=
  ⟨by decide, by decide, by decide, by decide,
    ⟨⟨.precharge, 0, 200⟩, by decide⟩, ⟨⟨.closeProof, 0, 200⟩, by decide⟩,
    ⟨⟨⟨.releaseDelay, 0, 200⟩, by decide⟩, by decide⟩, ⟨⟨.drain, 0, 200⟩, by decide⟩,
    ⟨⟨.openProof, 0, 200⟩, by decide⟩, by decide⟩

theorem test_witness_FeedbackAndAttempts :
    let joining := timed .joining .closeProof
    let attempted := at_ 600000 (withRack .r1 (fun x => { x with attempts := [0, 5] }) loaded)
    (joining.table .grid).state ≠ .committed ∧
      ((joining.sequencer.racks.get .r1).state = .joining ∧
        (joining.sequencer.racks.get .r1).prechargeUsed = false ∧
        (joining.sequencer.racks.get .r1).disconnectPending = false ∧
        ∃ m, (joining.sequencer.racks.get .r1).timer = some m ∧ m.kind = .closeProof) ∧
      ((timed .opening .openProof).sequencer.racks.get .r1).state = .opening ∧
      ∃ a ∈ (attempted.sequencer.racks.get .r1).attempts,
        600000 ≤ (attempted.now - a).toNat :=
  ⟨by decide, ⟨by decide, by decide, by decide, ⟨⟨.closeProof, 0, 200⟩, by decide⟩⟩, by decide,
    ⟨0, by decide⟩⟩

/-- A delay of 100 ms, and one of 0. -/
theorem test_witness_FeedbackAndAttempts_precharged :
    let s := withRack .r1 (fun x => { x with prechargeUsed := true }) (timed .joining .closeProof)
    let x := s.sequencer.racks.get .r1
    (s.table .grid).state ≠ .committed ∧ s.grid.map (·.releaseDelay) = some 100 ∧
      (active .grid (gridBank.map (·.set 13 0)) s).grid.map (·.releaseDelay) = some 0 ∧
      x.state = .joining ∧ x.prechargeUsed = true ∧ x.disconnectPending = false ∧
      ∃ m, x.timer = some m ∧ m.kind = .closeProof :=
  ⟨by decide, by decide, by decide, by decide, by decide, by decide,
    ⟨⟨.closeProof, 0, 200⟩, by decide⟩⟩

/-- R142: a SLOT swap takes a QUEUED rack without an enabled entry out of the queue, also one that had none
before it; a swap of another table leaves it. -/
theorem test_slot_swap_withdraws :
    let s := withRack .r2 (fun x => { x with state := .queued, operation := .connect })
      (loaded.withSequencer { loaded.sequencer with queue := [⟨.r2, 0⟩] })
    s.rackHasEntry .r2 = false ∧ withdrawn [.slot] s.before s .r2 = true ∧
      withdrawn [.rack] s.before s .r2 = false ∧ (withdrawRack .r2 s).rackState .r2 = .opened ∧
      (withdrawRack .r2 s).sequencer.queue = [] := by decide

/-! ## Witnesses: protective trips -/

/-- A record of the trip history. -/
def someTrip : TripRecord :=
  ⟨0, .blind, some .r1, none, none, none, 0, 0, .rack .connected, false, [], ⟨none, false⟩, none⟩

/-- A history of so many records. -/
def withHistory (n : Nat) : State :=
  loaded.withTrips { loaded.trips with history := List.replicate n someTrip }

theorem test_witness_CausesAreTaken :
    TripKind.isContainer .cellOv = (some Rack.r1).isNone ∧
      TripKind.isContainer .emergency = (none : Option Rack).isNone ∧
      (withHistory 16).trips.history.length ≤ 16 := by decide

theorem test_witness_CausesAreTaken_blind :
    let s := at_ 2000 (loaded.setRackSamples .r1
      { loaded.samples.racks.get .r1 with blindTimer := .running 0 })
    s.rackConfig .r1 = some rackOne ∧
      (s.samples.racks.get .r1).blindTimer.due s.now (rackOne.blindTime * 1000) = true := by decide

/-- A CONNECTED rack whose junction node reads -121 dA against a discharge limit of 100 dA and a margin of
20 dA (one beyond the sum), the overrun standing since 0 for an overrun time of 1000 ms. -/
theorem test_witness_CausesAreTaken_overcurrent :
    let s := (withRack .r1 (fun x => { x with state := .connected }) loaded).setRackCharge .r1
      { RackCharge.initial with limit := ⟨100, 100⟩ }
    let over_ (stamp : PartTime) := (s.withSamples { s.samples with
      racks := s.samples.racks.set .r1 { s.samples.racks.get .r1 with junctionTaken := true }
      records := [{ record (some .r1) 2 0 .junction (-121) with stamp := some stamp }] }).setRackLatches
        .r1 { RackLatches.initial with overrunStart := some 0 }
    let g := gridRecordOf gridBank
    s.grid = some g ∧ s.rackState .r1 = .connected ∧ s.junctionFresh .r1 = none ∧
      (over_ g.overrunTime).rackState .r1 = .connected ∧
      (over_ g.overrunTime).junctionFresh .r1 =
        some (-121, BitVec.ofNat 32 g.overrunTime) ∧
      ((-121 : Int) < -(((100 : Nat) : Int) + g.overrunMargin)) ∧ loaded.rackState .r1 ≠ .connected ∧
      (over_ g.overrunTime).trips.history.length ≤ 16 := by decide +kernel

theorem test_witness_TripRequestsAct :
    let tripped := loaded.setRackLatches .r1 { RackLatches.initial with blind := ⟨true, false⟩ }
    (asking .readTrips loaded).offers ⟨7, .readTrips⟩ [] ∧
      (asking .clearTripHistory loaded).offers ⟨7, .clearTripHistory⟩ [] ∧
      loaded.trips.history = [] ∧
      (asking .clearTripHistory (withHistory 1)).offers ⟨7, .clearTripHistory⟩ [] ∧
      (withHistory 1).trips.history ≠ [] ∧
      (asking (.clearTrip 1#4) loaded).offers ⟨7, .clearTrip 1#4⟩ [] ∧
      (loaded.table .grid).state ≠ .committed ∧
      (¬ ((∃ r ∈ racksOf 1#4, ∃ k ∈ TripKind.rackKinds,
          ((loaded.trips.racks.get r).latch k).standing = true) ∨
        (∃ k ∈ [TripKind.converterSilent, .welded, .emergency],
          (loaded.trips.container.latch k).standing = true) ∨
        ∃ r ∈ racksOf 1#4, loaded.rackTripSide r = true)) ∧
      (asking (.clearTrip 1#4) tripped).offers ⟨7, .clearTrip 1#4⟩ [] ∧
      ((tripped.trips.racks.get .r1).latch .blind).standing = true ∧
      TripKind.blind ∈ TripKind.rackKinds :=
  ⟨asking_offers _ _ (by decide) rfl, asking_offers _ _ (by decide) rfl, rfl,
    asking_offers _ _ (by decide) rfl, by decide, asking_offers _ _ (by decide) rfl, by decide,
    by decide, asking_offers _ _ (by decide) rfl, by decide, by decide⟩

/-! ## Witnesses: converter and breaker -/

/-- The converter interface of the loaded part, changed. -/
def withLinkTo (f : Converter → Converter) (now : PartTime) : State :=
  at_ now (loaded.withConverter (f loaded.converter))

theorem test_witness_LimitMessagesAreSent :
    let idle := withLinkTo (fun x => x) 100
    let sending := withLinkTo (fun x => { x with sending := true }) 100
    let waiting := withLinkTo (fun x => { x with sending := true, waiting := true }) 100
    (idle.limitPeriod ≤ (idle.now - idle.converter.periodSince).toNat ∧
        idle.converter.sending = false) ∧
      (sending.limitPeriod ≤ (sending.now - sending.converter.periodSince).toNat ∧
        sending.converter.sending = true ∧ sending.converter.waiting = false) ∧
      (waiting.converter.sending = true ∧ waiting.converter.waiting = true) := by decide

/-- A status message with a right CRC-16. -/
def statusOf (voltage current : Int) (c : StateField ConverterState) (g : StateField GridState) :
    StatusFrame :=
  ⟨true, voltage, current, c, g, crc16 (Config.statusBytes voltage current c g)⟩

theorem test_witness_ConverterIsWatched_messages :
    let good := statusOf 10000 (-20000) (.named .running) (.named .normal)
    let bytes (f : StatusFrame) := Config.statusBytes f.voltage f.current f.converter f.grid
    { good with framingOk := false }.framingOk = false ∧
      (good.framingOk = true ∧ { good with crc := crc16 (bytes good) + 1 }.crc ≠ crc16 (bytes good)) ∧
      (let odd := statusOf 0 0 (.other 9) (.named .normal);
        odd.crc = crc16 (bytes odd) ∧ ∀ c, odd.converter ≠ .named c) ∧
      (∀ g, (statusOf 0 0 (.named .running) (.other 9)).grid ≠ .named g) ∧
      ¬ (0 ≤ (10001 : Int) ∧ (10001 : Int) ≤ 10000) ∧ ¬ (-20000 ≤ (-20001 : Int)) ∧
      (good.crc = crc16 (bytes good) ∧ good.converter = .named .running ∧ good.grid = .named .normal ∧
        0 ≤ good.voltage ∧ good.voltage ≤ 10000 ∧ -20000 ≤ good.current ∧ good.current ≤ 20000) ∧
      loaded.Settled :=
  ⟨rfl, ⟨rfl, other_crc _⟩, ⟨rfl, nofun⟩, nofun, by decide,
    by decide, ⟨rfl, rfl, rfl, by decide, by decide, by decide, by decide⟩,
    settled_of_calm _ rfl (by decide) rfl⟩

theorem test_witness_ConverterIsWatched_timers :
    let watched := withLinkTo (fun x => { x with silenceWatch := some 0, grid := .normal }) 300
    let silent := withLinkTo (fun x => { x with silentTrip := .running 0 }) 5000
    let g := gridRecordOf gridBank
    (watched.grid = some g ∧ watched.converter.silenceWatch = some 0 ∧
        g.silenceTime ≤ (watched.now - 0).toNat ∧ watched.converter.grid ≠ .lost) ∧
      (silent.grid = some g ∧ silent.converter.silentTrip = .running 0 ∧
        silent.converter.silenceWatch = none ∧
        g.silentTrip * 1000 ≤ (silent.now - 0).toNat) := by decide

theorem test_witness_BreakerPulsesAreProved :
    let pulsing (closed : Bool) :=
      withLinkTo (fun x => { x with pulse := .pulsing, breakerClosed := closed }) 200
    let proving (n : Nat) := withLinkTo (fun x => { x with
      pulse := .proving, breakerClosed := true, pulseNumber := n, proofLimit := 200 }) 200
    (((pulsing false).converter.pulse = .pulsing ∧
        200 ≤ ((pulsing false).now - (pulsing false).converter.pulseSince).toNat ∧
        (pulsing false).converter.breakerClosed = false) ∧
      (pulsing true).converter.breakerClosed = true) ∧
      ((proving 2).converter.pulse = .proving ∧ (proving 2).converter.breakerClosed = true ∧
        (proving 2).converter.proofLimit ≤
          ((proving 2).now - (proving 2).converter.proofSince).toNat ∧
        (proving 2).converter.pulseNumber < 3) ∧
      3 ≤ (proving 3).converter.pulseNumber := by decide

/-! ## Witnesses: loaded tables -/

theorem test_witness_TablesAreWrittenAndRead_write :
    let data := List.replicate 64 (0 : Byte)
    let edited := loaded.setTable .grid ⟨some gridBank, some gridBank, .committed, none⟩
    (asking (.tableWrite (some .grid) 0 1 data) loaded).offers
        ⟨7, .tableWrite (some .grid) 0 1 data⟩ [] ∧
      ((0 : Nat) < 1 ∧ 32 < 33 ∧ data.length ≠ 2 * TableName.grid.imageLength) ∧
      (data.length = 1 * TableName.grid.imageLength ∧ TableName.grid.positions < 1 + 1) ∧
      (0 + 1 ≤ TableName.grid.positions ∧ (edited.table .grid).state = .committed) ∧
      ((loaded.table .grid).state ≠ .committed ∧
        ((loaded.table .grid).pending.getD []).length = TableName.grid.positions) :=
  ⟨asking_offers _ _ (by decide) rfl, by decide, by decide, by decide, by decide⟩

theorem test_witness_TablesAreWrittenAndRead_read :
    let q := Request.tableRead (some .grid) (some .active) 0 1
    (asking q loaded).offers ⟨7, q⟩ [] ∧ (asking q State.reset).offers ⟨7, q⟩ [] ∧
      ((1 : Nat) ≤ 1 ∧ 0 + 1 ≤ TableName.grid.positions ∧ TableName.grid.positions < 1 + 1) ∧
      (State.reset.table .grid).active = none ∧ (loaded.table .grid).active = some gridBank :=
  ⟨asking_offers _ _ (by decide) rfl, asking_offers _ _ (by decide) rfl, by decide, rfl, by decide⟩

theorem test_witness_TablesAreWrittenAndRead_unknown :
    let write := Request.tableWrite none 0 1 []
    let read := Request.tableRead (some .grid) none 0 1
    (asking write loaded).offers ⟨7, write⟩ [] ∧ (asking read loaded).offers ⟨7, read⟩ [] :=
  ⟨asking_offers _ _ (by decide) rfl, asking_offers _ _ (by decide) rfl⟩

/-- The loaded part with a pending GRID bank. -/
def editedGrid (bank : Bank) : State :=
  loaded.setTable .grid ⟨some gridBank, some bank, .edited, some (digestOf gridBank)⟩

theorem test_witness_CommitsAreJudgedAndSwap :
    let q (n : TableName) (d : Code) := Request.tableCommit (some n) d
    let fire := loaded.setTable .fire ⟨none, some releaseBank, .edited, none⟩
    (asking (q .grid (digestOf gridBank)) (editedGrid gridBank)).offers
        ⟨7, q .grid (digestOf gridBank)⟩ [] ∧
      (loaded.table .grid).state = .clean ∧
      ((loaded.setTable .grid ⟨none, some [], .committed, none⟩).table .grid).state = .committed ∧
      (((editedGrid gridBank).table .grid).state = .edited ∧
        ((editedGrid gridBank).table .grid).pending = some gridBank) ∧
      ((fire.withFire { fire.fire with stage := .preAlarm }).fire.stage ≠ .normal ∧
        (fire.table .fire).state = .edited) ∧
      digestOf gridBank ≠ 0 ∧
      firstFailure (failuresOf .grid [[]]) = some (0, .range) ∧
      firstFailure (failuresOf .grid gridBank) = none ∧
      (editedGrid gridBank).sequencer.hold = false ∧
      ((editedGrid gridBank).withSequencer
        { (editedGrid gridBank).sequencer with hold := true }).sequencer.hold ≠ false :=
  ⟨asking_offers _ _ (by decide) rfl, by decide, by decide, by decide, by decide,
    by decide +kernel, by decide +kernel, by decide +kernel, by decide, by decide⟩

/-- LIMIT set 0 with its OV warn release at its warn set names ORDER also where the set persistence is 0,
since R33 lists the persistences last; in order and with that persistence alone it names RANGE. -/
theorem test_limit_order_before_persistence :
    let bank (release : Byte) : Bank :=
      [[14, 16, 14, release, 14, 66, 13, 252, 10, 240, 11, 0, 10, 0, 10, 240,
        1, 244, 1, 0, 2, 88, 1, 0, 0, 10, 0, 100, 0, 1]]
    firstFailure (failuresOf .limit (bank 16)) = some (0, .order) ∧
      firstFailure (failuresOf .limit (bank 0)) = some (0, .range) := by decide +kernel

theorem test_witness_CommitsAreJudgedAndSwap_unknown :
    (asking (.tableCommit none 0) loaded).offers ⟨7, .tableCommit none 0⟩ [] :=
  asking_offers _ _ (by decide) rfl

/-- The loaded part with one table COMMITTED, its pending bank a copy of the active one. -/
def waiting (n : TableName) : State :=
  loaded.setTable n { loaded.table n with state := .committed }

theorem waiting_consistent (n : TableName) (h : (loaded.table n).pending.isSome = true) :
    (waiting n).TablesConsistent := by
  intro t
  cases n <;> first | exact absurd h (by decide) | skip
  all_goals cases t <;> exact ⟨by decide +kernel, by decide +kernel, by decide⟩

theorem test_witness_PublishedLimitsSlew_swap :
    (waiting .rack).TablesConsistent ∧ (waiting .rack).cycleDue = true ∧
      ((waiting .rack).table .rack).state = .committed ∧
      (waiting .rack).rackEntry .r1 = some rackOne ∧ rackOne.baseCharge = 2800 :=
  ⟨waiting_consistent _ (by decide), by decide, by decide, by decide, by decide⟩

/-- R65: a limit above a lowered base current falls to it, one below stays. -/
theorem test_capped_limit :
    (RackCharge.capped { RackCharge.initial with limit := ⟨2801, 100⟩ } (some rackOne)).limit =
      ⟨2800, 100⟩ := by decide

/-- A COMMITTED SLOT table before CYCLE_START, a COMMITTED COOL table at the end of its interval, and a
COMMITTED GRID table with a switching hold that has nothing left to wait for. -/
theorem test_witness_CommitsAreJudgedAndSwap_waiting :
    let cool := at_ 30000 ((waiting .cool).withCooling
      { loaded.cooling with interval := some 0 })
    let grid := (waiting .grid).withSequencer { loaded.sequencer with hold := true }
    (waiting .slot).TablesConsistent ∧ (waiting .slot).ring.phase = .due ∧
      TableName.slot ∈ TableName.ringPath ∧ ((waiting .slot).table .slot).state = .committed ∧
      ((waiting .slot).table .rack).state ≠ .committed ∧
      cool.TablesConsistent ∧ (cool.table .cool).state = .committed ∧
      cool.cool = some (coolHeaderOf coolBank) ∧ cool.cooling.interval = some 0 ∧
      (coolHeaderOf coolBank).interval * 1000 ≤ (cool.now - 0).toNat ∧
      grid.TablesConsistent ∧ (grid.table .grid).state = .committed ∧ grid.sequencer.hold = true ∧
      grid.anySwitching = false ∧ grid.grantable = none :=
  ⟨waiting_consistent _ (by decide), by decide, by decide, by decide, by decide,
    waiting_consistent .cool (by decide), by decide, by decide, by decide, by decide,
    waiting_consistent .grid (by decide), by decide, by decide, by decide, by decide⟩

/-! ## Witnesses: site link -/

/-- A downward frame of one body byte with a right CRC-16. -/
def frame : DownFrame := ⟨0xA5#8, false, 1, [0x20], crc16 (wordBytes 1 ++ [0x20])⟩

/-- A request frame with the tag 7 and a request-kind byte. -/
def requestFrame : DownFrame :=
  ⟨0xA5#8, false, 3, [Config.requestFrameKind, 7, 0],
    crc16 (wordBytes 3 ++ [Config.requestFrameKind, 7, 0])⟩

theorem test_witness_SiteLinkTraffic_badFrames :
    { frame with marker := 0 }.marker ≠ 0xA5#8 ∧ { frame with malformed := true }.malformed = true ∧
      ({ frame with length := 0 }.length.toNat < 1 ∧ 2048 < (2049#16).toNat ∧
        { frame with length := 2 }.body.length ≠ (2#16).toNat) ∧
      { frame with crc := 0 }.crc ≠ crc16 (wordBytes 1 ++ [0x20]) := by decide +kernel

theorem test_witness_SiteLinkTraffic_request :
    requestFrame.marker = 0xA5#8 ∧ requestFrame.malformed = false ∧
      1 ≤ requestFrame.length.toNat ∧ requestFrame.length.toNat ≤ 2048 ∧
      requestFrame.body.length = requestFrame.length.toNat ∧
      requestFrame.crc = crc16 (wordBytes requestFrame.length ++ requestFrame.body) ∧
      requestFrame.body = Config.requestFrameKind :: 7 :: 0 :: [] ∧
      (∀ tag kind args, frame.body ≠ Config.requestFrameKind :: tag :: kind :: args) :=
  ⟨rfl, rfl, by decide, by decide, rfl, by rw [requestFrame], rfl,
    fun _ _ _ h => by simp [frame] at h⟩

theorem test_witness_SiteLinkTraffic_queues :
    let fullFifo := loaded.withSite { loaded.site with
      fifo := List.replicate 4 ⟨7, .readStatus⟩, replies := List.replicate 7 someReply }
    loaded.site.fifo.length < 4 ∧
      (4 ≤ fullFifo.site.fifo.length ∧ fullFifo.site.replies.length < 8) ∧
      8 ≤ (List.replicate 8 someReply).length := by decide

theorem test_witness_SiteLinkTraffic_rest :
    let reply : Reply := ⟨7, .resetPart, .ok, .nothing⟩
    let sending := loaded.withSite { loaded.site with link := some (.reply reply), reset := .taken }
    let other := loaded.withSite { loaded.site with link := some (.reply someReply) }
    let quiet := at_ 30000 (loaded.withSite { loaded.site with silence := some 0 })
    let g := gridRecordOf gridBank
    (asking (.unknown 200) loaded).offers ⟨7, .unknown 200⟩ [] ∧
      (sending.site.link = some (.reply reply) ∧ sending.site.reset = .taken) ∧
      (other.site.link = some (.reply someReply) ∧ other.site.reset ≠ .taken) ∧
      (quiet.grid = some g ∧ quiet.site.silence = some 0 ∧
        g.siteSilence * 1000 ≤ (quiet.now - 0).toNat ∧ (quiet.table .grid).state ≠ .committed) :=
  ⟨asking_offers _ _ (by decide) rfl, by decide, by decide, by decide⟩

theorem test_witness_ModeResetAndStatus_mode :
    let standby := loaded.withSite { loaded.site with mode := .standby }
    let busy := withRack .r1 (fun x => { x with state := .connected }) loaded
    (asking (.setMode .standby) loaded).offers ⟨7, .setMode .standby⟩ [] ∧
      loaded.site.mode = .run ∧
      ((∀ r, loaded.rackState r = .opened ∨ loaded.rackState r = .locked) ∧
        loaded.fire.stage = .normal ∧ loaded.fire.gas = .clear) ∧
      (¬ ∀ r, busy.rackState r = .opened ∨ busy.rackState r = .locked) ∧
      (asking (.setMode .run) standby).offers ⟨7, .setMode .run⟩ [] ∧ standby.site.mode = .standby ∧
      (asking (.setMode .other) loaded).offers ⟨7, .setMode .other⟩ [] ∧
      (asking (.setMode .run) State.reset).offers ⟨7, .setMode .run⟩ [] ∧
      State.reset.site.mode = .unconfigured :=
  ⟨asking_offers _ _ (by decide) rfl, rfl, ⟨fun r => by cases r <;> decide, by decide⟩,
    fun h => absurd (h .r1) (by decide), asking_offers _ _ (by decide) rfl, rfl,
    asking_offers _ _ (by decide) rfl, asking_offers _ _ (by decide) rfl, rfl⟩

theorem test_witness_ModeResetAndStatus_requests :
    (asking .resetPart loaded).offers ⟨7, .resetPart⟩ [] ∧
      (loaded.fire.pulse = none ∧
        ∀ r, loaded.rackState r = .opened ∨ loaded.rackState r = .locked ∨
          loaded.rackState r = .fault) ∧
      (withUnit (fun x => { x with pulse := some 0 }) 0).fire.pulse ≠ none ∧
      (asking .readStatus loaded).offers ⟨7, .readStatus⟩ [] :=
  ⟨asking_offers _ _ (by decide) rfl, ⟨by decide, fun r => by cases r <;> decide⟩, by decide,
    asking_offers _ _ (by decide) rfl⟩

end Sys2Proof.Tests
end

/-!
PROOFS. Two statements of chapter 2: the conversion of cell voltage and junction codes (R27, R28),
and TRACE_CLEAR (R47). First what the operations they speak of do, then the statements.
-/

namespace Sys2Proof.Machine

/-! ## What the conversions give -/

/-- For a divisor that is not negative, `floorDiv` is the quotient rounded toward minus infinity. -/
theorem floorDiv_eq_fdiv (a : Int) {b : Int} (hb : 0 ≤ b) : floorDiv a b = Int.fdiv a b :=
  (Int.fdiv_eq_ediv_of_nonneg a hb).symm

/-- The unsigned code of a failed conversion, read as a number. -/
theorem code_eq_65535_iff (code : Code) : code = 65535#16 ↔ code.toNat = 65535 :=
  BitVec.toNat_inj.symm

/-- The signed code of a failed conversion, read as a number. -/
theorem code_eq_32768_iff (code : Code) : code = 32768#16 ↔ code.toInt = -32768 :=
  BitVec.toInt_inj.symm

/-- R27, read over the integers. -/
theorem convertCellVoltage_eq (cal : CalEntry) (code : Code) :
    let raw : Int := code.toNat
    let mV := Int.fdiv ((raw + cal.offset) * cal.gain + 163840) 327680
    convertCellVoltage cal code =
      if raw = 65535 then .invalid
      else if raw + cal.offset < 0 then .value 0 false
      else if mV > 5000 then .value 5000 true
      else .value mV false := by
  have hcode : code = 65535#16 ↔ (code.toNat : Int) = 65535 :=
    (code_eq_65535_iff code).trans (by omega)
  simp only [convertCellVoltage, hcode, gt_iff_lt,
    floorDiv_eq_fdiv _ (show (0 : Int) ≤ 327680 by decide)]

/-- The code 65535 of a cell voltage is a failed conversion (R27). -/
theorem convertCellVoltage_invalid (cal : CalEntry) :
    convertCellVoltage cal 65535#16 = .invalid := rfl

/-- R28 for the two voltages, read over the integers. -/
theorem convertBusVoltage_eq (cal : CalEntry) (code : Code) :
    let raw : Int := code.toNat
    let v := Int.fdiv ((raw + cal.offset) * cal.gain + 16384) 32768
    convertBusVoltage cal code =
      if code.toNat = 65535 then .invalid
      else if raw + cal.offset < 0 then .value 0 false
      else if v > 10000 then .value 10000 true
      else .value v false := by
  simp only [convertBusVoltage, code_eq_65535_iff, gt_iff_lt,
    floorDiv_eq_fdiv _ (show (0 : Int) ≤ 32768 by decide)]

/-- A saturated value marked RANGE where it was cut, as a choice among the three ranges it may lie
in. -/
theorem saturated_value_eq (lo hi v : Int) :
    Converted.value (saturate lo hi v) (decide (v < lo) || decide (hi < v)) =
      if v < lo then .value lo true else if v > hi then .value hi true else .value v false := by
  unfold saturate
  by_cases hlo : v < lo
  · simp [hlo]
  · by_cases hhi : hi < v <;> simp [hlo, hhi]

/-- R28 for the rack current, read over the integers. -/
theorem convertCurrent_eq (cal : CalEntry) (code : Code) :
    let v := Int.fdiv ((code.toInt + cal.offset) * cal.gain + 16384) 32768
    convertCurrent cal code =
      if code.toInt = -32768 then .invalid
      else if v < -5000 then .value (-5000) true
      else if v > 5000 then .value 5000 true
      else .value v false := by
  simp only [convertCurrent, code_eq_32768_iff, saturated_value_eq,
    floorDiv_eq_fdiv _ (show (0 : Int) ≤ 32768 by decide)]

/-! ## Which conversion a channel takes -/

section Convert
variable {s : State} {bank : Bank} {e : SlotEntry} {channel : Nat}

theorem convert_cellVoltage (hcal : (s.table .cal).active = some bank) (he : e.nodeKind = .cell)
    (hch : channel < 16) (code : Code) :
    s.convert e channel code = convertCellVoltage (calEntry bank e.node channel) code := by
  simp [State.convert, hcal, he, hch]

theorem convert_current (hcal : (s.table .cal).active = some bank) (he : e.nodeKind = .junction)
    (hch : channel = 0) (code : Code) :
    s.convert e channel code = convertCurrent (calEntry bank e.node channel) code := by
  simp [State.convert, hcal, he, hch]

theorem convert_busVoltage (hcal : (s.table .cal).active = some bank) (he : e.nodeKind = .junction)
    (hch : channel = 1 ∨ channel = 2) (code : Code) :
    s.convert e channel code = convertBusVoltage (calEntry bank e.node channel) code := by
  have h0 : channel ≠ 0 := by omega
  have h3 : channel < 3 := by omega
  simp [State.convert, hcal, he, h0, h3]

end Convert

/-! ## Reading a record after an update -/

/-- A record found stands under the node and channel it was looked up by. -/
theorem record_key {s : State} {node channel : Nat} {r : Record}
    (h : s.record node channel = some r) : r.node = node ∧ r.channel = channel := by
  simpa using List.find?_some h

/-- An update of a record that keeps its node and channel shows in that record. -/
theorem record_mapRecord {s : State} {node channel : Nat} {f : Record → Record}
    (hf : ∀ r, (f r).node = r.node ∧ (f r).channel = r.channel) :
    (mapRecord node channel f s).record node channel = (s.record node channel).map f := by
  simp only [State.record, mapRecord, State.withSamples_samples]
  induction s.samples.records with
  | nil => rfl
  | cons r rs ih =>
    obtain ⟨hnode, hchannel⟩ := hf r
    by_cases hr : r.node = node ∧ r.channel = channel
    · simp [hr, hnode, hchannel]
    · simpa [hr] using ih

/-- Working BLIND out again leaves the records (R42). -/
theorem refreshBlindOf_record (o : Option Rack) (s : State) (node channel : Nat) :
    (refreshBlindOf o s).record node channel = s.record node channel := by
  cases o with
  | none => rfl
  | some r =>
    simp only [refreshBlindOf, refreshBlind]
    split <;> rfl

/-- A record made INVALID keeps all but its quality (R30). -/
theorem record_invalidate {s : State} {node channel : Nat} {r : Record}
    (h : s.record node channel = some r) :
    (invalidate r s).record node channel = some { r with quality := .invalid } := by
  obtain ⟨rfl, rfl⟩ := record_key h
  rw [invalidate, refreshBlindOf_record,
    record_mapRecord (f := ({ · with quality := .invalid })) fun _ => ⟨rfl, rfl⟩, h]
  rfl

/-- A code that converts to "conversion invalid" makes its record INVALID (R30). -/
theorem fileCode_of_convert_invalid {s : State} {e : SlotEntry} {channel : Nat} {code : Code}
    {r : Record} (stamp : PartTime) (hr : s.record e.node channel = some r)
    (hc : s.convert e channel code = .invalid) :
    fileCode e stamp channel code s = invalidate r s := by
  simp only [fileCode, hr, hc]

/-! ## What TRACE_CLEAR's owner answers -/

/-- A traced channel is the one whose entry stands at its index. -/
theorem traced_eq_some_iff (s : State) (node channel : Nat) (t : TraceEntry) :
    s.traced node channel = some t ↔
      s.samples.trace[traceIndex node channel]? = some (some t) ∧ t.node = node ∧
        t.channel = channel := by
  unfold State.traced
  split
  · next e he =>
    rw [he]
    simp only [Bool.and_eq_true, decide_eq_true_eq, Option.ite_none_right_eq_some,
      Option.some.injEq]
    constructor
    · rintro ⟨⟨hn, hc⟩, rfl⟩; exact ⟨rfl, hn, hc⟩
    · rintro ⟨rfl, hn, hc⟩; exact ⟨⟨hn, hc⟩, rfl⟩
  · next hne => simpa using fun h => absurd h (hne t)

/-- A node and channel held at their index, in the words of R47. -/
theorem exists_traced_iff (s : State) (node channel : Nat) :
    (∃ t, s.traced node channel = some t) ↔
      ∃ n, s.samples.trace[traceIndex node channel]? = some (some ⟨node, channel, n⟩) := by
  simp only [traced_eq_some_iff]
  constructor
  · rintro ⟨⟨_, _, n⟩, ht, rfl, rfl⟩; exact ⟨n, ht⟩
  · rintro ⟨n, hn⟩; exact ⟨_, hn, rfl, rfl⟩

/-- Clearing a channel that is held empties its entry (R47). -/
theorem answerTraceClear_of_traced {s : State} {node channel : Nat}
    (h : ∃ t, s.traced node channel = some t) :
    answerTraceClear (.one node channel) s =
      ⟨setTrace (traceIndex node channel) none s, .ok, .nothing⟩ := by
  obtain ⟨t, ht⟩ := h
  simp only [answerTraceClear, ht]

/-- Clearing a channel that is not held changes nothing (R47). -/
theorem answerTraceClear_of_not_traced {s : State} {node channel : Nat}
    (h : ¬ ∃ t, s.traced node channel = some t) :
    answerTraceClear (.one node channel) s = ⟨s, .already, .nothing⟩ := by
  have hnone : s.traced node channel = none := Option.eq_none_iff_forall_ne_some.2 (not_exists.1 h)
  simp only [answerTraceClear, hnone]

/-- A request step of TRACE_CLEAR that is offered. -/
theorem exec_traceClear_offered {s : State} {tag : Byte} {target : TraceTarget}
    {rest : List Tagged} (h : s.offers ⟨tag, .traceClear target⟩ rest) :
    exec (.traceClear tag target) s =
      .next (arbitrate (takeRequest tag (.traceClear target) (answerTraceClear target) s)) :=
  serve_offered h _

/-- A request that is taken and changes the sample processor only. -/
theorem takeRequest_withSamples {s : State} {tag : Byte} {q : Request} {rest : List Tagged}
    (h : s.offers ⟨tag, q⟩ rest) {owner : State → Answer} {x : Samples} {result : Result}
    {body : ReplyBody}
    (ho : owner (s.taking rest) = ⟨(s.taking rest).withSamples x, result, body⟩) :
    takeRequest tag q owner s = (s.withSamples x).answered ⟨tag, q⟩ rest result body := by
  rw [takeRequest_offered h, ho]
  rfl

/-! ## The statements -/

/-- Settles O26: each conversion read over the integers, the conversion each channel takes, and the
record after the code of a failed conversion. -/
theorem calibratedConversions : Obligations.CalibratedConversions := by
  refine ⟨convertCellVoltage_eq, ?cell, rfl, ?invalid, ?junction⟩
  case cell => exact fun s bank e channel code hcal he hch => convert_cellVoltage hcal he hch code
  case invalid =>
    intro s bank e channel stamp r hcal he hch hr
    have hinvalid : s.convert e channel 65535#16 = .invalid :=
      (convert_cellVoltage hcal he hch _).trans (convertCellVoltage_invalid _)
    rw [fileCode_of_convert_invalid stamp hr hinvalid]
    exact record_invalidate hr
  case junction =>
    intro s bank e channel code hcal he
    exact ⟨fun hch => (convert_current hcal he hch code).trans (convertCurrent_eq _ code),
      fun hch => (convert_busVoltage hcal he hch code).trans (convertBusVoltage_eq _ code)⟩

/-- Settles O31: a request that is offered is answered by its owner, whose answer depends on whether
the channel is traced. -/
theorem traceClearRule : Obligations.TraceClearRule := by
  intro tag rest s _
  refine ⟨fun node channel ho => ⟨fun hheld => ?held, fun hfree => ?free⟩, fun ho => ?all⟩
  case held =>
    have htraced : ∃ t, (s.taking rest).traced node channel = some t :=
      (exists_traced_iff s node channel).2 hheld
    rw [exec_traceClear_offered ho,
      takeRequest_withSamples ho (answerTraceClear_of_traced htraced)]
    rfl
  case free =>
    have htraced : ¬ ∃ t, (s.taking rest).traced node channel = some t :=
      fun h => hfree ((exists_traced_iff s node channel).1 h)
    rw [exec_traceClear_offered ho,
      takeRequest_refused ho _ _ _ (answerTraceClear_of_not_traced htraced)]
  case all =>
    refine ⟨List.replicate 32 none, List.length_replicate, fun e => List.eq_of_mem_replicate, ?_⟩
    rw [exec_traceClear_offered ho, takeRequest_withSamples ho rfl]
    rfl

end Sys2Proof.Machine

/-!
PROOFS. Two statements of chapter 3: the voltage and SOC tapers (R60, R61), and the accounting of a
rack's charge (R52 to R57). First the tapers and what they read, then the parts of the accounting.
-/

namespace Sys2Proof.Machine

/-! ## The share of the way to a limit -/

/-- Both taper formulas: a floor of a share that is not negative is a natural number. -/
theorem toNat_floorDiv_eq_fdiv {a b : Int} (ha : 0 ≤ a) (hb : 0 ≤ b) :
    ((floorDiv a b).toNat : Int) = Int.fdiv a b := by
  rw [floorDiv_eq_fdiv a hb, Int.toNat_of_nonneg (Int.fdiv_nonneg ha hb)]

/-! ## The voltage tapers (R60) -/

theorem chargeTaper_of_le_start {d : DerateRecord} {v : AtChannel} (h : v.value ≤ d.chargeStart) :
    chargeTaper d (some v) = 1024 := by
  simp [chargeTaper, h]

theorem chargeTaper_of_between {d : DerateRecord} {v : AtChannel}
    (hstart : d.chargeStart < v.value) (hend : v.value < d.chargeEnd) :
    (chargeTaper d (some v) : Int) =
      Int.fdiv (1024 * (d.chargeEnd - v.value)) (d.chargeEnd - d.chargeStart) := by
  simp only [chargeTaper, if_neg (not_le.2 hstart), if_neg (not_le.2 hend)]
  exact toNat_floorDiv_eq_fdiv (by omega) (by omega)

theorem chargeTaper_of_end_le {d : DerateRecord} {v : AtChannel} (hd : d.chargeStart < d.chargeEnd)
    (h : d.chargeEnd ≤ v.value) : chargeTaper d (some v) = 0 := by
  have hstart : ¬ v.value ≤ d.chargeStart := by omega
  simp only [chargeTaper, if_neg hstart, if_pos h]

theorem dischargeTaper_of_start_le {d : DerateRecord} {v : AtChannel}
    (h : d.dischargeStart ≤ v.value) : dischargeTaper d (some v) = 1024 := by
  simp [dischargeTaper, h]

theorem dischargeTaper_of_between {d : DerateRecord} {v : AtChannel}
    (hend : d.dischargeEnd < v.value) (hstart : v.value < d.dischargeStart) :
    (dischargeTaper d (some v) : Int) =
      Int.fdiv (1024 * (v.value - d.dischargeEnd)) (d.dischargeStart - d.dischargeEnd) := by
  simp only [dischargeTaper, if_neg (not_le.2 hstart), if_neg (not_le.2 hend)]
  exact toNat_floorDiv_eq_fdiv (by omega) (by omega)

theorem dischargeTaper_of_le_end {d : DerateRecord} {v : AtChannel}
    (hd : d.dischargeEnd < d.dischargeStart) (h : v.value ≤ d.dischargeEnd) :
    dischargeTaper d (some v) = 0 := by
  have hstart : ¬ d.dischargeStart ≤ v.value := by omega
  simp only [dischargeTaper, if_neg hstart, if_pos h]

/-! ## The SOC tapers (R61) -/

theorem chargeSoc_of_le_start {d : DerateRecord} {soc : Nat} (h : soc ≤ d.socChargeStart) :
    chargeSoc d soc = 1024 :=
  if_pos h

theorem chargeSoc_of_start_lt {d : DerateRecord} {soc : Nat} (h : d.socChargeStart < soc) :
    chargeSoc d soc = 1024 * (10000 - soc) / (10000 - d.socChargeStart) :=
  if_neg (not_le.2 h)

theorem dischargeSoc_of_start_le {d : DerateRecord} {soc : Nat} (h : d.socDischargeStart ≤ soc) :
    dischargeSoc d soc = 1024 :=
  if_pos h

theorem dischargeSoc_of_lt_start {d : DerateRecord} {soc : Nat} (h : soc < d.socDischargeStart) :
    dischargeSoc d soc = 1024 * soc / d.socDischargeStart :=
  if_neg (not_le.2 h)

/-- In quality UNKNOWN both SOC factors of an evaluation are the cap (R61). -/
theorem factorsNow_soc_of_unknown {s : State} {r : Rack} (e : RackEntry) (d : DerateRecord)
    (h : (s.limits.racks.get r).quality = .unknown) :
    (s.factorsNow r e d).charge.soc = d.unknownCap ∧
      (s.factorsNow r e d).discharge.soc = d.unknownCap := by
  simp [State.factorsNow, makeFactors, h]

/-- In any other quality the SOC factors of an evaluation are the tapers of the rack's SOC (R61). -/
theorem factorsNow_soc_of_ne_unknown {s : State} {r : Rack} {soc : Nat} (e : RackEntry)
    (d : DerateRecord) (hsoc : s.soc r = some soc)
    (h : (s.limits.racks.get r).quality ≠ .unknown) :
    (s.factorsNow r e d).charge.soc = chargeSoc d soc ∧
      (s.factorsNow r e d).discharge.soc = dischargeSoc d soc := by
  simp [State.factorsNow, makeFactors, h, hsoc]

/-! ## The highest fresh voltage (R40) -/

/-- A RANGE record is fresh (R23). -/
theorem freshValue_of_range {x : Record} (h : x.quality = .range) : x.freshValue = x.value := by
  simp [Record.freshValue, h, Quality.isFresh]

section Extreme
variable {better : Int → Int → Bool} {xs : List Record} {x : Record} {v : Int} {b : AtChannel}

theorem extreme_concat_of_not_fresh (hx : x.freshValue = none) :
    extreme better (xs ++ [x]) = extreme better xs := by
  simp [extreme, hx]

theorem extreme_concat_of_none (hx : x.freshValue = some v) (h : extreme better xs = none) :
    extreme better (xs ++ [x]) = some ⟨v, x.node, x.channel⟩ := by
  simp only [extreme] at h
  simp [extreme, hx, h]

theorem extreme_concat_of_some (hx : x.freshValue = some v) (h : extreme better xs = some b) :
    extreme better (xs ++ [x]) =
      some (if better v b.value then ⟨v, x.node, x.channel⟩ else b) := by
  simp only [extreme] at h
  simp only [extreme, List.foldl_append, List.foldl_cons, List.foldl_nil, hx, h]
  split <;> rfl

end Extreme

/-- The extreme does not fall when a record joins the list. -/
theorem extreme_concat_ge {xs : List Record} {m : AtChannel} (x : Record)
    (hm : extreme (fun a b => decide (b < a)) xs = some m) :
    ∃ k, extreme (fun a b => decide (b < a)) (xs ++ [x]) = some k ∧ m.value ≤ k.value := by
  cases hx : x.freshValue with
  | none => exact ⟨m, (extreme_concat_of_not_fresh hx).trans hm, le_rfl⟩
  | some w =>
    refine ⟨_, extreme_concat_of_some hx hm, ?_⟩
    by_cases h : m.value < w
    · simpa [h] using h.le
    · simp [h]

/-- The greatest fresh value of a list is at or above every fresh value of it. -/
theorem le_extreme_of_mem {xs : List Record} {x : Record} {v : Int} (hmem : x ∈ xs)
    (hv : x.freshValue = some v) :
    ∃ m, extreme (fun a b => decide (b < a)) xs = some m ∧ v ≤ m.value := by
  induction xs using List.reverseRecOn with
  | nil => cases hmem
  | append_singleton ys y ih =>
    rcases List.mem_append.1 hmem with hys | hy
    · obtain ⟨m, hm, hle⟩ := ih hys
      obtain ⟨k, hk, hmk⟩ := extreme_concat_ge y hm
      exact ⟨k, hk, hle.trans hmk⟩
    · obtain rfl := List.mem_singleton.1 hy
      cases hbest : extreme (fun a b => decide (b < a)) ys with
      | none => exact ⟨_, extreme_concat_of_none hv hbest, le_rfl⟩
      | some b =>
        refine ⟨_, extreme_concat_of_some hv hbest, ?_⟩
        by_cases h : b.value < v
        · simp [h]
        · simp [h, le_of_not_gt h]

/-- Vmax is at or above every fresh cell voltage of the rack (R40). -/
theorem le_vmax_of_fresh {s : State} {r : Rack} {x : Record} {v : Int}
    (hmem : x ∈ s.samples.records) (hrack : x.rack = some r) (hkind : x.kind = .cellVoltage)
    (hv : x.freshValue = some v) : ∃ m, (s.aggregatesOf r).vmax = some m ∧ v ≤ m.value :=
  le_extreme_of_mem (by simp [State.rackRecords, hmem, hrack, hkind]) hv

/-! ## Moving the charge (R52) -/

section AddCharge
variable {qmax q r : Nat} {t : Int}

/-- `addCharge` with its quotient as the floor toward minus infinity. -/
theorem addCharge_eq (qmax q : Nat) (t : Int) :
    addCharge qmax q t =
      if q + Int.fdiv t 10 < 0 then (0, 0)
      else if qmax < q + Int.fdiv t 10 then (qmax, 0)
      else ((q + Int.fdiv t 10).toNat, (t - 10 * Int.fdiv t 10).toNat) := by
  simp only [addCharge, floorDiv_eq_fdiv _ (show (0 : Int) ≤ 10 by decide)]

theorem addCharge_of_neg (h : q + Int.fdiv t 10 < 0) : addCharge qmax q t = (0, 0) := by
  rw [addCharge_eq, if_pos h]

theorem addCharge_of_full (h : qmax < q + Int.fdiv t 10) : addCharge qmax q t = (qmax, 0) := by
  rw [addCharge_eq, if_neg (by omega), if_pos h]

theorem addCharge_of_mem (h0 : 0 ≤ q + Int.fdiv t 10) (h1 : q + Int.fdiv t 10 ≤ qmax) :
    addCharge qmax q t = ((q + Int.fdiv t 10).toNat, (t - 10 * Int.fdiv t 10).toNat) := by
  rw [addCharge_eq, if_neg (by omega), if_neg (by omega)]

/-- The charge stays within 0..Qmax. -/
theorem addCharge_le (qmax q : Nat) (t : Int) : (addCharge qmax q t).1 ≤ qmax := by
  rcases lt_or_ge (q + Int.fdiv t 10) 0 with hneg | h0
  · simp [addCharge_of_neg hneg]
  · rcases lt_or_ge (qmax : Int) (q + Int.fdiv t 10) with hfull | h1
    · simp [addCharge_of_full hfull]
    · simp only [addCharge_of_mem h0 h1]
      omega

/-- The tenths left over are those of a floor toward minus infinity. -/
theorem tenths_mem (t : Int) : 0 ≤ t - 10 * Int.fdiv t 10 ∧ t - 10 * Int.fdiv t 10 ≤ 9 := by
  rw [Int.fdiv_eq_ediv_of_nonneg t (by decide)]
  omega

/-- What R52 says of the charge and the tenths after `t` tenths. -/
theorem addCharge_spec (qmax q : Nat) (t : Int) :
    let moved : Int := q + Int.fdiv t 10
    let c := addCharge qmax q t;
    (moved < 0 → c.1 = 0 ∧ c.2 = 0) ∧ (qmax < moved → c.1 = qmax ∧ c.2 = 0) ∧
      (0 ≤ moved → moved ≤ qmax → (c.1 : Int) = moved ∧ (c.2 : Int) = t - 10 * Int.fdiv t 10) ∧
      c.1 ≤ qmax := by
  refine ⟨fun h => ?_, fun h => ?_, fun h0 h1 => ?_, addCharge_le qmax q t⟩
  · simp [addCharge_of_neg h]
  · simp [addCharge_of_full h]
  · simp only [addCharge_of_mem h0 h1]
    exact ⟨Int.toNat_of_nonneg h0, Int.toNat_of_nonneg (tenths_mem t).1⟩

/-- A millisecond of -1 dA with no tenth carried takes a mAs and leaves nine tenths. -/
theorem addCharge_neg_one_borrow (h1 : 1 ≤ q) (hq : q ≤ qmax) :
    addCharge qmax q (-1 * 1 + 0) = (q - 1, 9) := by
  have hdiv : Int.fdiv (-1 * 1 + 0) 10 = -1 := by decide
  rw [addCharge_of_mem (by omega) (by omega), hdiv]
  simp only [Prod.mk.injEq]
  omega

/-- A millisecond of -1 dA with tenths carried takes one of them. -/
theorem addCharge_neg_one_carried (hq : q ≤ qmax) (h1 : 1 ≤ r) (h9 : r ≤ 9) :
    addCharge qmax q (-1 * 1 + r) = (q, r - 1) := by
  have hdiv : Int.fdiv (-1 * 1 + r) 10 = 0 := by
    rw [Int.fdiv_eq_ediv_of_nonneg _ (by decide)]
    omega
  rw [addCharge_of_mem (by omega) (by omega), hdiv]
  simp only [Prod.mk.injEq]
  omega

/-- Milliseconds of -1 dA take a carried tenth each, while there are any. -/
theorem foldl_addCharge_carried (hq : q ≤ qmax) (ms : List Nat) (hr : ms.length ≤ r) (h9 : r ≤ 9) :
    ms.foldl (fun (p : Nat × Nat) _ => addCharge qmax p.1 (-1 * 1 + p.2)) (q, r) =
      (q, r - ms.length) := by
  induction ms generalizing r with
  | nil => rfl
  | cons m ms ih =>
    rw [List.length_cons] at hr
    rw [List.foldl_cons, addCharge_neg_one_carried hq (by omega) h9, ih (by omega) (by omega),
      List.length_cons, Nat.sub_sub, Nat.add_comm 1]

/-- Ten milliseconds of -1 dA take a mAs exactly. -/
theorem foldl_addCharge_ten (h1 : 1 ≤ q) (hq : q ≤ qmax) :
    (List.range 10).foldl (fun (p : Nat × Nat) _ => addCharge qmax p.1 (-1 * 1 + p.2)) (q, 0) =
      (q - 1, 0) := by
  rw [List.range_eq_range', List.range'_succ, List.foldl_cons, Nat.cast_zero,
    addCharge_neg_one_borrow h1 hq]
  exact foldl_addCharge_carried (by omega) _ le_rfl le_rfl

end AddCharge

theorem saturate_of_mem {lo hi x : Int} (hlo : lo ≤ x) (hhi : x ≤ hi) : saturate lo hi x = x := by
  rw [saturate, if_neg (not_lt.2 hlo), if_neg (not_lt.2 hhi)]

/-- A sample no more than 2000 ms after the last adds the current times that time (R51, R52). -/
theorem integrate_eq_addCharge {x : RackCharge} {qmax : Nat} {i : Int} {last stamp : PartTime}
    (hquality : x.quality ≠ .unknown) (hlast : x.lastStamp = some last)
    (h1 : (1 : Int) ≤ elapsed stamp last) (h2000 : (elapsed stamp last : Int) ≤ 2000) :
    (x.integrate qmax i stamp).q = (addCharge qmax x.q (i * elapsed stamp last + x.r)).1 ∧
      (x.integrate qmax i stamp).r = (addCharge qmax x.q (i * elapsed stamp last + x.r)).2 := by
  simp [RackCharge.integrate, hlast, hquality, saturate_of_mem h1 h2000]

/-- The tenths a sample adds, at the greatest current and time. -/
theorem current_mul_time_mem {i dt : Int} (hi : -5000 ≤ i) (hi' : i ≤ 5000) (h1 : 1 ≤ dt)
    (h2000 : dt ≤ 2000) : -10000000 ≤ i * dt ∧ i * dt ≤ 10000000 := by
  constructor <;> nlinarith

/-! ## SOC_ANCHOR -/

section Site
variable (s : State) (r : Rack) (x : RackCharge)

theorem get_setRackCharge_self : (s.setRackCharge r x).limits.racks.get r = x :=
  PerRack.get_set_self _ r x

/-- Writing a rack's charge posts nothing. -/
theorem setRackCharge_spec : (s.setRackCharge r x).limits.racks.get r = x ∧
    (s.setRackCharge r x).site = s.site :=
  ⟨get_setRackCharge_self s r x, rfl⟩

/-- No event reads the charge of a rack when it is posted. -/
theorem post_setRackCharge_site (e : Event) : (post e (s.setRackCharge r x)).site =
    (post e s).site := by
  by_cases hroom : s.site.events.length < 32
  · rw [post, post, if_pos hroom,
      if_pos (c := (s.setRackCharge r x).site.events.length < 32) hroom]
    rfl
  · rw [post, post, if_neg hroom,
      if_neg (c := (s.setRackCharge r x).site.events.length < 32) hroom]
    rfl

/-- Posting an event leaves the SOC of every rack alone. -/
@[simp] theorem soc_post (e : Event) : (post e s).soc r = s.soc r := by
  have hlimits : (post e s).limits = s.limits := post_sameBut e s .limits (by decide)
  have htables : (post e s).tables = s.tables := post_sameBut e s .tables (by decide)
  simp only [State.soc, State.rackConfig, State.rackEntry, State.table, hlimits, htables]

@[simp] theorem postAnchor_limits (k : AnchorKind) (before : RackCharge) (stamp : PartTime) :
    (postAnchor r k before stamp s).limits = s.limits :=
  post_sameBut _ s .limits (by decide)

/-- A correction of a rack's charge: the charge written, and SOC_ANCHOR with the charge before and
after, the quality before and the SOC worked out again (R55, R57). -/
theorem postAnchor_setRackCharge_spec (k : AnchorKind) (before : RackCharge) (stamp : PartTime) :
    let t := postAnchor r k before stamp (s.setRackCharge r x)
    t.limits.racks.get r = x ∧ t.site =
      (post (.socAnchor r k before.q x.q before.quality (t.soc r) stamp) s).site := by
  refine ⟨by simp, ?_⟩
  simp only [postAnchor, soc_post, post_setRackCharge_site, get_setRackCharge_self]

end Site

/-! ## The anchors (R54, R55) -/

theorem topHolds_iff (d : DerateRecord) (vmax : Option AtChannel) (i : Int) :
    topHolds d vmax i = true ↔
      0 < i ∧ i ≤ d.taperCurrent ∧ ∃ v, vmax = some v ∧ d.topAnchor ≤ v.value := by
  cases vmax with
  | none => simp [topHolds]
  | some v =>
    simp only [topHolds, Bool.and_eq_true, decide_eq_true_eq, Option.some.injEq, exists_eq_left']
    tauto

theorem bottomHolds_iff (d : DerateRecord) (vmin : Option AtChannel) (i : Int) :
    bottomHolds d vmin i = true ↔
      -(d.taperCurrent : Int) ≤ i ∧ i ≤ 0 ∧ ∃ v, vmin = some v ∧ v.value ≤ d.bottomAnchor := by
  cases vmin with
  | none => simp [bottomHolds]
  | some v =>
    simp only [bottomHolds, Bool.and_eq_true, decide_eq_true_eq, Option.some.injEq, exists_eq_left']
    tauto

/-- A count whose condition holds goes up to the persistence; any other is cleared. -/
theorem anchorCount_eq {persistence n : Nat} (due holds : Bool) (h : n ≤ persistence) :
    (anchorCount persistence n due holds).1 =
      if holds = true then min persistence (n + 1) else 0 := by
  cases holds with
  | false => rfl
  | true =>
    simp only [anchorCount, countUp, if_true]
    split <;> omega

/-- An anchor that no swap left due is taken when its count reaches the persistence from below. -/
theorem anchorCount_taken_iff {persistence n : Nat} (holds : Bool) (h : n ≤ persistence) :
    (anchorCount persistence n false holds).2 = true ↔ holds = true ∧ n + 1 = persistence := by
  cases holds with
  | false => simp [anchorCount]
  | true =>
    rcases h.lt_or_eq with hlt | rfl
    · simp only [anchorCount, countUp, hlt, if_true, Bool.false_or, decide_true, Bool.true_and,
        decide_eq_true_eq, true_and]
      omega
    · simp [anchorCount, countUp]

/-- The anchor counts of a rack of a state, and the anchor its anchor check takes. -/
def State.countedAnchors (s : State) (r : Rack) (d : DerateRecord)
    (fresh : Option (Int × PartTime)) : RackCharge × Option AnchorKind :=
  (s.limits.racks.get r).countAnchors d (s.samples.racks.get r).aggregates
    (s.samples.racks.get r).blind fresh

section Anchor
variable {s : State} {r : Rack} {d : DerateRecord} {fresh : Option (Int × PartTime)} {i : Int}
  {stamp : PartTime}

theorem anchorCheck_of_not_taken (e : RackEntry) (h : (s.countedAnchors r d fresh).2 = none) :
    anchorCheck r e d fresh s = s.setRackCharge r (s.countedAnchors r d fresh).1 := by
  simp only [State.countedAnchors] at h
  simp only [anchorCheck, State.countedAnchors, h]

theorem anchorCheck_of_taken (e : RackEntry) {k : AnchorKind}
    (h : (s.countedAnchors r d (some (i, stamp))).2 = some k) :
    anchorCheck r e d (some (i, stamp)) s =
      let counted := (s.countedAnchors r d (some (i, stamp))).1
      postAnchor r k counted stamp (s.setRackCharge r (counted.anchor e.qmax k)) := by
  simp only [State.countedAnchors] at h
  simp only [anchorCheck, State.countedAnchors, h]

/-- A rack BLIND or without a fresh junction sample has both counts cleared (R54). -/
theorem countedAnchors_of_not_judged
    (h : fresh = none ∨ (s.samples.racks.get r).blind = true) :
    s.countedAnchors r d fresh =
      ({ s.limits.racks.get r with
          topCount := 0, bottomCount := 0, topDue := false, bottomDue := false }, none) := by
  cases fresh with
  | none => rfl
  | some sample =>
    have hblind : (s.samples.racks.get r).blind = true := h.resolve_left (by simp)
    simp only [State.countedAnchors, RackCharge.countAnchors, hblind, if_true]

/-- The counts and the anchor taken of a rack that is judged. -/
theorem countedAnchors_of_judged (hblind : (s.samples.racks.get r).blind = false) :
    s.countedAnchors r d (some (i, stamp)) =
      let x := s.limits.racks.get r
      let y := s.samples.racks.get r
      let top := anchorCount d.anchorPersistence x.topCount x.topDue
        (topHolds d y.aggregates.vmax i)
      let bottom := anchorCount d.anchorPersistence x.bottomCount x.bottomDue
        (bottomHolds d y.aggregates.vmin i)
      ({ x with topCount := top.1, bottomCount := bottom.1, topDue := false, bottomDue := false },
        if top.2 then some .top else if bottom.2 then some .bottom else none) := by
  simp [State.countedAnchors, RackCharge.countAnchors, hblind]

/-- Counting the anchor conditions leaves the charge alone. -/
theorem countedAnchors_keeps (s : State) (r : Rack) (d : DerateRecord)
    (fresh : Option (Int × PartTime)) :
    let x := s.limits.racks.get r
    let counted := (s.countedAnchors r d fresh).1
    counted.q = x.q ∧ counted.r = x.r ∧ counted.quality = x.quality ∧
      counted.restStart = x.restStart := by
  by_cases h : fresh = none ∨ (s.samples.racks.get r).blind = true
  · simp [countedAnchors_of_not_judged h]
  · obtain ⟨hfresh, hblind⟩ := not_or.1 h
    obtain ⟨⟨i, stamp⟩, rfl⟩ := Option.ne_none_iff_exists'.1 hfresh
    simp [countedAnchors_of_judged (Bool.eq_false_iff.2 hblind)]

/-- Taking an anchor leaves the counts as they were counted. -/
theorem anchorCheck_counts (s : State) (r : Rack) (e : RackEntry) (d : DerateRecord) (i : Int)
    (stamp : PartTime) :
    let after := (anchorCheck r e d (some (i, stamp)) s).limits.racks.get r
    let counted := (s.countedAnchors r d (some (i, stamp))).1
    after.topCount = counted.topCount ∧ after.bottomCount = counted.bottomCount := by
  cases h : (s.countedAnchors r d (some (i, stamp))).2 with
  | none => simp [anchorCheck_of_not_taken e h]
  | some k => simp [anchorCheck_of_taken e h, RackCharge.anchor]

theorem anchorCheck_topCount (e : RackEntry) (hblind : (s.samples.racks.get r).blind = false)
    (hcount : (s.limits.racks.get r).topCount ≤ d.anchorPersistence) :
    ((anchorCheck r e d (some (i, stamp)) s).limits.racks.get r).topCount =
      if topHolds d (s.samples.racks.get r).aggregates.vmax i = true then
        min d.anchorPersistence ((s.limits.racks.get r).topCount + 1)
      else 0 := by
  rw [(anchorCheck_counts s r e d i stamp).1, countedAnchors_of_judged hblind]
  exact anchorCount_eq _ _ hcount

theorem anchorCheck_bottomCount (e : RackEntry) (hblind : (s.samples.racks.get r).blind = false)
    (hcount : (s.limits.racks.get r).bottomCount ≤ d.anchorPersistence) :
    ((anchorCheck r e d (some (i, stamp)) s).limits.racks.get r).bottomCount =
      if bottomHolds d (s.samples.racks.get r).aggregates.vmin i = true then
        min d.anchorPersistence ((s.limits.racks.get r).bottomCount + 1)
      else 0 := by
  rw [(anchorCheck_counts s r e d i stamp).2, countedAnchors_of_judged hblind]
  exact anchorCount_eq _ _ hcount

/-- The counts are cleared, and nothing else happens, while a rack is BLIND or has no fresh junction
sample (R54). -/
theorem anchorCheck_of_not_judged (e : RackEntry) (d : DerateRecord)
    (h : fresh = none ∨ (s.samples.racks.get r).blind = true) :
    anchorCheck r e d fresh s = s.setRackCharge r { s.limits.racks.get r with
      topCount := 0, bottomCount := 0, topDue := false, bottomDue := false } := by
  have hcounted := countedAnchors_of_not_judged (d := d) h
  rw [anchorCheck_of_not_taken e (by rw [hcounted]), hcounted]

/-- No anchor taken leaves the charge and the site link alone. -/
theorem anchorCheck_of_not_taken_spec (e : RackEntry)
    (h : (s.countedAnchors r d fresh).2 = none) :
    let x := s.limits.racks.get r
    let t := anchorCheck r e d fresh s
    let after := t.limits.racks.get r
    after.q = x.q ∧ after.r = x.r ∧ after.quality = x.quality ∧ after.restStart = x.restStart ∧
      t.site = s.site := by
  obtain ⟨hq, hr, hquality, hrest⟩ := countedAnchors_keeps s r d fresh
  simp only [anchorCheck_of_not_taken e h, get_setRackCharge_self]
  exact ⟨hq, hr, hquality, hrest, rfl⟩

/-- An anchor taken sets the charge, ends the rest and posts SOC_ANCHOR (R55). -/
theorem anchorCheck_of_taken_spec (e : RackEntry) {k : AnchorKind}
    (h : (s.countedAnchors r d (some (i, stamp))).2 = some k) :
    let x := s.limits.racks.get r
    let t := anchorCheck r e d (some (i, stamp)) s
    let after := t.limits.racks.get r
    after.q = (if k = .top then e.qmax else 0) ∧ after.r = 0 ∧ after.quality = .known ∧
      after.restStart = none ∧ t.site =
        (post (.socAnchor r k x.q after.q x.quality (t.soc r) stamp) s).site := by
  obtain ⟨hq, -, hquality, -⟩ := countedAnchors_keeps s r d (some (i, stamp))
  obtain ⟨hafter, hsite⟩ := postAnchor_setRackCharge_spec s r
    ((s.countedAnchors r d (some (i, stamp))).1.anchor e.qmax k) k
    (s.countedAnchors r d (some (i, stamp))).1 stamp
  rw [anchorCheck_of_taken e h]
  simp only [hafter]
  refine ⟨rfl, rfl, rfl, rfl, ?_⟩
  rw [hsite, hq, hquality]

/-- The anchor taken, where no swap left a count due, is one whose condition holds and whose count
reaches the persistence (R54). -/
theorem countedAnchors_taken (hblind : (s.samples.racks.get r).blind = false)
    (htopDue : (s.limits.racks.get r).topDue = false)
    (hbottomDue : (s.limits.racks.get r).bottomDue = false)
    (htopCount : (s.limits.racks.get r).topCount ≤ d.anchorPersistence)
    (hbottomCount : (s.limits.racks.get r).bottomCount ≤ d.anchorPersistence) :
    let x := s.limits.racks.get r
    let y := s.samples.racks.get r
    (s.countedAnchors r d (some (i, stamp))).2 =
      if topHolds d y.aggregates.vmax i = true ∧ x.topCount + 1 = d.anchorPersistence then
        some .top
      else if bottomHolds d y.aggregates.vmin i = true ∧
          x.bottomCount + 1 = d.anchorPersistence then some .bottom
      else none := by
  simp only [countedAnchors_of_judged hblind, htopDue, hbottomDue,
    anchorCount_taken_iff _ htopCount, anchorCount_taken_iff _ hbottomCount]

end Anchor

/-- The two anchor conditions exclude each other: one wants a current above 0. -/
theorem not_topHolds_of_bottomHolds {d : DerateRecord} {vmax vmin : Option AtChannel} {i : Int}
    (h : bottomHolds d vmin i = true) : ¬ topHolds d vmax i = true := by
  obtain ⟨-, hi, -⟩ := (bottomHolds_iff d vmin i).1 h
  exact fun htop => absurd ((topHolds_iff d vmax i).1 htop).1 (not_lt.2 hi)

/-! ## The rest and its estimate (R56, R57) -/

section Rest
variable {s : State} {r : Rack} {d : DerateRecord} {fresh : Option (Int × PartTime)} {i : Int}
  {stamp : PartTime} {start : Option PartTime} {blind : Bool}

/-- BLIND or a current above the rest current ends the rest. -/
theorem restAfter_of_ended (h : blind = true ∨ ∃ i stamp, fresh = some (i, stamp) ∧
    d.restCurrent < i.natAbs) : restAfter d blind fresh start = none := by
  rcases h with rfl | ⟨i, stamp, rfl, hi⟩
  · cases fresh <;> simp [restAfter]
  · simp [restAfter, hi]

/-- A small current starts the rest, or goes on with it. -/
theorem restAfter_of_small (h : i.natAbs ≤ d.restCurrent) :
    restAfter d false (some (i, stamp)) start = some (start.getD stamp) := by
  simp [restAfter, not_lt.2 h]

theorem restComplete_some_iff (t : PartTime) :
    restComplete d (some t) stamp = true ↔ d.restTime * 1000 ≤ (stamp - t).toNat :=
  decide_eq_true_iff

/-- The rest is timed in quality UNKNOWN only. -/
theorem restCheck_of_ne_unknown (e : RackEntry) (d : DerateRecord)
    (fresh : Option (Int × PartTime)) (h : (s.limits.racks.get r).quality ≠ .unknown) :
    restCheck r e d fresh s = s.setRackCharge r { s.limits.racks.get r with restStart := none } :=
  if_pos h

/-- A rest that is not complete, or that finds no Vmean or no OCV curve, is timed and nothing else. -/
theorem restCheck_of_timed (e : RackEntry) (hquality : (s.limits.racks.get r).quality = .unknown)
    (h : ∀ i stamp v bank, fresh = some (i, stamp) →
      (s.samples.racks.get r).aggregates.vmean = some v → (s.table .ocv).active = some bank →
      restComplete d (restAfter d (s.samples.racks.get r).blind fresh
        (s.limits.racks.get r).restStart) stamp = false) :
    restCheck r e d fresh s = s.setRackCharge r { s.limits.racks.get r with
      restStart := restAfter d (s.samples.racks.get r).blind fresh
        (s.limits.racks.get r).restStart } := by
  simp only [restCheck, if_neg (not_ne_iff.2 hquality)]
  split
  next i stamp v bank hmean hbank =>
    rw [h i stamp v bank rfl hmean hbank]
    rfl
  next => rfl

theorem restCheck_of_ended (e : RackEntry) (hquality : (s.limits.racks.get r).quality = .unknown)
    (h : (s.samples.racks.get r).blind = true ∨
      ∃ i stamp, fresh = some (i, stamp) ∧ d.restCurrent < i.natAbs) :
    restCheck r e d fresh s = s.setRackCharge r { s.limits.racks.get r with restStart := none } := by
  have hstart := restAfter_of_ended (start := (s.limits.racks.get r).restStart) h
  rw [restCheck_of_timed e hquality fun _ _ _ _ _ _ _ => by rw [hstart]; rfl, hstart]

theorem restCheck_of_no_sample (e : RackEntry) (d : DerateRecord)
    (hquality : (s.limits.racks.get r).quality = .unknown)
    (hblind : (s.samples.racks.get r).blind = false) :
    restCheck r e d none s = s.setRackCharge r (s.limits.racks.get r) := by
  rw [restCheck_of_timed e hquality (by simp), hblind]
  rfl

/-- A rest that is not complete, or that finds no Vmean or no OCV curve, goes on. -/
theorem restCheck_of_small (e : RackEntry) (hquality : (s.limits.racks.get r).quality = .unknown)
    (hblind : (s.samples.racks.get r).blind = false) (hi : i.natAbs ≤ d.restCurrent)
    (h : ¬ d.restTime * 1000 ≤ (stamp - (s.limits.racks.get r).restStart.getD stamp).toNat ∨
      (s.samples.racks.get r).aggregates.vmean = none ∨ (s.table .ocv).active = none) :
    restCheck r e d (some (i, stamp)) s = s.setRackCharge r { s.limits.racks.get r with
      restStart := some ((s.limits.racks.get r).restStart.getD stamp) } := by
  rw [restCheck_of_timed e hquality, hblind, restAfter_of_small hi]
  rintro _ _ v bank ⟨⟩ hmean hbank
  rw [hblind, restAfter_of_small hi, Bool.eq_false_iff, ne_eq, restComplete_some_iff]
  simpa [hmean, hbank] using h

/-- The estimate, with its quotient as the floor toward minus infinity (R57). -/
theorem estimate_eq (x : RackCharge) (qmax : Nat) (curve : List Breakpoint) (vmean : Int) :
    x.estimate qmax curve vmean = { x with
      restStart := none
      r := 0
      quality := .estimated
      q := (Int.fdiv (curveAt vmean curve * qmax) 10000).toNat } := by
  simp only [RackCharge.estimate, floorDiv_eq_fdiv _ (show (0 : Int) ≤ 10000 by decide)]

/-- A complete rest with a Vmean and an OCV curve makes the estimate and posts SOC_ANCHOR. -/
theorem restCheck_of_complete (e : RackEntry) {v : Int} {bank : Bank}
    (hquality : (s.limits.racks.get r).quality = .unknown)
    (hblind : (s.samples.racks.get r).blind = false) (hi : i.natAbs ≤ d.restCurrent)
    (hcomplete : d.restTime * 1000 ≤
      (stamp - (s.limits.racks.get r).restStart.getD stamp).toNat)
    (hmean : (s.samples.racks.get r).aggregates.vmean = some v)
    (hbank : (s.table .ocv).active = some bank) :
    let x := s.limits.racks.get r
    let t := restCheck r e d (some (i, stamp)) s
    let after := t.limits.racks.get r
    after = x.estimate e.qmax (ocvCurve bank) v ∧ t.site =
      (post (.socAnchor r .ocv x.q after.q .unknown (t.soc r) stamp) s).site := by
  intro x t after
  have ht : t = postAnchor r .ocv { x with restStart := some (x.restStart.getD stamp) } stamp
      (s.setRackCharge r (x.estimate e.qmax (ocvCurve bank) v)) := by
    simp only [t, restCheck, if_neg (not_ne_iff.2 hquality), hmean, hbank, hblind,
      restAfter_of_small hi, (restComplete_some_iff _).2 hcomplete, if_true]
    rfl
  obtain ⟨hafter, hsite⟩ := postAnchor_setRackCharge_spec s r
    (x.estimate e.qmax (ocvCurve bank) v) .ocv
    { x with restStart := some (x.restStart.getD stamp) } stamp
  rw [← ht] at hafter hsite
  refine ⟨hafter, hsite.trans ?_⟩
  simp only [after, hafter, x, hquality]

end Rest

/-! ## The evaluation (R49) -/

/-- What is published last in an evaluation leaves the charge as the earlier steps left it. -/
theorem publishRack_rack (r : Rack) (e : RackEntry) (d : DerateRecord) (s : State) :
    (publishRack r e d s).limits.racks.get r = { s.limits.racks.get r with
      factors := some (s.factorsNow r e d)
      limit := s.publishedNow r e (s.factorsNow r e d)
      lastEvaluation := some s.now } := by
  simp [publishRack]

/-- A rack set complete integrates, then checks the anchors, then the rest, and then publishes. -/
theorem limitSetComplete_of_config {s : State} {r : Rack} {e : RackEntry} {d : DerateRecord}
    (he : s.rackConfig r = some e) (hd : s.derate = some d) :
    limitSetComplete r s = publishRack r e d (restCheck r e d (s.junctionFresh r)
      (anchorCheck r e d (s.junctionFresh r) (integrateRack r e (s.junctionFresh r) s))) := by
  simp only [limitSetComplete, he, hd, evaluateRack]

/-! ## Curves (R57, R59) -/

section Curve
variable {v : Int} {p q : Breakpoint} {rest : List Breakpoint}

theorem curveAt_of_le_head (h : v ≤ p.x) : curveAt v (p :: rest) = p.y := by
  cases rest with
  | nil => rfl
  | cons q rest => rw [curveAt, if_pos h]

/-- A curve is read past a breakpoint that the next one stands at or below the value. -/
theorem curveAt_cons_of_le (hpq : p.x < q.x) (h : q.x ≤ v) :
    curveAt v (p :: q :: rest) = curveAt v (q :: rest) := by
  rw [curveAt, if_neg (by omega), if_neg (by omega)]

/-- Of the breakpoints at or below the value only the last is read. -/
theorem curveAt_append_of_le (before : List Breakpoint)
    (hcurve : (before ++ p :: rest).Pairwise (fun a b => a.x < b.x)) (h : p.x ≤ v) :
    curveAt v (before ++ p :: rest) = curveAt v (p :: rest) := by
  induction before with
  | nil => rfl
  | cons a before ih =>
    rw [List.cons_append, List.pairwise_cons] at hcurve
    obtain ⟨ha, hbefore⟩ := hcurve
    rw [← ih hbefore]
    cases before with
    | nil => exact curveAt_cons_of_le (ha p (by simp)) h
    | cons b before =>
      have hbp : b.x < p.x := (List.pairwise_cons.1 hbefore).1 p (by simp)
      exact curveAt_cons_of_le (ha b (by simp)) (by omega)

/-- Between two breakpoints a curve is rounded down. -/
theorem curveAt_of_between (hpq : p.x < q.x) (hp : p.x ≤ v) (hq : v ≤ q.x) :
    curveAt v (p :: q :: rest) = p.y + Int.fdiv ((q.y - p.y) * (v - p.x)) (q.x - p.x) := by
  have hwidth : q.x - p.x ≠ 0 := by omega
  rcases hp.eq_or_lt with rfl | hp
  · rw [curveAt_of_le_head le_rfl]
    simp
  · rcases hq.eq_or_lt with rfl | hq
    · rw [curveAt_cons_of_le hpq le_rfl, curveAt_of_le_head le_rfl,
        Int.mul_fdiv_cancel _ hwidth]
      omega
    · rw [curveAt, if_neg (by omega), if_pos hq, floorDiv, Int.mul_comm p.y,
        Int.add_comm, Int.add_mul_ediv_left _ _ hwidth,
        Int.fdiv_eq_ediv_of_nonneg _ (by omega), Int.add_comm]

theorem curveAt_append_of_between (before : List Breakpoint)
    (hcurve : (before ++ p :: q :: rest).Pairwise (fun a b => a.x < b.x)) (hp : p.x ≤ v)
    (hq : v ≤ q.x) : curveAt v (before ++ p :: q :: rest) =
      p.y + Int.fdiv ((q.y - p.y) * (v - p.x)) (q.x - p.x) := by
  have hpq : p.x < q.x := by
    obtain ⟨-, htail, -⟩ := List.pairwise_append.1 hcurve
    exact (List.pairwise_cons.1 htail).1 q (by simp)
  rw [curveAt_append_of_le before hcurve hp, curveAt_of_between hpq hp hq]

/-- From its last breakpoint on a curve is clamped. -/
theorem curveAt_of_last_le (before : List Breakpoint)
    (hcurve : (before ++ [p, q]).Pairwise (fun a b => a.x < b.x)) (hq : q.x ≤ v) :
    curveAt v (before ++ [p, q]) = q.y := by
  rw [List.append_cons] at hcurve ⊢
  rw [curveAt_append_of_le _ hcurve hq, curveAt]

end Curve

/-! ## The statements -/

/-- Settles O33: the branches of the two voltage tapers, the greatest fresh voltage, a RANGE one among
them, and the branches of the two SOC tapers. -/
theorem voltageAndSocTapers : Obligations.VoltageAndSocTapers := by
  refine ⟨fun d hcharge hdischarge => ⟨fun v => ?tapers, rfl, rfl, fun _ => freshValue_of_range,
    fun v h5000 hend => chargeTaper_of_end_le hcharge (by omega)⟩, ?factors, ?soc⟩
  case tapers =>
    exact ⟨chargeTaper_of_le_start, chargeTaper_of_between, chargeTaper_of_end_le hcharge,
      dischargeTaper_of_start_le, dischargeTaper_of_between, dischargeTaper_of_le_end hdischarge⟩
  case factors =>
    refine fun s r e d => ⟨rfl, rfl, fun x hmem v hrack hkind hrange hv => ?_⟩
    exact le_vmax_of_fresh hmem hrack hkind ((freshValue_of_range hrange).trans hv)
  case soc =>
    refine fun s r e d soc hsoc _ => ⟨factorsNow_soc_of_unknown e d, fun hquality => ?_⟩
    obtain ⟨hcharge, hdischarge⟩ := factorsNow_soc_of_ne_unknown e d hsoc hquality
    exact ⟨fun h => hcharge.trans (chargeSoc_of_le_start h),
      fun h => hcharge.trans (chargeSoc_of_start_lt h),
      fun h => hdischarge.trans (dischargeSoc_of_start_le h),
      fun h => hdischarge.trans (dischargeSoc_of_lt_start h)⟩

/-- Settles O32: the movement of the charge, the anchor check, the rest check and their order in an
evaluation, and the curve the estimate reads. -/
theorem chargeIntegration : Obligations.ChargeIntegration := by
  refine ⟨?integration, fun qmax q h1 hq => ⟨addCharge_neg_one_borrow h1 hq,
    foldl_addCharge_ten h1 hq⟩, fun s r e d fresh => ⟨fun h => ?notJudged, ?judged⟩,
    fun s r e d fresh => ⟨fun h => ?notUnknown, fun hquality => ⟨fun h => ?ended,
      fun hblind hfresh => ?noSample, ?small⟩⟩, ?evaluation, ?curve⟩
  case integration =>
    intro x qmax i last stamp hquality hlast _ hr hi hi' dt h1 h2000 t q y
    obtain ⟨hyq, hyr⟩ := integrate_eq_addCharge (qmax := qmax) (i := i) hquality hlast h1 h2000
    obtain ⟨hlow, hhigh⟩ := current_mul_time_mem hi hi' h1 h2000
    obtain ⟨htenths, htenths'⟩ := tenths_mem t
    change y.q = (addCharge qmax x.q t).1 at hyq
    change y.r = (addCharge qmax x.q t).2 at hyr
    rw [hyq, hyr]
    exact ⟨by omega, by omega, htenths, htenths', addCharge_spec qmax x.q t⟩
  case notJudged =>
    rw [anchorCheck_of_not_judged e d h, get_setRackCharge_self]
    exact ⟨rfl, rfl, rfl, rfl, rfl, rfl⟩
  case judged =>
    rintro i stamp rfl hblind htopDue hbottomDue htopCount hbottomCount - top bottom reaches
    have htop : topHolds d (s.samples.racks.get r).aggregates.vmax i = true ↔ top :=
      topHolds_iff _ _ _
    have hbottom : bottomHolds d (s.samples.racks.get r).aggregates.vmin i = true ↔ bottom :=
      bottomHolds_iff _ _ _
    have htaken := countedAnchors_taken (i := i) (stamp := stamp) hblind htopDue hbottomDue
      htopCount hbottomCount
    have hafterTop := anchorCheck_topCount (i := i) (stamp := stamp) e hblind htopCount
    have hafterBottom := anchorCheck_bottomCount (i := i) (stamp := stamp) e hblind hbottomCount
    refine ⟨fun h => hafterTop.trans (if_pos (htop.2 h)),
      fun h => hafterTop.trans (if_neg (mt htop.1 h)),
      fun h => hafterBottom.trans (if_pos (hbottom.2 h)),
      fun h => hafterBottom.trans (if_neg (mt hbottom.1 h)),
      fun h hreach => anchorCheck_of_taken_spec (k := .top) e
        (htaken.trans (if_pos ⟨htop.2 h, hreach⟩)),
      fun h hreach => anchorCheck_of_taken_spec (k := .bottom) e (htaken.trans ?_),
      fun hnoTop hnoBottom => anchorCheck_of_not_taken_spec e (htaken.trans ?_)⟩
    · rw [if_neg fun k => not_topHolds_of_bottomHolds (hbottom.2 h) k.1,
        if_pos ⟨hbottom.2 h, hreach⟩]
    · rw [if_neg fun k => hnoTop ⟨htop.1 k.1, k.2⟩, if_neg fun k => hnoBottom ⟨hbottom.1 k.1, k.2⟩]
  case notUnknown => exact restCheck_of_ne_unknown e d fresh h ▸ setRackCharge_spec s r _
  case ended => exact restCheck_of_ended e hquality h ▸ setRackCharge_spec s r _
  case noSample =>
    subst hfresh
    exact restCheck_of_no_sample e d hquality hblind ▸ setRackCharge_spec s r _
  case small =>
    rintro i stamp rfl hblind hi start complete
    refine ⟨fun h => restCheck_of_small e hquality hblind hi h ▸ setRackCharge_spec s r _,
      fun v bank hcomplete hmean hbank => ?_⟩
    obtain ⟨hafter, hsite⟩ := restCheck_of_complete e hquality hblind hi hcomplete hmean hbank
    exact ⟨hafter.trans (estimate_eq _ _ _ _), hsite⟩
  case evaluation =>
    intro s r e d he hd fresh integrated y z
    have hz : z = _ := (congrArg (fun t : State => t.limits.racks.get r)
      (limitSetComplete_of_config he hd)).trans (publishRack_rack _ _ _ _)
    rw [hz]
    exact ⟨rfl, rfl, rfl, rfl, rfl, rfl, rfl, rfl⟩
  case curve =>
    refine fun before after p q v hcurve => ⟨curveAt_append_of_between before hcurve,
      fun _ => curveAt_of_le_head, ?_⟩
    rintro rfl
    exact curveAt_of_last_le before hcurve

end Sys2Proof.Machine

/-!
PROOFS. One statement of chapter 6: what confirms the fire (R109). First when a line counts for a
zone and what a zone's count and its degraded mark say, then the statement.
-/

namespace Sys2Proof.Machine

/-! ## The lines of a zone (R105, R106) -/

section Zone
variable {s : State} {zone : Nat} {l : Line}

theorem lineInZone_iff :
    s.lineInZone zone l = true ↔
      ((s.lineSettings l).kind = .smoke ∨ (s.lineSettings l).kind = .heat) ∧
        (s.lineSettings l).zones.testBit (zone - 1) = true := by
  simp [State.lineInZone]

theorem zoneDegraded_iff :
    s.zoneDegraded zone = true ↔
      ∃ l, s.lineInZone zone l = true ∧ (s.fire.lines.get l).faulted = true := by
  simp [State.zoneDegraded]

/-! ## The latched count of a zone (R109) -/

/-- A line that the latched count of a zone takes: in the zone, latched and not faulted. -/
def State.countsForZone (s : State) (zone : Nat) (l : Line) : Prop :=
  s.lineInZone zone l = true ∧ (s.fire.lines.get l).latch = true ∧
    (s.fire.lines.get l).faulted = false

/-- The lines that a zone's latched count takes, as the count lists them. -/
def State.countedLines (s : State) (zone : Nat) : List Line :=
  Line.all.filter fun l =>
    s.lineInZone zone l && (s.fire.lines.get l).latch && !(s.fire.lines.get l).faulted

theorem zoneLatched_eq_length : s.zoneLatched zone = (s.countedLines zone).length := rfl

theorem mem_countedLines_iff : l ∈ s.countedLines zone ↔ s.countsForZone zone l := by
  simp [State.countedLines, State.countsForZone, and_assoc]

theorem Line.all_nodup : Line.all.Nodup := by decide

/-- A line counts once in a zone. -/
theorem countedLines_nodup : (s.countedLines zone).Nodup := Line.all_nodup.filter _

theorem one_le_zoneLatched_iff : 1 ≤ s.zoneLatched zone ↔ ∃ l, s.countsForZone zone l := by
  simp only [zoneLatched_eq_length, Nat.succ_le_iff, List.length_pos_iff_exists_mem,
    mem_countedLines_iff]

theorem two_le_zoneLatched_iff :
    2 ≤ s.zoneLatched zone ↔
      ∃ l k, l ≠ k ∧ s.countsForZone zone l ∧ s.countsForZone zone k := by
  have hcard : s.zoneLatched zone = (s.countedLines zone).toFinset.card :=
    (List.toFinset_card_of_nodup countedLines_nodup).symm
  rw [hcard, Nat.succ_le_iff, Finset.one_lt_card_iff]
  simp only [List.mem_toFinset, mem_countedLines_iff]
  exact exists₂_congr fun l k => ⟨fun ⟨hl, hk, hne⟩ => ⟨hne, hl, hk⟩,
    fun ⟨hne, hl, hk⟩ => ⟨hl, hk, hne⟩⟩

end Zone

/-! ## What confirms the fire (R109) -/

section Confirmed
variable {s : State}

theorem mem_latchedOfKind_iff {kind : LineKind} {l : Line} :
    l ∈ s.latchedOfKind kind ↔
      (s.lineSettings l).kind = kind ∧ (s.fire.lines.get l).latch = true := by
  simp [State.latchedOfKind]

theorem zone_mem_confirmations_iff {z : Nat} :
    .zone z ∈ s.confirmations ↔
      z ∈ [1, 2, 3, 4] ∧
        (2 ≤ s.zoneLatched z ∨ s.zoneDegraded z = true ∧ 1 ≤ s.zoneLatched z) := by
  simp [State.confirmations]

theorem line_mem_confirmations_iff {l : Line} :
    .line l ∈ s.confirmations ↔ l ∈ s.latchedOfKind .heat ∨ l ∈ s.latchedOfKind .manual := by
  simp [State.confirmations]

theorem confirmed_iff_exists_cause :
    s.confirmed = true ↔ ∃ cause, cause ∈ s.confirmations := by
  simp [State.confirmed, ← List.length_pos_iff, List.length_pos_iff_exists_mem]

/-- Only a zone or a line confirms the fire. -/
theorem eq_zone_or_line_of_mem_confirmations {cause : StageCause} (h : cause ∈ s.confirmations) :
    (∃ z, cause = .zone z) ∨ ∃ l, cause = .line l := by
  simp only [State.confirmations, List.mem_append, List.mem_map] at h
  obtain (⟨z, -, rfl⟩ | ⟨l, -, rfl⟩) | ⟨l, -, rfl⟩ := h
  · exact .inl ⟨z, rfl⟩
  · exact .inr ⟨l, rfl⟩
  · exact .inr ⟨l, rfl⟩

theorem confirmed_iff :
    s.confirmed = true ↔
      (∃ z, .zone z ∈ s.confirmations) ∨ ∃ l, .line l ∈ s.confirmations := by
  rw [confirmed_iff_exists_cause]
  constructor
  · rintro ⟨cause, h⟩
    obtain ⟨z, rfl⟩ | ⟨l, rfl⟩ := eq_zone_or_line_of_mem_confirmations h
    · exact .inl ⟨z, h⟩
    · exact .inr ⟨l, h⟩
  · rintro (⟨z, h⟩ | ⟨l, h⟩)
    · exact ⟨_, h⟩
    · exact ⟨_, h⟩

end Confirmed

/-! ## The statement -/

/-- Settles O45: the causes that confirm are zones and lines, and each zone's count and degraded mark
say which lines it takes. -/
theorem fireConfirmation : Obligations.FireConfirmation := by
  intro s inZone counted degraded
  have hcounted (z : Nat) (l : Line) : s.countsForZone z l ↔ counted z l :=
    and_congr_left' lineInZone_iff
  have hdegraded (z : Nat) : s.zoneDegraded z = true ↔ degraded z :=
    zoneDegraded_iff.trans (exists_congr fun _ => and_congr_left' lineInZone_iff)
  simp only [confirmed_iff, zone_mem_confirmations_iff, line_mem_confirmations_iff,
    mem_latchedOfKind_iff, two_le_zoneLatched_iff, one_le_zoneLatched_iff, hcounted, hdegraded,
    and_or_left, exists_or, or_assoc]

end Sys2Proof.Machine

/-!
PROOFS. What a step may do between its start and its close, said once. `Moves` is the relation of a
state to every state that the operations of the blocks can make of it; each elementary change stands in
it with what it leaves alone. One lemma for each operation says that it makes such moves; an invariant
is then checked on the elementary changes alone, and holds of every command that is built of them.
-/

namespace Sys2Proof.Machine

/-! ## Reading a frame at one part -/

section

variable {s t : State} {A : List Block}

theorem sameBut_now (h : s.sameBut t A) (hA : Block.now ∉ A) : t.now = s.now := h _ hA

theorem sameBut_ring (h : s.sameBut t A) (hA : Block.ring ∉ A) : t.ring = s.ring := h _ hA

theorem sameBut_samples (h : s.sameBut t A) (hA : Block.samples ∉ A) : t.samples = s.samples := h _ hA

theorem sameBut_limits (h : s.sameBut t A) (hA : Block.limits ∉ A) : t.limits = s.limits := h _ hA

theorem sameBut_balance (h : s.sameBut t A) (hA : Block.balance ∉ A) : t.balance = s.balance := h _ hA

theorem sameBut_cooling (h : s.sameBut t A) (hA : Block.cooling ∉ A) : t.cooling = s.cooling := h _ hA

theorem sameBut_fire (h : s.sameBut t A) (hA : Block.fire ∉ A) : t.fire = s.fire := h _ hA

theorem sameBut_sequencer (h : s.sameBut t A) (hA : Block.sequencer ∉ A) : t.sequencer = s.sequencer := h _ hA

theorem sameBut_trips (h : s.sameBut t A) (hA : Block.trips ∉ A) : t.trips = s.trips := h _ hA

theorem sameBut_converter (h : s.sameBut t A) (hA : Block.converter ∉ A) : t.converter = s.converter := h _ hA

theorem sameBut_tables (h : s.sameBut t A) (hA : Block.tables ∉ A) : t.tables = s.tables := h _ hA

theorem sameBut_site (h : s.sameBut t A) (hA : Block.site ∉ A) : t.site = s.site := h _ hA

theorem sameBut_choices (h : s.sameBut t A) (hA : Block.choices ∉ A) : t.choices = s.choices := h _ hA

theorem sameBut_pending (h : s.sameBut t A) (hA : Block.pending ∉ A) : t.pending = s.pending := h _ hA

end

/-! ## Rack states -/

/-- A contactor of the rack is, or may be, commanded closed in the state (R123). -/
def RackState.conducts : RackState → Bool
  | .precharging | .joining | .connected | .draining => true
  | .opened | .queued | .opening | .locked | .fault => false

/-- A state a tripped rack is kept out of (R138). -/
def RackState.live : RackState → Bool
  | .queued | .precharging | .joining | .connected => true
  | .draining | .opening | .opened | .locked | .fault => false

/-- A rack at rest, not in the queue: OPEN, LOCKED or FAULT. -/
def RackState.rests : RackState → Bool
  | .opened | .locked | .fault => true
  | .queued | .precharging | .joining | .connected | .draining | .opening => false

/-- A state in which a protective operation may be under way (R138, R139). -/
def RackState.drains : RackState → Bool
  | .draining | .opening => true
  | .opened | .queued | .precharging | .joining | .connected | .locked | .fault => false

/-- A rack may pass from a state to another without leaving or joining the connect queue. -/
def RackState.passes (before : RackState) : RackState → Bool
  | .opened => before ≠ .queued
  | .locked => before ≠ .queued
  | .fault => before ≠ .queued
  | .queued => before = .queued
  | .precharging => before = .precharging
  | .joining => before = .precharging || before = .joining
  | .connected => before = .joining || before = .connected
  | .draining => before = .connected || before = .draining
  | .opening => before.conducts || before = .opening

@[simp] theorem passes_self (x : RackState) : x.passes x = true := by cases x <;> decide

/-- A rack that rests is not in a live state. -/
theorem live_of_rests {x : RackState} (h : x.rests = true) : x.live = false := by
  cases x <;> first | rfl | cases h

/-- A rack that rests has no contactor commanded closed. -/
theorem conducts_of_rests {x : RackState} (h : x.rests = true) : x.conducts = false := by
  cases x <;> first | rfl | cases h

/-- No passage brings a rack into a live state. -/
theorem live_of_passes {x y : RackState} (h : x.passes y = true) (hx : x.live = false) :
    y.live = false := by
  cases x <;> cases y <;> simp_all [RackState.passes, RackState.live, RackState.conducts]

/-- No passage closes a contactor. -/
theorem conducts_of_passes {x y : RackState} (h : x.passes y = true) (hx : x.conducts = false) :
    y.conducts = false := by
  cases x <;> cases y <;> simp_all [RackState.passes, RackState.conducts]

/-- A passage neither joins nor leaves the connect queue. -/
theorem queued_of_passes {x y : RackState} (h : x.passes y = true) : y = .queued ↔ x = .queued := by
  cases x <;> cases y <;> simp_all [RackState.passes, RackState.conducts]

/-! ## The elementary changes -/

/-- What a step may do beyond what every step may: bring a rack set to its end, and with it publish
limits (R65) and start a queued rack (R129), queue a rack (R126),
clear rack latches (R154), clear a container latch (R155). -/
inductive Liberty
  | start
  | connect
  | clearRack
  | clear (kind : TripKind)

/-- A change of a rack's part of the sequencer, the connect queue left alone: its state passes, a
protective operation stays with DRAINING and OPENING, and hard breaks are counted at an opening or
cleared. -/
structure RackMove (x y : RackSwitch) : Prop where
  passes : x.state.passes y.state = true
  protective : y.operation.protective = true →
    y.state.drains = true ∨ (y.operation = x.operation ∧ x.state.drains = false)
  hardBreaks : y.hardBreaks = x.hardBreaks ∨ y.hardBreaks = 0 ∨
    (x.state.conducts = true ∧ y.state = .opening)

/-- What a record of the trip history keeps while reports complete it (R151, R152). -/
def TripRecord.core (x : TripRecord) : TripRecord :=
  { x with awaited := [], reported := ⟨none, false⟩, completion := none }

/-- A change of the trip unit that sets and clears no latch and writes no record. -/
structure TripsMove (x y : Trips) : Prop where
  racks : ∀ r k, (y.racks.get r).latch k = (x.racks.get r).latch k
  container : y.container = x.container
  sequence : y.sequence = x.sequence
  history : y.history.map TripRecord.core = x.history.map TripRecord.core

/-- A change of the site link interface inside a step: the requests, the replies and the link stay, and
the event and trace report queues keep their bounds. -/
structure SiteMove (x y : Site) : Prop where
  fifo : y.fifo = x.fifo
  replies : y.replies = x.replies
  link : y.link = x.link
  reset : y.reset = x.reset
  linkErrors : y.linkErrors = x.linkErrors
  events : x.events.length ≤ 32 → y.events.length ≤ 32
  traces : x.traces.length ≤ 16 → y.traces.length ≤ 16

/-- A change of the converter interface inside a step: its pulse sequence moves only by a pulse asked
for (R165). -/
def ConverterMove (x y : Converter) : Prop :=
  y.pulse = x.pulse ∨ (x.pulse ≠ .failed ∧ y.pulse = .pulsing)

/-- A change of the limit computer that raises no published limit. -/
def LimitsFall (x y : Limits) : Prop :=
  ∀ r, (y.racks.get r).limit.charge ≤ (x.racks.get r).limit.charge ∧
    (y.racks.get r).limit.discharge ≤ (x.racks.get r).limit.discharge

theorem LimitsFall.of_racks {x y : Limits} (h : y.racks = x.racks) : LimitsFall x y := by
  intro r
  rw [h]
  exact ⟨le_rfl, le_rfl⟩

theorem LimitsFall.of_set {x : Limits} {r : Rack} {c : RackCharge}
    (hc : c.limit.charge ≤ (x.racks.get r).limit.charge)
    (hd : c.limit.discharge ≤ (x.racks.get r).limit.discharge) :
    LimitsFall x { x with racks := x.racks.set r c } := by
  intro k
  by_cases hk : k = r
  · subst hk
    rw [PerRack.get_set_self]
    exact ⟨hc, hd⟩
  · rw [PerRack.get_set_ne _ _ hk]
    exact ⟨le_rfl, le_rfl⟩

/-- A change of the cooling controller that leaves every command and feedback. -/
def CoolingMove (x y : Cooling) : Prop :=
  ∀ o, (y.outputs.get o).command = (x.outputs.get o).command ∧
    (y.outputs.get o).feedback = (x.outputs.get o).feedback

/-- The states the operations of the blocks can make of a state, under the liberties `may`. -/
inductive Moves (may : Liberty → Prop) : State → State → Prop
  | refl (s : State) : Moves may s s
  | trans {s t u : State} : Moves may s t → Moves may t u → Moves may s u
  | ring (s : State) (x : Ring) : Moves may s (s.withRing x)
  | samples (s : State) (x : Samples) (h : x.trace.length = s.samples.trace.length) :
      Moves may s (s.withSamples x)
  | limits (s : State) (x : Limits) (h : may .start ∨ LimitsFall s.limits x) :
      Moves may s (s.withLimits x)
  | balance (s : State) (x : Balance) : Moves may s (s.withBalance x)
  | cooling (s : State) (x : Cooling) (h : CoolingMove s.cooling x) : Moves may s (s.withCooling x)
  | compose (s : State) : Moves may s (composeCommands s)
  | fire (s : State) (x : Fire) : Moves may s (s.withFire x)
  | converter (s : State) (x : Converter) (h : ConverterMove s.converter x) :
      Moves may s (s.withConverter x)
  | tables (s : State) (x : Tables)
      (h : ∀ k, (s.table k).Consistent → (x.tables.get k).Consistent) : Moves may s (s.withTables x)
  | site (s : State) (x : Site) (h : SiteMove s.site x) : Moves may s (s.withSite x)
  | choices (s : State) (n : Nat) : Moves may s (s.withChoices n)
  | trips (s : State) (x : Trips) (h : TripsMove s.trips x) : Moves may s (s.withTrips x)
  | clearRack (s : State) (r : Rack) (x : RackLatches) (k : TripKind) (hm : may .clearRack)
      (hk : x.latch k = .clear) (hx : ∀ j, j ≠ k → x.latch j = (s.trips.racks.get r).latch j) :
      Moves may s (s.setRackLatches r x)
  | clear (s : State) (k : TripKind) (hm : may (.clear k)) :
      Moves may s (s.withTrips { s.trips with container := s.trips.container.put k .clear })
  | take (kind : TripKind) (named : Option Rack) (data : CauseData) {s t : State}
      (h : Moves may (writeRecord (recordOf kind named data s) (setLatch kind named data s)) t)
      (ht : ∀ r ∈ namedRacks named, (t.rackState r).live = false) : Moves may s t
  | sequencer (s : State) (slot : Option Rack) (hold : Bool) :
      Moves may s (s.withSequencer { s.sequencer with slot := slot, hold := hold })
  | rack (s : State) (r : Rack) (x : RackSwitch) (h : RackMove (s.sequencer.racks.get r) x) :
      Moves may s (s.setRackSwitch r x)
  | leaves (s : State) (r : Rack) (e : Event) (x : RackSwitch) (hx : x.state.rests = true)
      (ho : x.operation.protective = false)
      (hb : x.hardBreaks = (s.sequencer.racks.get r).hardBreaks) :
      Moves may s ((post e (dequeue r s)).setRackSwitch r x)
  | queues (s : State) (r : Rack) (x : RackSwitch) (hm : may .connect)
      (hr : s.rackState r = .opened) (hl : s.latchedFor r = false) (hx : x.state = .queued)
      (ho : x.operation.protective = false) :
      Moves may s ((s.withSequencer
        { s.sequencer with queue := s.sequencer.queue ++ [⟨r, s.now⟩] }).setRackSwitch r x)
  | starts (s : State) (r : Rack) (x : RackSwitch) (hm : may .start)
      (hr : ∃ e ∈ s.sequencer.queue, e.rack = r) (hx : x.state = .precharging ∨ x.state = .joining)
      (ho : x.operation = (s.sequencer.racks.get r).operation) :
      Moves may s (((dequeue r s).withSequencer
        { (dequeue r s).sequencer with slot := some r }).setRackSwitch r x)

variable {may : Liberty → Prop} {u s t : State}

/-! ## Combining moves -/

theorem Moves.ite {c : Prop} [Decidable c] (h : Moves may u s) (k : Moves may u t) :
    Moves may u (if c then s else t) := by split <;> assumption

/-- Actions that make moves from wherever they start make moves in every order. -/
theorem Moves.anyOrder {acts : List (State → State)} (h : Moves may u s)
    (ha : ∀ act ∈ acts, ∀ t, Moves may u t → Moves may u (act t)) :
    Moves may u (inAnyOrder acts s) :=
  inAnyOrder_keeps (fun t n k => k.trans (.choices t n)) ha h

theorem Moves.onRacks {racks : List Rack} {act : Rack → State → State} (h : Moves may u s)
    (ha : ∀ r t, Moves may u t → Moves may u (act r t)) : Moves may u (forRacks racks act s) :=
  forRacks_keeps (fun r _ t k => ha r t k) h

theorem Moves.foldl {α : Type} {f : State → α → State} {xs : List α} (h : Moves may u s)
    (hf : ∀ t x, Moves may u t → Moves may u (f t x)) : Moves may u (xs.foldl f s) := by
  induction xs generalizing s with
  | nil => exact h
  | cons x xs ih => exact ih (hf s x h)

/-- A change of the parts that every move leaves free. -/
theorem Moves.free (h : Moves may u s)
    (hf : s.sameBut t [.ring, .balance, .fire, .choices]) : Moves may u t := by
  have ht : t = (((s.withRing t.ring).withBalance t.balance).withFire
      t.fire).withChoices t.choices := by
    refine State.ext_parts fun b => ?_
    by_cases hb : b ∈ [Block.ring, .balance, .fire, .choices]
    · cases b <;> first | rfl | exact absurd hb (by decide)
    · have := hf b hb
      cases b <;> first | exact this | exact absurd (by decide) hb
  rw [ht]
  exact (((h.trans (.ring _ _)).trans (.balance _ _)).trans (.fire _ _)).trans (.choices _ _)

end Sys2Proof.Machine

namespace Sys2Proof.Machine

variable {may : Liberty → Prop} {u s t : State}

/-! ## Events, reports and the converter -/

/-- Posting leaves the link and the requests alone and keeps the event queue's bound (R182). -/
theorem post_siteMove (e : Event) (s : State) : SiteMove s.site (post e s).site := by
  obtain ⟨_, hf, hr, ht, hl, he, _, _, _, hs, _, _, hev⟩ := post_spec e s
  refine ⟨hf, hr, hl, hs, he, fun h => ?_, fun h => by rw [ht]; exact h⟩
  rw [hev]
  split
  · simpa using by omega
  · exact h

theorem post_moves (h : Moves may u s) (e : Event) : Moves may u (post e s) := by
  have hs : post e s = s.withSite (post e s).site := by
    refine State.ext_parts fun b => ?_
    by_cases hb : b = .site
    · subst hb; rfl
    · have := post_sameBut e s b (by simpa using hb)
      cases b <;> first | exact this | exact absurd rfl hb
  rw [hs]
  exact h.trans (.site _ _ (post_siteMove e s))

theorem postAll_moves (h : Moves may u s) (es : List Event) : Moves may u (postAll es s) :=
  h.foldl fun _ e k => post_moves k e

theorem produceContainerSummary_moves (h : Moves may u s) :
    Moves may u (produceContainerSummary s) :=
  h.trans (.site _ _ ⟨rfl, rfl, rfl, rfl, rfl, id, id⟩)

theorem produceRackSummary_moves (h : Moves may u s) (r : Rack) :
    Moves may u (produceRackSummary r s) :=
  produceContainerSummary_moves ((h.trans (.site s
    { s.site with rackPlaces := s.site.rackPlaces.set r (some (rackSummaryOf r s)) }
    ⟨rfl, rfl, rfl, rfl, rfl, id, id⟩)).trans (.limits _ _ (.inr (.of_set le_rfl le_rfl))))

theorem queueTrace_moves (h : Moves may u s) (t : TraceReport) : Moves may u (queueTrace t s) := by
  unfold queueTrace
  split
  · refine h.trans (.site _ _ ⟨rfl, rfl, rfl, rfl, rfl, id, fun _ => ?_⟩)
    simpa using by omega
  · exact h

/-- A change of the free parts and of the converter interface that leaves the pulse sequence. -/
theorem Moves.freeConverter (h : Moves may u s)
    (hf : s.sameBut t [.ring, .balance, .fire, .choices, .converter])
    (hp : t.converter.pulse = s.converter.pulse) : Moves may u t := by
  refine (h.trans (.converter s t.converter (.inl hp))).free fun b hb => ?_
  by_cases hc : b = .converter
  · subst hc; rfl
  · have := hf b (by simp only [List.mem_cons, List.not_mem_nil, or_false, not_or] at hb ⊢; simp_all)
    cases b <;> first | exact this | exact absurd rfl hc

theorem messageDue_pulse (s : State) : (messageDue s).converter.pulse = s.converter.pulse := by
  unfold messageDue; split <;> rfl

theorem judgeFlags_pulse (lower : Bool) (s : State) :
    (judgeFlags lower s).converter.pulse = s.converter.pulse := by
  unfold judgeFlags
  simp only []
  split
  · exact messageDue_pulse _
  · rfl

theorem messageDue_moves (h : Moves may u s) : Moves may u (messageDue s) :=
  h.freeConverter (by simp [sameBut_refl]) (messageDue_pulse s)

theorem judgeFlags_moves (h : Moves may u s) (lower : Bool) : Moves may u (judgeFlags lower s) :=
  h.freeConverter (by simp [sameBut_refl]) (judgeFlags_pulse lower s)

theorem workOutContainer_moves (h : Moves may u s) : Moves may u (workOutContainer s) := by
  refine judgeFlags_moves ((h.trans (.limits _ _ (.inr ?_))).trans (.converter _ _ (.inl ?_))) _
  · exact .of_racks rfl
  · rfl

theorem judgePermit_moves (h : Moves may u s) : Moves may u (judgePermit s) :=
  h.freeConverter (by simp [sameBut_refl]) rfl

theorem zeroRackLimit_moves (h : Moves may u s) (r : Rack) : Moves may u (zeroRackLimit r s) :=
  h.trans (.limits _ _ (.inr (.of_set (Nat.zero_le _) (Nat.zero_le _))))

/-- A pulse asked for begins a pulse, except from FAILED (R165). -/
theorem requestPulse_moves (h : Moves may u s) : Moves may u (requestPulse s) := by
  unfold requestPulse
  split
  next hp => exact h.trans (.converter _ _ (.inr ⟨by simp [hp], rfl⟩))
  next hp => exact h.trans (.converter _ _ (.inl rfl))
  next hp => exact h.trans (.converter _ _ (.inr ⟨by simp [hp], rfl⟩))
  next => exact h

/-! ## The trip history -/

theorem reportInto_core (r : Rack) (current : Option Int) (underLoad first : Bool)
    (rec : TripRecord) : (reportInto r current underLoad first rec).core = rec.core := by
  unfold reportInto; split <;> rfl

theorem completionReport_moves (h : Moves may u s) (r : Rack) (current : Option Int)
    (underLoad : Bool) : Moves may u (completionReport r current underLoad s) := by
  refine postAll_moves ((h.trans (.choices s (s.choices + 1))).trans (.trips _ _ ?_)) _
  refine ⟨fun _ _ => rfl, rfl, rfl, ?_⟩
  simp only [List.map_map]
  exact List.map_congr_left fun rec _ => reportInto_core _ _ _ _ _

/-- The overrun start of a rack is no latch. -/
theorem setOverrun_moves (h : Moves may u s) (r : Rack) (x : Option PartTime) :
    Moves may u (setOverrun r x s) := by
  refine h.trans (.trips _ _ ⟨fun k kind => ?_, rfl, rfl, rfl⟩)
  simp only [PerRack.get_set]
  split
  next hk => subst hk; cases kind <;> rfl
  next => rfl

theorem markHeard_moves (h : Moves may u s) (r : Rack) (heard : Nat → Bool) :
    Moves may u (markHeard r heard s) := by
  refine h.trans (.trips _ _ ⟨fun k kind => ?_, rfl, rfl, rfl⟩)
  simp only [PerRack.get_set]
  split
  next hk => subst hk; cases kind <;> rfl
  next => rfl

/-! ## Changing a rack -/

theorem leaveConnected_moves (h : Moves may u s) (r : Rack) : Moves may u (leaveConnected r s) :=
  zeroRackLimit_moves (setOverrun_moves h r none) r

theorem startHold_moves (h : Moves may u s) : Moves may u (startHold s) := by
  unfold startHold
  split
  · exact (h.trans (.sequencer s s.sequencer.slot true)).onRacks fun r _ k => zeroRackLimit_moves k r
  · exact h

/-- What a change of a rack's state hands on once the rack is written (R125). -/
theorem changeRack_moves_of (r : Rack) (x : RackSwitch) (cause : RackCause)
    (hw : Moves may u (s.setRackSwitch r (x.rewatch s.now))) : Moves may u (changeRack r x cause s) := by
  unfold changeRack
  simp only []
  split
  · exact hw
  · have h2 := post_moves hw (.rackState r (s.rackState r) x.state x.faultKind cause)
    refine judgePermit_moves ?_
    split
    · split
      · exact workOutContainer_moves (startHold_moves (leaveConnected_moves h2 r))
      · exact startHold_moves (leaveConnected_moves h2 r)
    · split
      · exact workOutContainer_moves (startHold_moves h2)
      · exact startHold_moves h2

theorem RackMove.rewatch {x y : RackSwitch} (h : RackMove x y) (now : PartTime) :
    RackMove x (y.rewatch now) := ⟨h.passes, h.protective, h.hardBreaks⟩

/-- A change of rack state by a passage. -/
theorem changeRack_moves (h : Moves may u s) (r : Rack) (x : RackSwitch) (cause : RackCause)
    (hx : RackMove (s.sequencer.racks.get r) x) : Moves may u (changeRack r x cause s) :=
  changeRack_moves_of r x cause (h.trans (.rack s r _ (hx.rewatch _)))

theorem connectResult_moves (h : Moves may u s) (r : Rack) (outcome : ConnectOutcome) :
    Moves may u (connectResult r outcome s) := post_moves h _

theorem freeSlot_moves (h : Moves may u s) (r : Rack) : Moves may u (freeSlot r s) := by
  unfold freeSlot
  split
  · exact h.trans (.sequencer s none s.sequencer.hold)
  · exact h


/-! ## What the shared operations leave of the sequencer -/

theorem post_sequencer (e : Event) (s : State) : (post e s).sequencer = s.sequencer :=
  post_sameBut e s .sequencer (by simp)

theorem post_rackState (e : Event) (s : State) (r : Rack) : (post e s).rackState r = s.rackState r :=
  congrArg (fun q => (q.racks.get r).state) (post_sequencer e s)

theorem freeSlot_racks (r : Rack) (s : State) : (freeSlot r s).sequencer.racks = s.sequencer.racks := by
  unfold freeSlot; split <;> rfl

theorem takeOver_rackState (r k : Rack) (s : State) : (takeOver r s).rackState k = s.rackState k := by
  simp only [takeOver, State.rackState, State.setRackSwitch_sequencer, PerRack.get_set, freeSlot_racks]
  split
  next h => rw [h]
  next => rfl

theorem rackState_eq_of_sequencer {s t : State} (h : t.sequencer = s.sequencer) (r : Rack) :
    t.rackState r = s.rackState r := by simp [State.rackState, h]

theorem setLatch_sequencer (kind : TripKind) (named : Option Rack) (data : CauseData) (s : State) :
    (setLatch kind named data s).sequencer = s.sequencer := by
  unfold setLatch; split <;> rfl

/-- Recording a cause moves no rack. -/
theorem recorded_sequencer (rec : TripRecord) (kind : TripKind) (named : Option Rack)
    (data : CauseData) (s : State) :
    (writeRecord rec (setLatch kind named data s)).sequencer = s.sequencer :=
  setLatch_sequencer kind named data s

theorem composeCommands_sequencer (s : State) : (composeCommands s).sequencer = s.sequencer :=
  ((composeCommands_frame (A := [.cooling]) s s (by simp)).2 (sameBut_refl _ _))
    .sequencer (by simp)

/-- Without the liberties to start and to queue a rack, a rack that is not live stays so. -/
theorem Moves.live_false (h : Moves may s t) (hs : ¬ may .start) (hc : ¬ may .connect) {r : Rack}
    (hr : (s.rackState r).live = false) : (t.rackState r).live = false := by
  induction h with
  | refl s => exact hr
  | trans _ _ ih ih' => exact ih' (ih hr)
  | take kind named data _ ht ih =>
    exact ih (by rw [rackState_eq_of_sequencer (recorded_sequencer _ _ _ _ _)]; exact hr)
  | compose s => rw [rackState_eq_of_sequencer (composeCommands_sequencer s)]; exact hr
  | rack s k x h =>
    simp only [State.rackState, State.setRackSwitch_sequencer, PerRack.get_set] at hr ⊢
    split
    next hk => subst hk; exact live_of_passes h.passes hr
    next => exact hr
  | leaves s k e x hx ho hb =>
    simp only [State.rackState, State.setRackSwitch_sequencer, PerRack.get_set, post_sequencer]
    split
    next => exact live_of_rests hx
    next => exact hr
  | queues s k x h => exact absurd h hc
  | starts s k x h => exact absurd h hs
  | ring s x => exact hr
  | samples s x h => exact hr
  | limits s x => exact hr
  | balance s x => exact hr
  | cooling s x h => exact hr
  | fire s x => exact hr
  | converter s x h => exact hr
  | tables s x h => exact hr
  | site s x h => exact hr
  | choices s n => exact hr
  | trips s x h => exact hr
  | clearRack s k x kind h hk hx => exact hr
  | clear s k h => exact hr
  | sequencer s slot hold => exact hr

end Sys2Proof.Machine

namespace Sys2Proof.Machine

variable {may : Liberty → Prop} {u s t : State}

/-! ## Opening, draining and the connect queue -/

/-- A change that leaves a rack's state, operation and hard breaks. -/
theorem RackMove.keeping {x y : RackSwitch} (hs : y.state = x.state) (ho : y.operation = x.operation)
    (hb : y.hardBreaks = x.hardBreaks) : RackMove x y := by
  refine ⟨by simp [hs], fun _ => ?_, .inl hb⟩
  cases hd : x.state.drains
  · exact .inr ⟨ho, rfl⟩
  · exact .inl (by rw [hs]; exact hd)

/-- A change of rack state that leaves no protective operation, or leaves the rack draining. -/
theorem RackMove.passing {x y : RackSwitch} (hs : x.state.passes y.state = true)
    (ho : y.operation.protective = true → y.state.drains = true)
    (hb : y.hardBreaks = x.hardBreaks) : RackMove x y :=
  ⟨hs, fun h => .inl (ho h), .inl hb⟩

theorem proofState_rests (s : State) (r : Rack) (x : RackSwitch) :
    (s.proofState r x).rests = true := by
  unfold State.proofState; split <;> (try split) <;> rfl

theorem passes_of_rests {x y : RackState} (hy : y.rests = true) (hx : x ≠ .queued) :
    x.passes y = true := by
  cases y <;> simp_all [RackState.rests, RackState.passes]

theorem endOperation_moves (h : Moves may u s) (r : Rack) (x : RackSwitch) (cause : RackCause)
    (hp : (s.rackState r).passes x.state = true)
    (hb : x.hardBreaks = (s.sequencer.racks.get r).hardBreaks) :
    Moves may u (endOperation r x cause s) := by
  have hm : RackMove (s.sequencer.racks.get r)
      { x with operation := .none, timer := none, disconnectPending := false } :=
    .passing hp (by simp [Operation.protective]) hb
  unfold endOperation
  simp only []
  split
  · exact completionReport_moves (freeSlot_moves (changeRack_moves h r _ cause hm) r) _ _ _
  · exact freeSlot_moves (changeRack_moves h r _ cause hm) r

theorem passOpenProof_moves (h : Moves may u s) (r : Rack) (cause : RackCause)
    (hr : s.rackState r ≠ .queued) : Moves may u (passOpenProof r cause s) :=
  endOperation_moves h r _ cause (passes_of_rests (proofState_rests _ _ _) hr) rfl

/-- A rack with a contactor that may conduct goes to OPENING (R135). -/
theorem enterOpening_moves (h : Moves may u s) (r : Rack) (op : Operation) (cause : RackCause)
    (hr : (s.rackState r).conducts = true) : Moves may u (enterOpening r op cause s) := by
  unfold enterOpening
  simp only []
  have hm := changeRack_moves h r
    { s.sequencer.racks.get r with
      state := .opening
      operation := op
      disconnectPending := false
      timer := some ⟨.openProof, s.now, s.contactorProof⟩
      hardBreaks := if (s.sequencer.racks.get r).mainClosed && s.loadMark r then
        countUp 255 (s.sequencer.racks.get r).hardBreaks else (s.sequencer.racks.get r).hardBreaks
      releaseCurrent := s.freshCurrent r
      underLoad := (s.sequencer.racks.get r).mainClosed && s.loadMark r } cause
    ⟨by simpa [RackState.passes] using .inl hr, fun _ => .inl rfl, .inr (.inr ⟨hr, rfl⟩)⟩
  split
  · exact passOpenProof_moves hm r cause (by simp [changeRack_rackState])
  · exact hm

theorem endDrain_moves (h : Moves may u s) (r : Rack) (cause : RackCause)
    (hr : (s.rackState r).conducts = true) : Moves may u (endDrain r cause s) :=
  enterOpening_moves h r _ cause hr

/-- A CONNECTED rack starts to drain (R134). -/
theorem enterDraining_moves (h : Moves may u s) (r : Rack) (op : Operation) (ms : Nat)
    (cause : RackCause) (hr : s.rackState r = .connected) :
    Moves may u (enterDraining r op ms cause s) := by
  unfold enterDraining
  simp only []
  have hm := changeRack_moves h r
    { s.sequencer.racks.get r with
      state := .draining
      operation := op
      disconnectPending := false
      timer := some ⟨.drain, s.now, ms⟩ } cause
    (.passing (by simpa [RackState.passes] using .inl hr) (fun _ => rfl) rfl)
  split
  · exact endDrain_moves hm r _ (by simp [changeRack_rackState, RackState.conducts])
  · exact hm

theorem grantable_connected {s : State} {r : Rack} (h : s.grantable = some r) :
    s.rackState r = .connected := by
  unfold State.grantable at h
  split at h
  · cases h
  · have := List.find?_some h
    simp only [Bool.and_eq_true, decide_eq_true_eq] at this
    exact this.2

theorem grantDisconnects_moves (h : Moves may u s) (n : Nat) :
    Moves may u (grantDisconnects n s) := by
  induction n generalizing s with
  | zero => exact h
  | succ n ih =>
    unfold grantDisconnects
    split
    next r hr =>
      have hc := grantable_connected hr
      exact ih (enterDraining_moves (h.trans (.sequencer s (some r) s.sequencer.hold)) r _ _ _ hc)
    next => exact h

/-- A rack that is QUEUED leaves the queue for a state of rest (R127). -/
theorem leavesQueue_moves (h : Moves may u s) (r : Rack) (outcome : ConnectOutcome) (x : RackSwitch)
    (cause : RackCause) (hx : x.state.rests = true) (ho : x.operation.protective = false)
    (hb : x.hardBreaks = (s.sequencer.racks.get r).hardBreaks) :
    Moves may u (changeRack r x cause (connectResult r outcome (dequeue r s))) :=
  changeRack_moves_of r x cause (h.trans (.leaves s r _ (x.rewatch _) hx ho hb))

theorem leaveQueue_moves (h : Moves may u s) (r : Rack) (outcome : ConnectOutcome)
    (cause : RackCause) : Moves may u (leaveQueue r outcome cause s) :=
  leavesQueue_moves h r outcome _ cause rfl rfl rfl

theorem abandonPrecharge_moves (h : Moves may u s) (r : Rack) (outcome : ConnectOutcome)
    (cause : RackCause) (hr : (s.rackState r).conducts = true) :
    Moves may u (abandonPrecharge r outcome cause s) :=
  enterOpening_moves (connectResult_moves h r outcome) r _ cause (by
    rw [connectResult, post_rackState]; exact hr)

/-! ## Protective orders -/

theorem takeOver_moves (h : Moves may u s) (r : Rack) : Moves may u (takeOver r s) :=
  (freeSlot_moves h r).trans (.rack _ _ _ (.keeping rfl rfl rfl))

theorem lockQueued_moves (h : Moves may u s) (r : Rack) (kind : TripKind) :
    Moves may u (lockQueued r kind s) := by
  refine leavesQueue_moves h r _ _ _ rfl rfl ?_
  simp only [connectResult, post_sequencer]
  rfl

theorem lockOpen_moves (h : Moves may u s) (r : Rack) (kind : TripKind)
    (hr : s.rackState r = .opened) : Moves may u (lockOpen r kind s) := by
  change (s.sequencer.racks.get r).state = .opened at hr
  exact changeRack_moves h r _ _ ⟨by simp [RackState.passes, hr],
    fun _ => .inr ⟨rfl, by rw [hr]; rfl⟩, .inl rfl⟩

theorem takeOverOpening_moves (h : Moves may u s) (r : Rack) (op : Operation)
    (hr : s.rackState r = .opening) : Moves may u (takeOverOpening r op s) := by
  have hs : ((takeOver r s).sequencer.racks.get r).state = .opening :=
    (takeOver_rackState r r s).trans hr
  exact (takeOver_moves h r).trans
    (.rack _ _ _ (.passing (by simp) (fun _ => by simp [hs, RackState.drains]) rfl))

/-- The connect of a rack that may conduct is taken over by an order (R138, R139). -/
theorem protectiveOpening_moves (h : Moves may u s) (r : Rack) (op : Operation) (cause : RackCause)
    (hr : (s.rackState r).conducts = true) :
    Moves may u (enterOpening r op cause (takeOver r s)) :=
  enterOpening_moves (takeOver_moves h r) r op cause (by rw [takeOver_rackState]; exact hr)

theorem immediateOrder_moves (h : Moves may u s) (kind : TripKind) (r : Rack) :
    Moves may u (immediateOrder kind r s) := by
  have conducting (x : RackState) (hx : s.rackState r = x) (hc : x.conducts = true) :
      Moves may u (enterOpening r .protectiveImmediate (.trip kind)
        (takeOver r (connectResult r .abortedByTrip s))) :=
    protectiveOpening_moves (connectResult_moves h r _) r _ _
      (by rw [connectResult, post_rackState, hx]; exact hc)
  unfold immediateOrder
  split
  next hr => exact conducting _ hr rfl
  next hr => exact conducting _ hr rfl
  next hr => exact protectiveOpening_moves h r _ _ (by rw [hr]; rfl)
  next hr => exact protectiveOpening_moves h r _ _ (by rw [hr]; rfl)
  next hr => exact takeOverOpening_moves h r _ hr
  next => exact lockQueued_moves h r kind
  next hr => exact lockOpen_moves h r kind hr
  next => exact h
  next => exact h

theorem shortenDrain_moves (h : Moves may u s) (r : Rack) (hr : s.rackState r = .draining) :
    Moves may u (shortenDrain r s) := by
  have hs : ((takeOver r s).sequencer.racks.get r).state = .draining :=
    (takeOver_rackState r r s).trans hr
  unfold shortenDrain
  simp only []
  have hm := (takeOver_moves h r).trans (.rack _ r
    { (takeOver r s).sequencer.racks.get r with
      operation := .protectiveDeferred
      timer := ((takeOver r s).sequencer.racks.get r).timer.map fun t =>
        { t with limit := min t.limit (elapsed s.now t.since + s.deferredDrain) } }
    (.passing (by simp) (fun _ => by simp [hs, RackState.drains]) rfl))
  split
  · exact endDrain_moves hm r _ (by simp [State.rackState, hs, RackState.conducts])
  · exact hm

theorem deferredOrder_moves (h : Moves may u s) (kind : TripKind) (r : Rack) :
    Moves may u (deferredOrder kind r s) := by
  have conducting (x : RackState) (hx : s.rackState r = x) (hc : x.conducts = true) :
      Moves may u (enterOpening r .protectiveDeferred (.trip kind)
        (takeOver r (connectResult r .abortedByTrip s))) :=
    protectiveOpening_moves (connectResult_moves h r _) r _ _
      (by rw [connectResult, post_rackState, hx]; exact hc)
  unfold deferredOrder
  simp only []
  split
  next hr =>
    exact enterDraining_moves (takeOver_moves h r) r _ _ _ (by rw [takeOver_rackState]; exact hr)
  next hr => exact h.ite (shortenDrain_moves h r hr)
  next hr => exact conducting _ hr rfl
  next hr => exact conducting _ hr rfl
  next hr => exact h.ite (takeOverOpening_moves h r _ hr)
  next => exact lockQueued_moves h r kind
  next hr => exact lockOpen_moves h r kind hr
  next => exact h
  next => exact h

theorem order_moves (h : Moves may u s) (kind : TripKind) (racks : List Rack) :
    Moves may u (order kind racks s) := by
  unfold order
  split
  · exact h.onRacks fun r _ k => immediateOrder_moves k kind r
  · exact h.onRacks fun r _ k => deferredOrder_moves k kind r

/-! ### An order leaves no rack it names ready to conduct -/

/-- No liberty. -/
def nothing : Liberty → Prop := fun _ => False

theorem Moves.live_stays (h : Moves nothing s t) {r : Rack} (hr : (s.rackState r).live = false) :
    (t.rackState r).live = false := h.live_false id id hr

theorem enterOpening_live (r : Rack) (op : Operation) (cause : RackCause) (s : State) :
    ((enterOpening r op cause s).rackState r).live = false := by
  unfold enterOpening
  simp only []
  split
  · refine (passOpenProof_moves (.refl _) r cause ?_).live_stays ?_ <;>
      simp [changeRack_rackState, RackState.live]
  · simp [changeRack_rackState, RackState.live]

theorem enterDraining_live (r : Rack) (op : Operation) (ms : Nat) (cause : RackCause) (s : State) :
    ((enterDraining r op ms cause s).rackState r).live = false := by
  unfold enterDraining
  simp only []
  split
  · exact enterOpening_live _ _ _ _
  · simp [changeRack_rackState, RackState.live]

theorem immediateOrder_live (kind : TripKind) (r : Rack) (s : State) :
    ((immediateOrder kind r s).rackState r).live = false := by
  unfold immediateOrder
  split
  next => exact enterOpening_live _ _ _ _
  next => exact enterOpening_live _ _ _ _
  next => exact enterOpening_live _ _ _ _
  next => exact enterOpening_live _ _ _ _
  next hr => exact (takeOverOpening_moves (.refl s) r _ hr).live_stays (by rw [hr]; rfl)
  next => simp [lockQueued, changeRack_rackState, RackState.live]
  next => simp [lockOpen, changeRack_rackState, RackState.live]
  next hr => rw [hr]; rfl
  next hr => rw [hr]; rfl

theorem deferredOrder_live (kind : TripKind) (r : Rack) (s : State) :
    ((deferredOrder kind r s).rackState r).live = false := by
  unfold deferredOrder
  simp only []
  split
  next => exact enterDraining_live _ _ _ _ _
  next hr =>
    exact ((Moves.refl s).ite (shortenDrain_moves (.refl s) r hr)).live_stays (by rw [hr]; rfl)
  next => exact enterOpening_live _ _ _ _
  next => exact enterOpening_live _ _ _ _
  next hr =>
    exact ((Moves.refl s).ite (takeOverOpening_moves (.refl s) r _ hr)).live_stays (by rw [hr]; rfl)
  next => simp [lockQueued, changeRack_rackState, RackState.live]
  next => simp [lockOpen, changeRack_rackState, RackState.live]
  next hr => rw [hr]; rfl
  next hr => rw [hr]; rfl

/-- Racks handled one after the other are each left not live. -/
theorem forRacks_live {act : Rack → State → State} (hm : ∀ r t, Moves nothing t (act r t))
    (hl : ∀ r t, ((act r t).rackState r).live = false) {racks : List Rack} {r : Rack}
    (hr : r ∈ racks) (s : State) : ((forRacks racks act s).rackState r).live = false := by
  induction racks generalizing s with
  | nil => cases hr
  | cons k ks ih =>
    rcases List.mem_cons.1 hr with rfl | hr
    · have later : Moves nothing (act r s) (forRacks ks act (act r s)) :=
        (Moves.refl _).onRacks fun k t h => h.trans (hm k t)
      exact later.live_stays (hl r s)
    · exact ih hr _

theorem order_live (kind : TripKind) {racks : List Rack} {r : Rack} (hr : r ∈ racks) (s : State) :
    ((order kind racks s).rackState r).live = false := by
  unfold order
  split
  · exact forRacks_live (fun k t => immediateOrder_moves (.refl t) kind k)
      (immediateOrder_live kind) hr s
  · exact forRacks_live (fun k t => deferredOrder_moves (.refl t) kind k)
      (deferredOrder_live kind) hr s

/-! ## Withdrawn connects and released racks -/

theorem releaseLocked_moves (h : Moves may u s) (r : Rack) : Moves may u (releaseLocked r s) := by
  unfold releaseLocked
  split
  next hc =>
    simp only [Bool.and_eq_true, decide_eq_true_eq] at hc
    have hr : (s.sequencer.racks.get r).state = .locked := hc.1
    exact changeRack_moves h r _ _ ⟨by simp [RackState.passes, hr],
      fun _ => .inr ⟨rfl, by rw [hr]; rfl⟩, .inl rfl⟩
  next => exact h

theorem cancelQueue_moves (h : Moves may u s) (cause : RackCause) :
    Moves may u (cancelQueue cause s) :=
  h.onRacks fun r _ k => leaveQueue_moves k r _ cause

theorem withdrawConnects_moves (h : Moves may u s) : Moves may u (withdrawConnects s) := by
  refine (cancelQueue_moves h .fireOrGas).onRacks fun r t k => ?_
  split
  next hr => exact abandonPrecharge_moves k r _ _ (by rw [hr]; rfl)
  next => exact k

theorem withdrawRack_moves (h : Moves may u s) (r : Rack) : Moves may u (withdrawRack r s) := by
  unfold withdrawRack
  split
  next => exact leaveQueue_moves h r _ _
  next hr => exact abandonPrecharge_moves h r _ _ (by rw [hr]; rfl)
  next => exact h.trans (.rack _ _ _ (.keeping rfl rfl rfl))
  next => exact h.trans (.rack _ _ _ (.keeping rfl rfl rfl))
  all_goals exact h

/-! ## Taking causes and clearing latches -/

theorem handLatch_moves (h : Moves may u s) : Moves may u (handLatch s) := by
  refine (judgeFlags_moves h false).anyOrder fun act ha t k => ?_
  simp only [List.mem_cons, List.not_mem_nil, or_false] at ha
  rcases ha with rfl | rfl
  · exact judgePermit_moves k
  · exact produceContainerSummary_moves k

/-- What follows the record of a cause: the order, the breaker pulse, the event and the hand-over. -/
theorem takeCause_after (kind : TripKind) (racks : List Rack) (e : Event) (s : State) :
    Moves may (order kind racks s) (handLatch (post e
      (if kind.tripsBreaker then requestPulse (order kind racks s) else order kind racks s))) :=
  handLatch_moves (post_moves ((requestPulse_moves (.refl _)).ite (.refl _)) e)

theorem takeCause_live (kind : TripKind) (named : Option Rack) (data : CauseData) (s : State)
    {r : Rack} (hr : r ∈ namedRacks named) :
    ((takeCause kind named data s).rackState r).live = false :=
  (takeCause_after kind _ _ _).live_stays (order_live kind hr _)

theorem takeCause_moves (h : Moves may u s) (kind : TripKind) (named : Option Rack)
    (data : CauseData) : Moves may u (takeCause kind named data s) :=
  h.trans (.take kind named data
    ((order_moves (.refl _) kind (namedRacks named)).trans (takeCause_after kind _ _ _))
    fun _ hr => takeCause_live kind named data s hr)

theorem put_clear_latch (x : RackLatches) (k : TripKind) : (x.put k .clear).latch k = .clear := by
  cases k <;> rfl

theorem put_latch_ne (x : RackLatches) {k j : TripKind} (l : Latch) (h : j ≠ k) :
    (x.put k l).latch j = x.latch j := by
  cases k <;> cases j <;> first | rfl | exact absurd rfl h

theorem clearRackLatch_moves (h : Moves may u s) (hm : may .clearRack) (r : Rack) (kind : TripKind) :
    Moves may u (clearRackLatch r kind s) := by
  refine (judgeFlags_moves (h.trans (.clearRack s r _ kind hm ?_ fun j hj => ?_)) false).anyOrder
    fun act ha t k => ?_
  · exact (by cases kind <;> rfl : _ = (((s.trips.racks.get r).put kind .clear).latch kind)).trans
      (put_clear_latch _ _)
  · exact (by cases j <;> rfl : _ = (((s.trips.racks.get r).put kind .clear).latch j)).trans
      (put_latch_ne _ _ hj)
  · simp only [List.mem_cons, List.not_mem_nil, or_false] at ha
    rcases ha with rfl | rfl | rfl
    · exact post_moves k _
    · exact releaseLocked_moves k r
    · exact produceContainerSummary_moves k

theorem clearContainerLatch_moves (h : Moves may u s) (kind : TripKind) (hm : may (.clear kind)) :
    Moves may u (clearContainerLatch kind s) := by
  refine (judgeFlags_moves (h.trans (.clear s kind hm)) false).anyOrder fun act ha t k => ?_
  simp only [List.mem_cons, List.not_mem_nil, or_false] at ha
  rcases ha with rfl | rfl | rfl | rfl
  · exact post_moves k _
  · exact k.onRacks fun r _ k => releaseLocked_moves k r
  · exact judgePermit_moves k
  · exact produceContainerSummary_moves k

theorem judgeRackLatch_moves (h : Moves may u s) (hm : may .clearRack) (r : Rack) (kind : TripKind) :
    Moves may u (judgeRackLatch r kind s) := (clearRackLatch_moves h hm r kind).ite h

theorem judgeRackLatches_moves (h : Moves may u s) (hm : may .clearRack) (r : Rack) :
    Moves may u (judgeRackLatches r s) :=
  h.foldl fun _ kind k => judgeRackLatch_moves k hm r kind

theorem judgeContainerLatch_moves (h : Moves may u s) (kind : TripKind) (hm : may (.clear kind)) :
    Moves may u (judgeContainerLatch kind s) := (clearContainerLatch_moves h kind hm).ite h

theorem restartHeard_moves (h : Moves may u s) (hm : may .clearRack) (node : Nat) :
    Moves may u (restartHeard node s) := by
  refine h.onRacks fun r t k => ?_
  simp only []
  split
  · exact judgeRackLatch_moves (judgeRackLatch_moves (markHeard_moves k r _) hm r _) hm r _
  · exact k

theorem overcurrentCheck_moves (h : Moves may u s) (r : Rack) :
    Moves may u (overcurrentCheck r s) := by
  unfold overcurrentCheck
  split
  · exact h
  · split
    · exact setOverrun_moves h r none
    · split
      · exact h
      · split
        · exact setOverrun_moves h r none
        · simp only []
          split
          · exact setOverrun_moves (takeCause_moves (setOverrun_moves h r none) _ _ _) r none
          · exact setOverrun_moves h r _

theorem tripSetComplete_moves (h : Moves may u s) (hm : may .clearRack) (r : Rack) :
    Moves may u (tripSetComplete r s) :=
  judgeRackLatches_moves (markHeard_moves (overcurrentCheck_moves h r) r _) hm r

end Sys2Proof.Machine

namespace Sys2Proof.Machine

variable {may : Liberty → Prop} {u s t : State}

/-! ## The rack sequencer's flow -/

theorem becomeConnected_moves (h : Moves may u s) (r : Rack) (cause : RackCause)
    (hr : s.rackState r = .joining) : Moves may u (becomeConnected r cause s) := by
  change (s.sequencer.racks.get r).state = .joining at hr
  unfold becomeConnected
  refine freeSlot_moves (connectResult_moves (changeRack_moves h r _ cause ?_) r _) r
  exact .passing (by simp [hr, RackState.passes]) (by intro hp; cases hp) rfl

theorem mainProven_moves (h : Moves may u s) (r : Rack) (cause : RackCause)
    (hr : s.rackState r = .joining) : Moves may u (mainProven r cause s) := by
  unfold mainProven
  simp only []
  split
  · exact h.trans (.rack _ _ _ (.keeping rfl rfl rfl))
  · exact becomeConnected_moves h r _ hr

/-- Joining, once the rack is written JOINING. -/
theorem enterJoining_moves_of (r : Rack) (prechargeUsed : Bool)
    (hw : ∀ x : RackSwitch, x.state = .joining →
      x.operation = (s.sequencer.racks.get r).operation →
      x.hardBreaks = (s.sequencer.racks.get r).hardBreaks → Moves may u (s.setRackSwitch r x)) :
    Moves may u (enterJoining r prechargeUsed s) := by
  unfold enterJoining
  simp only []
  have hm := changeRack_moves_of (may := may) (u := u) r
    { s.sequencer.racks.get r with
      state := .joining
      prechargeUsed := prechargeUsed
      timer := some ⟨.closeProof, s.now, s.contactorProof⟩ } .setComplete
    (hw _ rfl rfl rfl)
  split
  · exact mainProven_moves hm r _ (by simp [changeRack_rackState])
  · exact hm

theorem find_isSome_mem {s : State} {g : GridRecord} {e : QueueEntry}
    (h : (s.sequencer.queue.find? fun e => (s.pathOf g e.rack).isSome) = some e) :
    ∃ x ∈ s.sequencer.queue, x.rack = e.rack := ⟨e, List.mem_of_find?_eq_some h, rfl⟩

/-- The scan starts one queued rack or none (R129). -/
theorem scanQueue_moves (h : Moves may u s) (hm : may .start) (g : GridRecord) :
    Moves may u (scanQueue g s) := by
  unfold scanQueue
  split
  · split
    next e he =>
      have hq := find_isSome_mem he
      simp only []
      split
      · exact changeRack_moves_of _ _ _ (h.trans (.starts s _ _ hm hq (.inl rfl) rfl))
      · exact enterJoining_moves_of _ _ fun x hx ho _ => h.trans (.starts s _ x hm hq (.inr hx) ho)
      · exact h
    · exact h
  · exact h

theorem prechargeSet_moves (h : Moves may u s) (r : Rack) (g : GridRecord)
    (hr : s.rackState r = .precharging) : Moves may u (prechargeSet r g s) := by
  change (s.sequencer.racks.get r).state = .precharging at hr
  unfold prechargeSet
  split
  · split
    · refine enterJoining_moves_of r true fun x hx ho hb => h.trans (.rack s r x ⟨?_, fun _ => ?_,
        .inl hb⟩)
      · simp [hx, hr, RackState.passes]
      · exact .inr ⟨ho, by rw [hr]; rfl⟩
    · exact h
  · exact h

theorem drainSet_moves (h : Moves may u s) (r : Rack) (hr : s.rackState r = .draining) :
    Moves may u (drainSet r s) := by
  unfold drainSet
  split
  · exact (endDrain_moves h r _ (by rw [hr]; rfl)).ite h
  · exact h

theorem moveAtSet_moves (h : Moves may u s) (r : Rack) (g : GridRecord) :
    Moves may u (moveAtSet r g s) := by
  unfold moveAtSet
  split
  next hr => exact prechargeSet_moves h r g hr
  next hr => exact drainSet_moves h r hr
  all_goals exact h

theorem switchSetComplete_moves (h : Moves may u s) (hm : may .start) (r : Rack) :
    Moves may u (switchSetComplete r s) := by
  unfold switchSetComplete
  split
  · exact scanQueue_moves (grantDisconnects_moves (moveAtSet_moves h r _) 4) hm _
  · exact h

/-- The end of an operation, once the rack is written in its final state. -/
theorem endOperation_moves_of (r : Rack) (x : RackSwitch) (cause : RackCause)
    (hw : Moves may u (s.setRackSwitch r
      (({ x with operation := .none, timer := none, disconnectPending := false } :
        RackSwitch).rewatch s.now))) : Moves may u (endOperation r x cause s) := by
  have hm := freeSlot_moves (changeRack_moves_of r _ cause hw) r
  unfold endOperation
  simp only []
  split
  · exact completionReport_moves hm _ _ _
  · exact hm

theorem endInFault_moves (h : Moves may u s) (r : Rack) (kind : FaultKind) (cause : RackCause)
    (hr : s.rackState r ≠ .queued) : Moves may u (endInFault r kind cause s) :=
  endOperation_moves h r _ cause (passes_of_rests rfl hr) rfl

theorem takeWelded_moves (h : Moves may u s) (r : Rack) (c : Contactor) :
    Moves may u (takeWelded r c s) := takeCause_moves h _ _ _

theorem weldAtRest_moves (h : Moves may u s) (r : Rack) (c : Contactor) :
    Moves may u (weldAtRest r c s) := by
  refine takeWelded_moves ?_ r c
  split
  next hq =>
    exact endOperation_moves_of r _ _
      (h.trans (.leaves s r _ _ rfl rfl (by simp [RackSwitch.rewatch, connectResult,
        post_sequencer, dequeue])))
  next hq => exact endInFault_moves h r _ _ hq

theorem failClosed_moves (h : Moves may u s) (r : Rack) (hr : (s.rackState r).conducts = true) :
    Moves may u (failClosed r s) := by
  unfold failClosed
  refine endInFault_moves (h.trans (.rack _ _ _ (.keeping (by rfl) (by rfl) (by rfl)))) r _ _ ?_
  intro hq
  simp only [State.rackState, State.setRackSwitch_sequencer, PerRack.get_set_self] at hr hq
  rw [hq] at hr
  cases hr

theorem expireRackWatch_moves (h : Moves may u s) (r : Rack) (c : Contactor) :
    Moves may u (expireRackWatch r c s) := by
  have hx : (((s.sequencer.racks.get r).fillWatch c s.contactorProof)).state =
      (s.sequencer.racks.get r).state := by cases c <;> rfl
  have h1 : Moves may u
      (s.setRackSwitch r ((s.sequencer.racks.get r).fillWatch c s.contactorProof)) :=
    h.trans (.rack _ _ _ (by cases c <;> exact .keeping rfl rfl rfl))
  have conducting (hc : ((s.sequencer.racks.get r).state).conducts = true) :
      Moves may u (match c with
        | .main => failClosed r
            (s.setRackSwitch r ((s.sequencer.racks.get r).fillWatch c s.contactorProof))
        | .precharge => takeWelded r c
            (s.setRackSwitch r ((s.sequencer.racks.get r).fillWatch c s.contactorProof))) := by
    cases c
    · exact failClosed_moves h1 r (by simpa [State.rackState, hx] using hc)
    · exact takeWelded_moves h1 r _
  unfold expireRackWatch
  simp only []
  split
  next => exact weldAtRest_moves h1 r c
  next => exact weldAtRest_moves h1 r c
  next => exact weldAtRest_moves h1 r c
  next => exact h1.ite (weldAtRest_moves h1 r c)
  next hs => cases c <;> exact conducting (by rw [hs]; rfl)
  next hs => cases c <;> exact conducting (by rw [hs]; rfl)
  all_goals exact h1

theorem watchDue_moves (h : Moves may u s) (r : Rack) (c : Contactor) :
    Moves may u (watchDue r c s) := (expireRackWatch_moves h r c).ite h

theorem setFeedback_move (x : RackSwitch) (c : Contactor) (closed : Bool) :
    RackMove x (x.setFeedback c closed) := by cases c <;> exact .keeping rfl rfl rfl

theorem changeFeedback_moves (h : Moves may u s) (r : Rack) (c : Contactor) (closed : Bool) :
    Moves may u (changeFeedback r c closed s) := by
  have h1 := h.trans (.rack s r _ ((setFeedback_move _ c closed).rewatch s.now))
  have hs : ∀ x : RackSwitch, x = ((s.sequencer.racks.get r).setFeedback c closed).rewatch s.now →
      (s.setRackSwitch r x).rackState r = x.state := by intro x _; simp [State.rackState]
  unfold changeFeedback
  simp only []
  split
  next hj => exact (mainProven_moves h1 r _ ((hs _ rfl).trans hj)).ite h1
  next ho => exact (passOpenProof_moves h1 r _ (by rw [hs _ rfl, ho]; simp)).ite h1
  all_goals exact h1

theorem operationDue_state {s : State} {r : Rack} {st : RackState} {k : OperationTimerKind}
    (h : s.operationDue r st k = true) : s.rackState r = st := by
  simp only [State.operationDue, Bool.and_eq_true, decide_eq_true_eq] at h
  exact h.1

theorem expireCloseProof_moves (h : Moves may u s) (r : Rack) (hr : s.rackState r = .joining) :
    Moves may u (expireCloseProof r s) :=
  connectResult_moves (endInFault_moves h r _ _ (by simp [hr])) r _

theorem takeWeldedOf_moves (h : Moves may u s) (r : Rack) : Moves may u (takeWeldedOf r s) := by
  have hp := h.free (sameBut_mono
    (pickFree_sameBut (s.sequencer.racks.get r).closedContactors s) (by simp))
  unfold takeWeldedOf
  split
  next c s1 he => rw [he] at hp; exact takeWelded_moves hp r c
  next s1 he => rw [he] at hp; exact hp

theorem expireOpenProof_moves (h : Moves may u s) (r : Rack) (hr : s.rackState r = .opening) :
    Moves may u (expireOpenProof r s) :=
  takeWeldedOf_moves (endInFault_moves h r _ _ (by simp [hr])) r

theorem waitDue_moves (h : Moves may u s) (r : Rack) : Moves may u (waitDue r s) :=
  (leaveQueue_moves h r _ _).ite h

theorem dropAttempts_moves (h : Moves may u s) (r : Rack) : Moves may u (dropAttempts r s) :=
  h.trans (.rack _ _ _ (.keeping rfl rfl rfl))

/-! ### CONNECT, DISCONNECT, CLEAR_FAULT -/

/-- A rack that CONNECT accepts is OPEN and holds no latch (R126). -/
theorem connectVerdict_accepts {s : State} {r : Rack}
    (h : s.connectVerdict r = .ok ∨ s.connectVerdict r = .prechargeBudget) :
    s.rackState r = .opened ∧ s.latchedFor r = false := by
  unfold State.connectVerdict at h
  simp only [] at h
  split at h
  · simp at h
  · split at h
    · simp at h
    · split at h
      · simp at h
      next hl =>
        refine ⟨?_, by simpa using hl⟩
        split at h <;> first | assumption | simp at h

theorem connectOne_moves (h : Moves may u s) (hm : may .connect) (r : Rack) :
    Moves may u (connectOne r s).2 := by
  unfold connectOne
  simp only []
  split
  next hv =>
    obtain ⟨ho, hl⟩ := connectVerdict_accepts (by simpa using hv)
    exact changeRack_moves_of r _ _ (h.trans (.queues s r _ hm ho hl rfl rfl))
  next => exact h

theorem perRackAnswer_moves (h : Moves may u s) {one : Rack → State → Result × State}
    (ho : ∀ r t, Moves may u t → Moves may u (one r t).2) (racks : List Rack) :
    Moves may u (perRackAnswer one racks s).state := by
  have run : ∀ (racks : List Rack) (acc : List (Rack × Result) × State), Moves may u acc.2 →
      Moves may u (racks.foldl (fun acc r =>
        let (v, s1) := one r acc.2
        (acc.1 ++ [(r, v)], s1)) acc).2 := by
    intro racks
    induction racks with
    | nil => intro acc h; exact h
    | cons r rs ih => intro acc h; exact ih _ (ho r acc.2 h)
  exact run racks ([], s) h

theorem answerConnect_moves (h : Moves may u s) (hm : may .connect) (mask : RackMask) :
    Moves may u (answerConnect mask s).state := by
  unfold answerConnect
  split
  · exact h
  · exact h
  · split
    · exact h
    · exact perRackAnswer_moves h (fun r t k => connectOne_moves k hm r) _

theorem setPendingDisconnect_moves (h : Moves may u s) (r : Rack) :
    Moves may u (setPendingDisconnect r s) := h.trans (.rack _ _ _ (.keeping rfl rfl rfl))

theorem disconnectOne_moves (h : Moves may u s) (r : Rack) :
    Moves may u (disconnectOne r s).2 := by
  unfold disconnectOne
  split
  · exact h
  · split
    next => exact leaveQueue_moves h r _ _
    next hr => exact abandonPrecharge_moves h r _ _ (by rw [hr]; rfl)
    next => exact setPendingDisconnect_moves h r
    next => exact setPendingDisconnect_moves h r
    all_goals exact h

theorem answerDisconnect_moves (h : Moves may u s) (mask : RackMask) :
    Moves may u (answerDisconnect mask s).state := by
  unfold answerDisconnect
  split
  · exact h
  · split
    · exact h
    · exact perRackAnswer_moves h (fun r t k => disconnectOne_moves k r) _

/-- The hard-break count of a rack is cleared. -/
theorem RackMove.clearing {x y : RackSwitch} (hs : y.state = x.state) (ho : y.operation = x.operation)
    (hb : y.hardBreaks = 0) : RackMove x y :=
  ⟨by simp [hs], (RackMove.keeping (x := x) (y := { y with hardBreaks := x.hardBreaks })
    hs ho rfl).protective, .inr (.inl hb)⟩

theorem clearHardBreaks_moves (h : Moves may u s) (r : Rack) :
    Moves may u (clearHardBreaks r s).2 := by
  unfold clearHardBreaks
  simp only []
  split
  · exact h
  · exact h.trans (.rack _ _ _ (.clearing rfl rfl rfl))

theorem clearFaultOne_moves (h : Moves may u s) (hm : may (.clear .welded)) (r : Rack) :
    Moves may u (clearFaultOne r s).2 := by
  unfold clearFaultOne
  simp only []
  split
  · exact h
  · split
    next hs =>
      split
      · refine judgeContainerLatch_moves (changeRack_moves h r _ _ ⟨?_, fun _ => .inr ⟨?_, ?_⟩,
          .inr (.inl ?_)⟩) _ hm
        · rw [hs]; dsimp only; split <;> rfl
        · rfl
        · rw [hs]; rfl
        · rfl
      · exact h
    next => exact clearHardBreaks_moves h r
    next => exact clearHardBreaks_moves h r
    all_goals exact h

theorem answerClearFault_moves (h : Moves may u s) (hm : may (.clear .welded)) (mask : RackMask) :
    Moves may u (answerClearFault mask s).state := by
  unfold answerClearFault
  split
  · exact h
  · exact perRackAnswer_moves h (fun r t k => clearFaultOne_moves k hm r) _

theorem switchAtGridSwap_moves (h : Moves may u s) : Moves may u (switchAtGridSwap s) :=
  (h.onRacks fun r _ k => waitDue_moves k r).onRacks
    fun r _ k => watchDue_moves (watchDue_moves k r .main) r .precharge

theorem weldedAtReset_moves (h : Moves may u s) : Moves may u (weldedAtReset s) := by
  refine h.anyOrder fun act ha t k => ?_
  obtain ⟨r, _, rfl⟩ := List.mem_map.1 ha
  exact takeWeldedOf_moves k r

/-! ## The balancing scheduler -/

theorem endActive_moves (h : Moves may u s) (named : BalanceRecord → Bool) :
    Moves may u (endActive named s) := h.free (by simp [sameBut_refl])

theorem boundActive_moves (h : Moves may u s) (n : Nat) : Moves may u (boundActive n s) :=
  h.free (by simp [sameBut_refl])

theorem moveRecords_moves (h : Moves may u s) (f : BalanceRecord → BalanceRecord) :
    Moves may u (moveRecords f s) := h.free (by simp [sameBut_refl])

theorem reload_moves (h : Moves may u s) (named : Rack → Bool) : Moves may u (reload named s) :=
  postAll_moves (moveRecords_moves h _) _

theorem powerOnReload_moves (h : Moves may u s) : Moves may u (powerOnReload s) := by
  unfold powerOnReload
  split
  · exact (reload_moves h _).trans (.balance _ _)
  · exact h

theorem secondBoundary_moves (h : Moves may u s) : Moves may u (secondBoundary s) :=
  postAll_moves (moveRecords_moves h _) _

theorem firstSetCheck_moves (h : Moves may u s) (r : Rack) : Moves may u (firstSetCheck r s) := by
  unfold firstSetCheck
  split
  · exact postAll_moves ((h.trans (.balance _ _)).trans (.balance _ _)) _
  · exact h

theorem balanceSetComplete_moves (h : Moves may u s) (r : Rack) :
    Moves may u (balanceSetComplete r s) := by
  refine (firstSetCheck_moves h r).free ?_
  unfold balanceSetComplete
  simp only [handMasks_frame, sameBut_ite, selectCells_frame, mapRecords_frame,
    setRackBalance_frame, sameBut_refl, ite_self, List.mem_cons, or_true, true_or]

/-! ## The cooling controller -/

theorem withCooling_moves (h : Moves may u s) (x : Cooling) (hx : x.outputs = s.cooling.outputs) :
    Moves may u (s.withCooling x) := h.trans (.cooling s x fun o => by rw [hx]; exact ⟨rfl, rfl⟩)

theorem composeCommands_moves (h : Moves may u s) : Moves may u (composeCommands s) :=
  h.trans (.compose s)

theorem refreshFactor_moves (h : Moves may u s) : Moves may u (refreshFactor s) :=
  withCooling_moves h _ (by rfl)

theorem refreshAllowance_moves (h : Moves may u s) : Moves may u (refreshAllowance s) := by
  unfold refreshAllowance
  simp only []
  split
  · exact h
  · exact boundActive_moves (withCooling_moves h _ (by rfl)) _

theorem judgeCoolingLoss_moves (h : Moves may u s) : Moves may u (judgeCoolingLoss s) := by
  unfold judgeCoolingLoss
  split
  · exact withCooling_moves h _ (by rfl)
  · split
    · split
      · exact takeCause_moves (withCooling_moves h _ (by rfl)) _ _ _
      · exact h
    · exact h

theorem pumpChanged_moves (h : Moves may u s) (hm : may (.clear .coolingLoss)) :
    Moves may u (pumpChanged s) := judgeContainerLatch_moves (judgeCoolingLoss_moves h) _ hm

theorem statusesChanged_moves (h : Moves may u s) (hm : may (.clear .coolingLoss)) (pump : Bool) :
    Moves may u (statusesChanged pump s) := by
  have h1 := refreshAllowance_moves (refreshFactor_moves (composeCommands_moves h))
  unfold statusesChanged
  simp only []
  split
  · exact pumpChanged_moves h1 hm
  · exact h1

/-- A change of an output's status and proof timer leaves its command and feedback. -/
theorem setOutput_moves (h : Moves may u s) (o : Output) (x : OutputState)
    (hc : x.command = (s.cooling.outputs.get o).command)
    (hf : x.feedback = (s.cooling.outputs.get o).feedback) : Moves may u (s.setOutput o x) := by
  refine h.trans (.cooling _ _ fun k => ?_)
  simp only [PerOutput.get_set]
  split
  next hk => subst hk; exact ⟨hc, hf⟩
  next => exact ⟨rfl, rfl⟩

theorem expireProof_moves (h : Moves may u s) (hm : may (.clear .coolingLoss)) (o : Output) :
    Moves may u (expireProof o s) := by
  unfold expireProof
  exact statusesChanged_moves (post_moves (setOutput_moves h o _ (by rfl) (by rfl)) _) hm _

theorem setLevel_moves (h : Moves may u s) (k : Nat) : Moves may u (setLevel k s) :=
  refreshAllowance_moves (composeCommands_moves (withCooling_moves h _ (by rfl)))

theorem setHeaterDemand_moves (h : Moves may u s) (on : Bool) :
    Moves may u (setHeaterDemand on s) :=
  h.ite (composeCommands_moves (withCooling_moves h _ (by rfl)))

theorem resolveVentilation_moves (h : Moves may u s) : Moves may u (resolveVentilation s) := by
  unfold resolveVentilation
  simp only []
  split
  · exact h
  · exact produceContainerSummary_moves
      (refreshAllowance_moves (composeCommands_moves (withCooling_moves h _ (by rfl))))

theorem expireBlindHold_moves (h : Moves may u s) : Moves may u (expireBlindHold s) := by
  have h1 := withCooling_moves h { s.cooling with blind := .fallback, blindHold := none } rfl
  exact post_moves (setHeaterDemand_moves (h1.ite (setLevel_moves h1 _)) false) _

theorem changeMode_moves (h : Moves may u s) (after : Mode) (cause : ModeCause) :
    Moves may u (changeMode after cause s) := by
  unfold changeMode
  simp only []
  split
  · exact h
  · refine (h.trans (.site s { s.site with mode := after }
      ⟨rfl, rfl, rfl, rfl, rfl, id, id⟩)).anyOrder fun act ha t k => ?_
    simp only [List.mem_cons, List.not_mem_nil, or_false] at ha
    rcases ha with rfl | rfl | rfl | rfl | rfl
    · exact post_moves k _
    · exact produceContainerSummary_moves k
    · exact k.free (by simp [sameBut_refl])
    · exact (endActive_moves k _).ite k
    · exact (setLevel_moves k 0).ite k

theorem leaveStandby_moves (h : Moves may u s) (cause : ModeCause) :
    Moves may u (leaveStandby cause s) := (changeMode_moves h _ _).ite h

end Sys2Proof.Machine

namespace Sys2Proof.Machine

variable {may : Liberty → Prop} {u s t : State}

/-! ## The fire and gas unit -/

theorem tripAtStage_moves (h : Moves may u s) (hm : may (.clear .fire)) (before after : FireStage)
    (cause : StageCause) : Moves may u (tripAtStage before after cause s) :=
  judgeContainerLatch_moves ((takeCause_moves h _ _ _).ite h) _ hm

theorem siteAtStage_moves (h : Moves may u s) (before after : FireStage) (cause : StageCause) :
    Moves may u (siteAtStage before after cause s) := by
  have h1 := produceContainerSummary_moves (post_moves h (.fireStage before after cause))
  exact (leaveStandby_moves h1 _).ite h1

theorem handStage_moves (h : Moves may u s) (hm : may (.clear .fire)) (before after : FireStage)
    (cause : StageCause) : Moves may u (handStage before after cause s) := by
  refine h.anyOrder fun act ha t k => ?_
  simp only [List.mem_cons, List.not_mem_nil, or_false] at ha
  rcases ha with rfl | rfl | rfl | rfl | rfl | rfl | rfl
  · exact refreshAllowance_moves (resolveVentilation_moves k)
  · exact (endActive_moves k _).ite k
  · exact workOutContainer_moves k
  · exact (withdrawConnects_moves k).ite k
  · exact tripAtStage_moves k hm _ _ _
  · exact judgePermit_moves k
  · exact siteAtStage_moves k _ _ _

theorem moveStage_moves (h : Moves may u s) (hm : may (.clear .fire)) (after : FireStage)
    (cause : StageCause) : Moves may u (moveStage after cause s) := by
  unfold moveStage
  simp only []
  split
  · exact h
  · exact handStage_moves (h.trans (.fire _ _)) hm _ _ _

theorem expireCountdown_moves (h : Moves may u s) (hm : may (.clear .fire)) :
    Moves may u (expireCountdown s) := moveStage_moves h hm _ _

theorem countdownAtOnce_moves (h : Moves may u s) (hm : may (.clear .fire)) :
    Moves may u (countdownAtOnce s) := (expireCountdown_moves h hm).ite h

theorem pickFree_moves {α : Type} (h : Moves may u s) (xs : List α) :
    Moves may u (pickFree xs s).2 := h.free (sameBut_mono (pickFree_sameBut xs s) (by simp))

theorem moveStageFor_moves (h : Moves may u s) (hm : may (.clear .fire)) (after : FireStage)
    (causes : List StageCause) : Moves may u (moveStageFor after causes s) := by
  have hp := pickFree_moves h causes
  unfold moveStageFor
  split
  next c s1 he => rw [he] at hp; exact moveStage_moves hp hm _ _
  next s1 he => rw [he] at hp; exact hp

theorem judgeStage_moves (h : Moves may u s) (hm : may (.clear .fire)) :
    Moves may u (judgeStage s) := by
  have confirming := countdownAtOnce_moves (moveStageFor_moves h hm s.confirmedStage s.confirmations) hm
  unfold judgeStage
  split
  · exact confirming.ite ((moveStageFor_moves h hm _ _).ite h)
  · exact confirming.ite ((moveStage_moves h hm _ _).ite h)
  all_goals exact h

theorem judgeHold_moves (h : Moves may u s) (hm : may (.clear .fire)) :
    Moves may u (judgeHold s) :=
  h.ite ((h.trans (.fire _ _)).ite ((countdownAtOnce_moves (h.trans (.fire _ _)) hm).ite h))

theorem feedbackHeard_moves (h : Moves may u s) : Moves may u (feedbackHeard s) :=
  h.free (by simp [sameBut_refl])

theorem expireWatch_moves (h : Moves may u s) : Moves may u (expireWatch s) :=
  post_moves (h.trans (.fire _ _)) _

theorem takeClass_moves (h : Moves may u s) (hm : may (.clear .fire)) (l : Line) (c : LineClass) :
    Moves may u (takeClass l c s) := by
  have h1 := h.trans (.fire s { s.fire with
    lines := s.fire.lines.set l ((s.fire.lines.get l).take (s.lineSettings l) c) })
  have h2 := h1.ite (c := (s.lineSettings l).kind = .unused) (post_moves h1 (.detector l
    (s.lineSettings l).kind (s.fire.lines.get l).taken c
    ((s.fire.lines.get l).take (s.lineSettings l) c).latch))
  have h3 := (judgeHold_moves h2 hm).ite (c := (s.lineSettings l).kind = .abort) h2
  have h4 := (feedbackHeard_moves h3).ite
    (c := ((s.lineSettings l).kind = .agentFeedback && c = .active) = true) h3
  exact (judgeStage_moves h4 hm).ite h4

theorem debounceDue_moves (h : Moves may u s) (hm : may (.clear .fire)) (l : Line) :
    Moves may u (debounceDue l s) := by
  unfold debounceDue
  split
  · exact (takeClass_moves h hm l _).ite h
  · exact h

theorem clearLineLatch_moves (h : Moves may u s) (hm : may (.clear .fire)) (l : Line) :
    Moves may u (clearLineLatch l s) :=
  judgeStage_moves (post_moves (h.trans (.fire _ _)) _) hm

theorem answerFireAck_moves (h : Moves may u s) (hm : may (.clear .fire)) :
    Moves may u (answerFireAck s).state := by
  unfold answerFireAck
  simp only []
  split
  · exact h
  · exact (h.foldl fun _ _ k => k.trans (.fire _ _)).foldl fun _ l k => clearLineLatch_moves k hm l

theorem answerFireReset_moves (h : Moves may u s) (hm : may (.clear .fire)) :
    Moves may u (answerFireReset s).state := by
  unfold answerFireReset
  simp only []
  split
  · exact h
  · exact h
  all_goals
    split
    · exact moveStage_moves h hm _ _
    · exact h

theorem handGas_moves (h : Moves may u s) (hm : may (.clear .gas)) (before after : GasState)
    (channel : GasChannel) (v : Int) (stamp : PartTime) :
    Moves may u (handGas before after channel v stamp s) := by
  refine h.anyOrder fun act ha t k => ?_
  simp only [List.mem_cons, List.not_mem_nil, or_false] at ha
  rcases ha with rfl | rfl | rfl | rfl | rfl
  · exact resolveVentilation_moves k
  · exact (endActive_moves k _).ite k
  · exact (withdrawConnects_moves k).ite k
  · exact judgeContainerLatch_moves ((takeCause_moves k _ _ _).ite k) _ hm
  · have h1 := produceContainerSummary_moves k
    exact (leaveStandby_moves h1 _).ite h1

theorem gasChanged_moves (h : Moves may u s) (hf : may (.clear .fire)) (hg : may (.clear .gas))
    (channel : GasChannel) (v : Int) (stamp : PartTime) :
    Moves may u (gasChanged channel v stamp s) := by
  unfold gasChanged
  simp only []
  split
  · exact h
  · exact handGas_moves (judgeStage_moves (post_moves (h.trans (.fire _ _)) _) hf) hg _ _ _ _ _

theorem judgeH2_moves (h : Moves may u s) (hf : may (.clear .fire)) (hg : may (.clear .gas))
    (node : Nat) : Moves may u (judgeH2 node s) := by
  unfold judgeH2
  split
  · exact gasChanged_moves (h.trans (.fire _ _)) hf hg _ _ _
  · exact h

theorem judgeCo_moves (h : Moves may u s) (hf : may (.clear .fire)) (hg : may (.clear .gas))
    (node : Nat) : Moves may u (judgeCo node s) := by
  unfold judgeCo
  split
  · exact gasChanged_moves (h.trans (.fire _ _)) hf hg _ _ _
  · exact h

theorem refreshGasFault_moves (h : Moves may u s) : Moves may u (refreshGasFault s) :=
  h.trans (.fire _ _)

theorem plantNotice_moves (h : Moves may u s) (hf : may (.clear .fire)) (hg : may (.clear .gas))
    (node : Nat) : Moves may u (plantNotice node s) := by
  refine (refreshGasFault_moves h).anyOrder fun act ha t k => ?_
  simp only [List.mem_cons, List.not_mem_nil, or_false] at ha
  rcases ha with rfl | rfl
  · exact judgeH2_moves k hf hg node
  · exact judgeCo_moves k hf hg node

theorem fireSwapped_moves (h : Moves may u s) (hm : may (.clear .fire)) (old : Line → LineSettings) :
    Moves may u (fireSwapped old s) := by
  refine judgeStage_moves ((h.trans (.fire _ _)).anyOrder fun act ha t k => ?_) hm
  obtain ⟨l, _, rfl⟩ := List.mem_map.1 ha
  exact debounceDue_moves k hm l

/-! ## The sample processor -/

theorem mapRecord_moves (h : Moves may u s) (node channel : Nat) (f : Record → Record) :
    Moves may u (mapRecord node channel f s) := h.trans (.samples _ _ rfl)

theorem mapSampleNode_moves (h : Moves may u s) (node : Nat) (f : SampleNode → SampleNode) :
    Moves may u (mapSampleNode node f s) := h.trans (.samples _ _ rfl)

theorem setRackSamples_moves (h : Moves may u s) (r : Rack) (x : RackSamples) :
    Moves may u (s.setRackSamples r x) := h.trans (.samples _ _ rfl)

theorem refreshBlind_moves (h : Moves may u s) (r : Rack) : Moves may u (refreshBlind r s) :=
  h.ite (setRackSamples_moves h r _)

theorem refreshBlindOf_moves (h : Moves may u s) (r : Option Rack) :
    Moves may u (refreshBlindOf r s) := by
  cases r with
  | none => exact h
  | some r => exact refreshBlind_moves h r

theorem expireBlind_moves (h : Moves may u s) (r : Rack) (n : Nat) :
    Moves may u (expireBlind r n s) := takeCause_moves (setRackSamples_moves h r _) _ _ _

theorem blindDue_moves (h : Moves may u s) (r : Rack) : Moves may u (blindDue r s) :=
  (expireBlind_moves h r _).ite h

theorem levelChanged_moves (h : Moves may u s) (rec_ : Record) (side : LevelSide)
    (before after : Level) : Moves may u (levelChanged rec_ side before after s) := by
  refine h.anyOrder fun act ha t k => ?_
  rcases List.mem_cons.1 ha with rfl | ha
  · exact post_moves k _
  · split at ha
    · split at ha
      · simp only [List.mem_singleton] at ha; subst ha; exact takeCause_moves k _ _ _
      · cases ha
    · split at ha
      · simp only [List.mem_singleton] at ha; subst ha; exact leaveStandby_moves k _
      · cases ha
    · cases ha

theorem sideChange_moves (h : Moves may u s) (rec_ : Record) (side : LevelSide)
    (before after : Option SideState) : Moves may u (sideChange rec_ side before after s) := by
  unfold sideChange
  split
  · exact h.ite (levelChanged_moves h _ _ _ _)
  · exact h

theorem announceSides_moves (h : Moves may u s) (before after : Record) :
    Moves may u (announceSides before after s) :=
  sideChange_moves (sideChange_moves h _ _ _ _) _ _ _ _

theorem fileValue_moves (h : Moves may u s) (before : Record) (v : Int) (range : Bool)
    (stamp : PartTime) : Moves may u (fileValue before v range stamp s) :=
  announceSides_moves (refreshBlindOf_moves (mapRecord_moves h _ _ _) _) _ _

theorem invalidate_moves (h : Moves may u s) (rec_ : Record) : Moves may u (invalidate rec_ s) :=
  refreshBlindOf_moves (mapRecord_moves h _ _ _) _

theorem fileCode_moves (h : Moves may u s) (e : SlotEntry) (stamp : PartTime) (channel : Nat)
    (code : Code) : Moves may u (fileCode e stamp channel code s) := by
  unfold fileCode
  split
  · exact h
  · split
    · exact h
    · exact invalidate_moves h _
    · exact h.ite (fileValue_moves h _ _ _ _)

theorem senseOpened_moves (h : Moves may u s) (e : SlotEntry) (channel : Nat) :
    Moves may u (senseOpened e channel s) := by
  unfold senseOpened
  split
  · exact h
  · simp only []
    split
    · exact invalidate_moves (mapSampleNode_moves h _ _) _
    · exact mapSampleNode_moves h _ _

theorem takeCodes_moves (h : Moves may u s) (e : SlotEntry) (outcome : SlotOutcome) :
    Moves may u (takeCodes e outcome s) := by
  unfold takeCodes
  simp only []
  split
  · split
    · split
      · exact mapSampleNode_moves h _ _
      · refine Moves.foldl ?_ fun t c k => fileCode_moves k _ _ _ _
        split
        · exact setRackSamples_moves (mapSampleNode_moves h _ _) _ _
        · exact mapSampleNode_moves h _ _
    · exact h
  · exact mapSampleNode_moves h _ _
  · exact mapSampleNode_moves h _ _

theorem checkStale_moves (h : Moves may u s) (e : SlotEntry) (link : LinkState) :
    Moves may u (checkStale e link s) := by
  refine refreshBlindOf_moves (Moves.ite ?_ ?_) _
  · exact (mapSampleNode_moves h _ _).trans (.samples _ _ (by rfl))
  · exact mapSampleNode_moves h _ _

theorem setTrace_moves (h : Moves may u s) (index : Nat) (x : Option TraceEntry) :
    Moves may u (setTrace index x s) := h.trans (.samples _ _ (by simp))

theorem traceCode_moves (h : Moves may u s) (e : SlotEntry) (stamp : PartTime) (channel : Nat)
    (code : Code) : Moves may u (traceCode e stamp channel code s) := by
  unfold traceCode
  split
  · exact h
  · simp only []
    split
    · exact queueTrace_moves h _
    · split
      · exact post_moves (setTrace_moves (queueTrace_moves h _) _ _) _
      · exact setTrace_moves (queueTrace_moves h _) _ _

theorem traceOutcome_moves (h : Moves may u s) (e : SlotEntry) (outcome : SlotOutcome) :
    Moves may u (traceOutcome e outcome s) := by
  unfold traceOutcome
  split
  · exact h.foldl fun _ c k => traceCode_moves k _ _ _ _
  · exact h
  · exact h

theorem checkMismatch_moves (h : Moves may u s) (r : Rack) : Moves may u (checkMismatch r s) := by
  unfold checkMismatch
  split
  · exact refreshBlind_moves (setRackSamples_moves h r _) r
  · exact h

theorem prepareSet_moves (h : Moves may u s) (r : Rack) : Moves may u (prepareSet r s) :=
  checkMismatch_moves (setRackSamples_moves h r _) r

theorem samplesSwapped_moves (h : Moves may u s) (before : List SlotEntry) :
    Moves may u (samplesSwapped before s) :=
  (h.trans (.samples _ _ (by rfl))).onRacks fun r _ k => refreshBlind_moves k r

theorem clearSides_moves (h : Moves may u s) (affected : Rack → Bool) :
    Moves may u (clearSides affected s) := h.trans (.samples _ _ rfl)

theorem blindTimerSwapped_moves (h : Moves may u s) (was : Rack → Bool) (r : Rack) :
    Moves may u (blindTimerSwapped was r s) :=
  ((setRackSamples_moves h r _).ite (blindDue_moves h r)).ite (setRackSamples_moves h r _)

theorem acknowledgeSides_moves (h : Moves may u s) (r : Rack) :
    Moves may u (acknowledgeSides r s) :=
  h.foldl fun _ _ k => announceSides_moves (mapRecord_moves k _ _ _) _ _

/-! ## The limit computer -/

theorem setRackCharge_moves (h : Moves may u s) (hs : may .start) (r : Rack) (x : RackCharge) :
    Moves may u (s.setRackCharge r x) := h.trans (.limits _ _ (.inl hs))

theorem anchorCheck_moves (h : Moves may u s) (hs : may .start) (r : Rack) (e : RackEntry) (d : DerateRecord)
    (fresh : Option (Int × PartTime)) : Moves may u (anchorCheck r e d fresh s) := by
  unfold anchorCheck
  simp only []
  split
  · exact post_moves (setRackCharge_moves h hs r _) _
  · exact setRackCharge_moves h hs r _

theorem restCheck_moves (h : Moves may u s) (hs : may .start) (r : Rack) (e : RackEntry) (d : DerateRecord)
    (fresh : Option (Int × PartTime)) : Moves may u (restCheck r e d fresh s) := by
  unfold restCheck
  simp only []
  split
  · exact setRackCharge_moves h hs r _
  · split
    · split
      · exact post_moves (setRackCharge_moves h hs r _) _
      · exact setRackCharge_moves h hs r _
    · exact setRackCharge_moves h hs r _

theorem integrateRack_moves (h : Moves may u s) (hs : may .start) (r : Rack) (e : RackEntry)
    (fresh : Option (Int × PartTime)) : Moves may u (integrateRack r e fresh s) := by
  unfold integrateRack
  split
  · exact setRackCharge_moves h hs r _
  · exact h

theorem publishRack_moves (h : Moves may u s) (hs : may .start) (r : Rack) (e : RackEntry)
    (d : DerateRecord) : Moves may u (publishRack r e d s) :=
  setRackCharge_moves (workOutContainer_moves (setRackCharge_moves h hs r _)) hs r _

theorem limitSetComplete_moves (h : Moves may u s) (hs : may .start) (r : Rack) :
    Moves may u (limitSetComplete r s) := by
  unfold limitSetComplete
  split
  · exact publishRack_moves (restCheck_moves (anchorCheck_moves (integrateRack_moves h hs r _ _)
      hs r _ _ _) hs r _ _ _) hs r _ _
  · exact workOutContainer_moves (zeroRackLimit_moves h r)

theorem RackCharge.swap_limit (x : RackCharge) (before after : Option RackEntry) :
    (x.swap before after).limit = x.limit := by
  unfold RackCharge.swap
  split
  · split <;> rfl
  · split <;> rfl
  · rfl

theorem RackCharge.capped_falls (x : RackCharge) (entry : Option RackEntry) :
    (x.capped entry).limit.charge ≤ x.limit.charge ∧
      (x.capped entry).limit.discharge ≤ x.limit.discharge := by
  unfold RackCharge.capped
  split
  · exact ⟨Nat.min_le_left _ _, Nat.min_le_left _ _⟩
  · exact ⟨le_rfl, le_rfl⟩

theorem limitsAtRackSwap_moves (h : Moves may u s) (before : Rack → Option RackEntry) :
    Moves may u (limitsAtRackSwap before s) := by
  have h1 := h.trans (.limits s { s.limits with
    racks := s.limits.racks.mapWith fun r x => x.swap (before r) (s.rackConfig r) }
    (.inr fun r => by
      rw [PerRack.get_mapWith, RackCharge.swap_limit]
      exact ⟨le_rfl, le_rfl⟩))
  exact h1.ite (workOutContainer_moves (h1.trans (.limits _ _ (.inr fun r => by
    rw [PerRack.get_mapWith]
    exact RackCharge.capped_falls _ _))))

theorem limitsAtDerateSwap_moves (h : Moves may u s) (before : Option DerateRecord) :
    Moves may u (limitsAtDerateSwap before s) := by
  unfold limitsAtDerateSwap
  split
  · exact h.trans (.limits _ _ (.inr fun r => by
      rw [PerRack.get_mapWith]
      exact ⟨le_rfl, le_rfl⟩))
  · exact h

theorem limitsAtSlotSwap_moves (h : Moves may u s) : Moves may u (limitsAtSlotSwap s) :=
  h.ite (workOutContainer_moves (h.onRacks fun r _ k => zeroRackLimit_moves k r))

end Sys2Proof.Machine

namespace Sys2Proof.Machine

variable {may : Liberty → Prop} {u s t : State}

/-! ## The ring controller -/

theorem withRing_moves (h : Moves may u s) (x : Ring) : Moves may u (s.withRing x) :=
  h.trans (.ring s x)

theorem startRing_moves (h : Moves may u s) : Moves may u (startRing s) :=
  (withRing_moves h _).ite h

theorem discard_moves (h : Moves may u s) (d : RingEnd) (k : RingError) :
    Moves may u (discard d k s) := withRing_moves h _

theorem setExpectation_moves (h : Moves may u s) (d : RingEnd) (x : Option Expectation) :
    Moves may u (setExpectation d x s) := withRing_moves h _

theorem markEnded_moves (h : Moves may u s) (d : RingEnd) : Moves may u (markEnded d s) :=
  withRing_moves h _

theorem pollLater_moves (h : Moves may u s) (node : Nat) : Moves may u (pollLater node s) :=
  h.ite (withRing_moves h _)

theorem setPhase_moves (h : Moves may u s) (p : Phase) : Moves may u (setPhase p s) :=
  withRing_moves h _

theorem settleToken_moves (h : Moves may u s) : Moves may u (settleToken s) := by
  unfold settleToken
  exact (withRing_moves h _).ite
    (produceContainerSummary_moves (post_moves (withRing_moves h _) _))

theorem beginCycle_moves (h : Moves may u s) : Moves may u (beginCycle s) :=
  withRing_moves (withRing_moves (h.trans (.samples _ _ (by rfl))) _) _

theorem mapRingNode_moves (h : Moves may u s) (node : Nat) (f : RingNode → RingNode) :
    Moves may u (mapRingNode node f s) := withRing_moves h _

/-! ## The converter and breaker interface, and site silence -/

/-- A change of the converter interface that leaves its pulse sequence. -/
theorem withConverter_moves (h : Moves may u s) (x : Converter)
    (hx : x.pulse = s.converter.pulse) : Moves may u (s.withConverter x) :=
  h.trans (.converter s x (.inl hx))

theorem composeMessage_moves (h : Moves may u s) : Moves may u (composeMessage s) :=
  withConverter_moves h _ rfl

theorem periodDue_moves (h : Moves may u s) : Moves may u (periodDue s) :=
  (messageDue_moves h).ite h

theorem messageSent_moves (h : Moves may u s) : Moves may u (messageSent s) := by
  have h1 := withConverter_moves h { s.converter with sending := false } rfl
  exact (composeMessage_moves h1).ite h1

theorem expireSilence_moves (h : Moves may u s) : Moves may u (expireSilence s) := by
  unfold expireSilence
  refine (withConverter_moves h _ (by rfl)).anyOrder fun act ha t k => ?_
  rcases List.mem_cons.1 ha with rfl | ha
  · exact workOutContainer_moves k
  · unfold gridActions at ha
    split at ha
    · cases ha
    · simp only [List.mem_cons, List.not_mem_nil, or_false] at ha
      rcases ha with rfl | rfl
      · exact judgePermit_moves k
      · exact produceContainerSummary_moves k

theorem expireSilentTrip_moves (h : Moves may u s) : Moves may u (expireSilentTrip s) :=
  takeCause_moves (withConverter_moves h _ (by rfl)) _ _ _

theorem silentTripDue_moves (h : Moves may u s) : Moves may u (silentTripDue s) :=
  (expireSilentTrip_moves h).ite h

theorem silenceDue_moves (h : Moves may u s) : Moves may u (silenceDue s) :=
  (expireSilence_moves h).ite h

theorem mem_ite_nil {α : Type} {c : Prop} [Decidable c] {xs : List α} {x : α}
    (h : x ∈ if c then xs else []) : x ∈ xs := by
  split at h
  · exact h
  · cases h

theorem takeStatus_moves (h : Moves may u s) (hm : may (.clear .converterSilent))
    (x : ConverterStatus) : Moves may u (takeStatus x s) := by
  unfold takeStatus
  refine (withConverter_moves h _ (by rfl)).anyOrder fun act ha t k => ?_
  simp only [List.mem_append] at ha
  rcases ha with (ha | ha) | ha
  · have := mem_ite_nil ha
    simp only [List.mem_cons, List.not_mem_nil, or_false] at this
    rcases this with rfl | rfl
    · exact workOutContainer_moves k
    · exact judgeContainerLatch_moves k _ hm
  · split at ha
    · cases ha
    · simp only [List.mem_singleton] at ha; subst ha; exact judgePermit_moves k
  · have := mem_ite_nil ha
    simp only [List.mem_singleton] at this; subst this; exact produceContainerSummary_moves k

theorem receiveStatus_moves (h : Moves may u s) (hm : may (.clear .converterSilent))
    (f : StatusFrame) : Moves may u (receiveStatus f s) := by
  unfold receiveStatus
  simp only []
  split
  · exact withConverter_moves h _ (by rfl)
  · split
    · exact withConverter_moves h _ (by rfl)
    · split
      · exact withConverter_moves h _ (by rfl)
      · exact takeStatus_moves h hm _

theorem expireSiteSilence_moves (h : Moves may u s) : Moves may u (expireSiteSilence s) := by
  have h1 := h.trans (.site s { s.site with autonomous := true, silence := none }
    ⟨rfl, rfl, rfl, rfl, rfl, id, id⟩)
  exact cancelQueue_moves (produceContainerSummary_moves (post_moves h1 _)) _

theorem siteSilenceDue_moves (h : Moves may u s) : Moves may u (siteSilenceDue s) :=
  (expireSiteSilence_moves h).ite h

theorem siteHeard_moves (h : Moves may u s) : Moves may u (siteHeard s) := by
  have h1 := h.trans (.site s
    { s.site with
      silence := if s.isActive .grid then some s.now else none
      autonomous := false } ⟨rfl, rfl, rfl, rfl, rfl, id, id⟩)
  unfold siteHeard
  simp only []
  split
  · exact produceContainerSummary_moves (post_moves h1 _)
  · exact h1

theorem converterAtGridSwap_moves (h : Moves may u s) (first : Bool) :
    Moves may u (converterAtGridSwap first s) :=
  (withConverter_moves (periodDue_moves h) _ (by rfl)).ite
    (silentTripDue_moves (silenceDue_moves (periodDue_moves h)))

theorem siteAtGridSwap_moves (h : Moves may u s) (first : Bool) :
    Moves may u (siteAtGridSwap first s) :=
  (h.trans (.site s { s.site with silence := some s.now }
    ⟨rfl, rfl, rfl, rfl, rfl, id, id⟩)).ite (siteSilenceDue_moves h)

theorem gridSwapped_moves (h : Moves may u s) (first : Bool) :
    Moves may u (gridSwapped first s) := by
  refine h.anyOrder fun act ha t k => ?_
  simp only [List.mem_cons, List.not_mem_nil, or_false] at ha
  rcases ha with rfl | rfl | rfl | rfl
  · exact switchAtGridSwap_moves k
  · exact workOutContainer_moves k
  · exact converterAtGridSwap_moves k first
  · exact siteAtGridSwap_moves k first

/-! ## Table swaps -/

/-- A table that has swapped is consistent. -/
theorem swap_consistent (x : TableState) : x.swap.Consistent :=
  ⟨rfl, fun _ => rfl, fun h => absurd rfl h⟩

/-- A change of one table that keeps it consistent. -/
theorem setTable_moves (h : Moves may u s) (t : TableName) (x : TableState)
    (hx : (s.table t).Consistent → x.Consistent) : Moves may u (s.setTable t x) := by
  refine h.trans (.tables _ _ fun k hk => ?_)
  simp only [PerTable.get_set]
  split
  next he => subst he; exact hx hk
  next => exact hk

theorem swapBank_moves (h : Moves may u s) (t : TableName) : Moves may u (swapBank t s) :=
  setTable_moves h t _ fun _ => swap_consistent _

theorem postSwapped_moves (h : Moves may u s) (t : TableName) : Moves may u (postSwapped t s) :=
  post_moves h _

theorem judgeRequiredSet_moves (h : Moves may u s) : Moves may u (judgeRequiredSet s) :=
  (changeMode_moves (h.trans (.tables s { s.tables with requiredSet := true } fun _ k => k))
    _ _).ite h

theorem tripsAtSlotSwap_moves (h : Moves may u s) : Moves may u (tripsAtSlotSwap s) :=
  h.onRacks fun r _ k => markHeard_moves k r _

theorem slotSwapped_moves (h : Moves may u s) (b : Before) : Moves may u (slotSwapped b s) :=
  tripsAtSlotSwap_moves (refreshGasFault_moves (limitsAtSlotSwap_moves
    ((samplesSwapped_moves (withRing_moves h _) _).trans (.balance _ _))))

theorem rackSwapped_moves (h : Moves may u s) (b : Before) : Moves may u (rackSwapped b s) :=
  ((limitsAtRackSwap_moves (clearSides_moves h _) _).trans (.samples _ _ (by rfl))).onRacks
    fun r _ k => blindTimerSwapped_moves k _ r

theorem ownerAtSwap_moves (h : Moves may u s) (b : Before) (t : TableName) :
    Moves may u (ownerAtSwap b t s) := by
  unfold ownerAtSwap
  split
  · exact slotSwapped_moves h b
  · exact clearSides_moves h _
  · exact rackSwapped_moves h b
  · exact limitsAtDerateSwap_moves h _
  all_goals exact h

theorem swapRingPath_moves (h : Moves may u s) (names : List TableName) :
    Moves may u (swapRingPath names s) := by
  unfold swapRingPath
  split
  · exact h
  · have h1 : Moves may u (inAnyOrder (names.map postSwapped)
        (names.foldl (fun acc t => swapBank t acc) s)) := by
      refine (h.foldl fun _ t k => swapBank_moves k t).anyOrder fun act ha t k => ?_
      obtain ⟨n, _, rfl⟩ := List.mem_map.1 ha
      exact postSwapped_moves k n
    have h2 : Moves may u (inAnyOrder (names.map (ownerAtSwap s.before))
        (inAnyOrder (names.map postSwapped) (names.foldl (fun acc t => swapBank t acc) s))) := by
      refine h1.anyOrder fun act ha t k => ?_
      obtain ⟨n, _, rfl⟩ := List.mem_map.1 ha
      exact ownerAtSwap_moves k _ n
    exact startRing_moves (judgeRequiredSet_moves (powerOnReload_moves
      (h2.onRacks fun r _ k => withdrawRack_moves k r)))

theorem proofDue_moves (h : Moves may u s) (hm : may (.clear .coolingLoss)) (o : Output) :
    Moves may u (proofDue o s) := (expireProof_moves h hm o).ite h

theorem blindHoldDue_moves (h : Moves may u s) : Moves may u (blindHoldDue s) :=
  (expireBlindHold_moves h).ite h

theorem coolSwapped_moves (h : Moves may u s) (hm : may (.clear .coolingLoss)) (first : Bool) :
    Moves may u (coolSwapped first s) := by
  unfold coolSwapped
  refine blindHoldDue_moves ((refreshAllowance_moves (refreshFactor_moves (composeCommands_moves
    (withCooling_moves h _ (by rfl))))).anyOrder fun act ha t k => ?_)
  obtain ⟨o, _, rfl⟩ := List.mem_map.1 ha
  exact proofDue_moves k hm o

theorem swapCool_moves (h : Moves may u s) (hm : may (.clear .coolingLoss)) :
    Moves may u (swapCool s) := coolSwapped_moves (postSwapped_moves (swapBank_moves h _) _) hm _

theorem swapFire_moves (h : Moves may u s) (hm : may (.clear .fire)) : Moves may u (swapFire s) :=
  fireSwapped_moves (postSwapped_moves (swapBank_moves h _) _) hm _

theorem swapGrid_moves (h : Moves may u s) : Moves may u (swapGrid s) :=
  judgeRequiredSet_moves (gridSwapped_moves (postSwapped_moves (swapBank_moves h _) _) _)

theorem endHold_moves (h : Moves may u s) : Moves may u (endHold s) := by
  have h1 := workOutContainer_moves (h.trans (.sequencer s s.sequencer.slot false))
  exact ((swapGrid_moves h1).ite h1).ite h

/-- The settling that closes a step makes moves; of the latches it may clear WELDED (R155). -/
theorem settle_moves (h : Moves may u s) (hm : may (.clear .welded)) : Moves may u (settle s) :=
  endHold_moves (grantDisconnects_moves (judgeContainerLatch_moves (endHold_moves
    (grantDisconnects_moves (judgeContainerLatch_moves h _ hm) 4)) _ hm) 4)

theorem swapNow_moves (h : Moves may u s) (hc : may (.clear .coolingLoss)) (hf : may (.clear .fire))
    (t : TableName) : Moves may u (swapNow t s) := by
  unfold swapNow
  split
  · exact swapCool_moves h hc
  · exact swapFire_moves h hf
  · exact swapGrid_moves h
  all_goals exact swapRingPath_moves h _

/-- A bank that passes its commit waits with its contents. -/
theorem committed_consistent {x : TableState} (hp : x.pending.isSome = true) (h : x.Consistent) :
    TableState.Consistent { x with state := .committed } :=
  ⟨h.digest, nofun, fun _ => hp⟩

theorem answerCommit_moves (h : Moves may u s) (hc : may (.clear .coolingLoss))
    (hf : may (.clear .fire)) (table : Option TableName) (digest : Code) :
    Moves may u (answerCommit table digest s).state := by
  unfold answerCommit
  split
  next => exact h
  next t =>
    split
    · exact h
    · exact h
    next bank hs hp =>
      have h1 := setTable_moves h t { s.table t with state := .committed }
        (committed_consistent (by rw [hp]; rfl))
      unfold judgeCommit
      split
      · exact h
      · split
        · exact h
        · split
          · exact h
          · unfold acceptCommit
            simp only []
            split
            · exact swapNow_moves h1 hc hf t
            · exact h1
    · exact h

theorem answerWrite_moves (h : Moves may u s) (table : Option TableName) (first count : Nat)
    (data : List Byte) : Moves may u (answerWrite table first count data s).state := by
  unfold answerWrite
  split
  · exact h
  · split
    · exact h
    · split
      · exact h
      · split
        · exact h
        · exact setTable_moves h _ _ fun k => ⟨k.digest, nofun, fun _ => rfl⟩

end Sys2Proof.Machine

namespace Sys2Proof.Machine

variable {may : Liberty → Prop} {u s t : State}

/-! ## The commands' own operations -/

theorem judgeBlindState_moves (h : Moves may u s) : Moves may u (judgeBlindState s) := by
  unfold judgeBlindState
  split
  · exact withCooling_moves h _ (by rfl)
  · exact h
  · exact h
  · exact h
  · exact withCooling_moves h _ (by rfl)
  · exact post_moves (withCooling_moves h _ (by rfl)) _

theorem stepLadder_moves (h : Moves may u s) : Moves may u (stepLadder s) := by
  unfold stepLadder
  split
  · exact (setLevel_moves h _).ite h
  · exact h

theorem judgeHeater_moves (h : Moves may u s) : Moves may u (judgeHeater s) := by
  unfold judgeHeater
  split
  · exact h.ite ((setHeaterDemand_moves h _).ite ((setHeaterDemand_moves h _).ite h))
  · exact h

theorem controlStep_moves (h : Moves may u s) (hm : may (.clear .coolingLoss)) :
    Moves may u (controlStep s) := by
  have h1 : Moves may u (swapCoolIfCommitted s) := (swapCool_moves h hm).ite h
  exact judgeCoolingLoss_moves (judgeHeater_moves (stepLadder_moves (judgeBlindState_moves
    (withCooling_moves h1 _ rfl))))

theorem answerCoolingFaultClear_moves (h : Moves may u s) (hm : may (.clear .coolingLoss)) :
    Moves may u (answerCoolingFaultClear s).state := by
  unfold answerCoolingFaultClear
  simp only []
  split
  · exact h
  · refine statusesChanged_moves (h.trans (.cooling _ _ fun o => ?_)) hm _
    simp

theorem answerBalanceEnable_moves (h : Moves may u s) (mask : RackMask) (on : Bool) :
    Moves may u (answerBalanceEnable mask on s).state := by
  unfold answerBalanceEnable
  split
  · exact h
  · split
    · exact h
    · refine h.onRacks fun r t k => ?_
      split
      · exact k.free (by simp [sameBut_refl])
      · exact k.free (by simp [sameBut_refl])

theorem answerBudgetReload_moves (h : Moves may u s) (mask : RackMask) :
    Moves may u (answerBudgetReload mask s).state := by
  unfold answerBudgetReload
  split
  · exact h
  · split
    · exact h
    · exact reload_moves h _

theorem postSetComplete_moves (h : Moves may u s) (hs : may .start) (hm : may .clearRack)
    (r : Rack) : Moves may u (postSetComplete r s) := by
  refine h.anyOrder fun act ha t k => ?_
  rcases List.mem_append.1 ha with ha | ha
  · simp only [List.mem_cons, List.not_mem_nil, or_false] at ha
    rcases ha with rfl | rfl | rfl | rfl
    · exact limitSetComplete_moves k hs r
    · exact balanceSetComplete_moves k r
    · exact switchSetComplete_moves k hs r
    · exact tripSetComplete_moves k hm r
  · have := mem_ite_nil ha
    simp only [List.mem_singleton] at this
    subst this
    exact produceRackSummary_moves k r

theorem rackSetComplete_moves (h : Moves may u s) (hs : may .start) (hm : may .clearRack)
    (r : Rack) : Moves may u (rackSetComplete r s) :=
  postSetComplete_moves (setRackSamples_moves (prepareSet_moves h r) r _) hs hm r

theorem takeOutcome_moves (h : Moves may u s) (hm : ∀ l, may l) (e : SlotEntry)
    (outcome : SlotOutcome) (link : LinkState) : Moves may u (takeOutcome e outcome link s) := by
  have h1 := traceOutcome_moves (checkStale_moves (takeCodes_moves h e outcome) e link) e outcome
  unfold takeOutcome
  simp only []
  split
  · exact (rackSetComplete_moves h1 (hm _) (hm _) _).ite h1
  · exact (plantNotice_moves h1 (hm _) (hm _) _).ite h1

theorem startCycle_moves (h : Moves may u s) : Moves may u (startCycle s) :=
  beginCycle_moves (swapRingPath_moves (withRing_moves h _) _)

theorem receiveToken_moves (h : Moves may u s) (d : RingEnd) (f : TokenFrame) :
    Moves may u (receiveToken d f s) := by
  unfold receiveToken
  split
  · split
    · exact h.ite (discard_moves h _ _)
    · split
      · exact discard_moves h _ _
      · exact withRing_moves h _
  · exact discard_moves h _ _

theorem endTokenPhase_moves (h : Moves may u s) : Moves may u (endTokenPhase s) :=
  setPhase_moves (settleToken_moves h) _

theorem startSlot_moves (h : Moves may u s) : Moves may u (startSlot s) := by
  unfold startSlot
  split
  · exact setPhase_moves (withRing_moves h _) _
  · exact h

theorem takeEcho_moves (h : Moves may u s) (e : SlotEntry) (applied : CellMask) :
    Moves may u (takeEcho e applied s) := h.free (by simp [sameBut_refl])

theorem acceptSample_moves (h : Moves may u s) (hm : ∀ l, may l) (d : RingEnd) (f : SampleFrame)
    (e : SlotEntry) : Moves may u (acceptSample d f e s) := by
  have h2 := takeEcho_moves (setExpectation_moves (mapRingNode_moves h e.node RingNode.answered)
    d none) e f.applied
  exact takeOutcome_moves ((pollLater_moves h2 _).ite h2) hm _ _ _

theorem receiveSample_moves (h : Moves may u s) (hm : ∀ l, may l) (d : RingEnd) (f : SampleFrame) :
    Moves may u (receiveSample d f s) := by
  unfold receiveSample
  split
  · exact discard_moves h _ _
  · split
    · exact acceptSample_moves h hm _ _ _
    · exact h

theorem endSlot_moves (h : Moves may u s) (hm : ∀ l, may l) : Moves may u (endSlot s) := by
  unfold endSlot
  split
  next k e _ =>
    have h1 : Moves may u (takeMiss e s) :=
      takeOutcome_moves (mapRingNode_moves (markEnded_moves h _) _ _) hm _ _ _
    exact setPhase_moves (h1.ite h) _
  next => exact h

theorem startTurn_moves (h : Moves may u s) : Moves may u (startTurn s) := by
  unfold startTurn
  split
  · exact h
  · split
    · exact setPhase_moves h _
    · exact setPhase_moves (withRing_moves (withRing_moves h _) _) _

theorem handleEvent_moves (h : Moves may u s) (hm : may .clearRack) (e : SlotEntry)
    (kind : NodeEventCode) (channel : Nat) : Moves may u (handleEvent e kind channel s) := by
  unfold handleEvent
  split
  · exact h
  · split
    · refine h.anyOrder fun act ha t k => ?_
      rcases List.mem_cons.1 ha with rfl | ha
      · exact post_moves k _
      · cases kind <;>
          simp only [eventActions, List.mem_cons, List.not_mem_nil, or_false] at ha
        case cellHwOv => subst ha; exact takeCause_moves k _ _ _
        case cellHwUv => subst ha; exact takeCause_moves k _ _ _
        case senseOpen => subst ha; exact senseOpened_moves k _ _
        case nodeRestart =>
          rcases ha with rfl | rfl | rfl | rfl
          · exact mapRingNode_moves k _ _
          · exact Moves.ite (k.free (by simp [sameBut_refl])) k
          · exact mapSampleNode_moves k _ _
          · exact restartHeard_moves k hm _
        case bleedHot => subst ha; exact k.free (by simp [sameBut_refl])
        case nodeFault => subst ha; exact mapSampleNode_moves k _ _
    · exact post_moves h _

theorem receiveEvent_moves (h : Moves may u s) (hm : may .clearRack) (d : RingEnd) (f : EventFrame) :
    Moves may u (receiveEvent d f s) := by
  have h1 := setExpectation_moves h d none
  have h2 := (pollLater_moves h1 f.node).ite (c := f.eventPending = true) h1
  unfold receiveEvent
  split
  · exact discard_moves h _ _
  · simp only []
    split
    · exact handleEvent_moves h2 hm _ _ _
    · exact h2

theorem endTurn_moves (h : Moves may u s) : Moves may u (endTurn s) := by
  unfold endTurn
  split
  · exact h
  · exact setPhase_moves ((pollLater_moves (markEnded_moves h _) _).ite h) _

theorem answerSetMode_moves (h : Moves may u s) (arg : ModeArg) :
    Moves may u (answerSetMode arg s).state := by
  unfold answerSetMode
  split
  · exact h
  · split
    · exact h
    · split
      · exact h
      · split
        · exact h
        · exact changeMode_moves h _ _

theorem answerReadCells_moves (h : Moves may u s) (rack first last : Nat) (clear : Bool) :
    Moves may u (answerReadCells rack first last clear s).state := by
  unfold answerReadCells
  split
  · exact h
  · split
    · exact h
    · simp only []
      split
      · exact h.trans (.samples _ _ rfl)
      · exact h

theorem answerReadRack_moves (h : Moves may u s) (rack : Nat) :
    Moves may u (answerReadRack rack s).state := by
  unfold answerReadRack
  split <;> exact h

theorem answerTraceSet_moves (h : Moves may u s) (node channel count : Nat) :
    Moves may u (answerTraceSet node channel count s).state := by
  unfold answerTraceSet
  simp only []
  split
  · exact h
  · split
    · exact setTrace_moves h _ _
    · split
      · exact setTrace_moves h _ _
      · exact h

theorem answerRead_moves (h : Moves may u s) (table : Option TableName) (bank : Option BankName)
    (first count : Nat) : Moves may u (answerRead table bank first count s).state := by
  unfold answerRead
  split
  · split
    · exact h
    · split
      · exact h
      · split <;> exact h
  · exact h

/-! ## What a command may do beyond the moves -/

/-- The frames and requests of the site link are the same in two states. -/
structure SameTraffic (x y : Site) : Prop where
  fifo : y.fifo = x.fifo
  replies : y.replies = x.replies
  link : y.link = x.link

/-- A state with every block at its reset value, before the WELDED causes of R145. -/
def blocksReset (s : State) : State :=
  limitsReset (fireReset (coolingReset (samplesReset (ringReset
    (converterReset (switchReset (siteReset (s.withNow 0))))))))

/-- The states a command can make of a state: moves, the traffic of the site link, and what no move
does. -/
inductive Acts (may : Liberty → Prop) : State → State → Prop
  | moves {s t : State} (h : Moves may s t) : Acts may s t
  | trans {s t u : State} : Acts may s t → Acts may t u → Acts may s u
  | arbitrate (s : State) : Acts may s (arbitrate s)
  | taking (s : State) (x : Tagged) (rest : List Tagged) (h : s.offers x rest) :
      Acts may s (s.taking rest)
  | reply (s : State) (tag : Byte) (q : Request) (result : Result) (body : ReplyBody)
      (h : s.site.replies.length < 8) : Acts may s (reply tag q result body s)
  | offer (s : State) (x : Tagged) : Acts may s (offerRequest x s)
  | site (s : State) (x : Site) (hf : x.fifo = s.site.fifo) (hr : x.replies = s.site.replies)
      (he : x.events = s.site.events) (ht : x.traces = s.site.traces) : Acts may s (s.withSite x)
  | feedback (s : State) (o : Output) (on : Bool) : Acts may s (changeOutputFeedback o on s)
  | acknowledge (s : State) (n : LatchName) : Acts may s (ackLatch n s)
  | forget (s : State) : Acts may s (s.withTrips { s.trips with history := [] })
  | untrace (s : State) :
      Acts may s (s.withSamples { s.samples with trace := List.replicate 32 none })
  | converter (s : State) (x : Converter) : Acts may s (s.withConverter x)
  | powerOn (s : State) : Acts may s (blocksReset (losePower s))
  | reset (s : State) : Acts may s (blocksReset (keepTables s))

theorem Acts.refl (s : State) : Acts may s s := .moves (.refl s)

/-- No move changes the requests, the replies and the link. -/
theorem Moves.traffic (h : Moves may s t) : SameTraffic s.site t.site := by
  have recorded (rec : TripRecord) (kind : TripKind) (named : Option Rack) (data : CauseData)
      (s : State) : (writeRecord rec (setLatch kind named data s)).site = s.site := by
    cases named <;> rfl
  induction h with
  | trans _ _ ih ih' =>
    exact ⟨ih'.fifo.trans ih.fifo, ih'.replies.trans ih.replies, ih'.link.trans ih.link⟩
  | take kind named data _ ht ih => rw [recorded] at ih; exact ih
  | site s x h => exact ⟨h.fifo, h.replies, h.link⟩
  | leaves s r e x => exact ⟨(post_siteMove e _).fifo, (post_siteMove e _).replies,
      (post_siteMove e _).link⟩
  | refl s => exact ⟨rfl, rfl, rfl⟩
  | ring s x => exact ⟨rfl, rfl, rfl⟩
  | samples s x h => exact ⟨rfl, rfl, rfl⟩
  | limits s x => exact ⟨rfl, rfl, rfl⟩
  | balance s x => exact ⟨rfl, rfl, rfl⟩
  | cooling s x h => exact ⟨rfl, rfl, rfl⟩
  | compose s => exact ⟨rfl, rfl, rfl⟩
  | fire s x => exact ⟨rfl, rfl, rfl⟩
  | converter s x h => exact ⟨rfl, rfl, rfl⟩
  | tables s x h => exact ⟨rfl, rfl, rfl⟩
  | choices s n => exact ⟨rfl, rfl, rfl⟩
  | trips s x h => exact ⟨rfl, rfl, rfl⟩
  | clearRack s k x kind h hk hx => exact ⟨rfl, rfl, rfl⟩
  | clear s k h => exact ⟨rfl, rfl, rfl⟩
  | sequencer s slot hold => exact ⟨rfl, rfl, rfl⟩
  | rack s r x h => exact ⟨rfl, rfl, rfl⟩
  | queues s r x => exact ⟨rfl, rfl, rfl⟩
  | starts s r x => exact ⟨rfl, rfl, rfl⟩

/-! ## The owners of the requests -/

/-- What the owner of a request may do: it acts, and leaves the traffic of the site link. -/
structure OwnerActs (may : Liberty → Prop) (s t : State) : Prop where
  acts : Acts may s t
  traffic : SameTraffic s.site t.site

theorem Moves.owner (h : Moves may s t) : OwnerActs may s t := ⟨.moves h, h.traffic⟩

theorem OwnerActs.trans (h : OwnerActs may s t) (k : OwnerActs may t u) : OwnerActs may s u :=
  ⟨h.acts.trans k.acts, k.traffic.fifo.trans h.traffic.fifo,
    k.traffic.replies.trans h.traffic.replies, k.traffic.link.trans h.traffic.link⟩

theorem answerResetPart_acts (s : State) : OwnerActs may s (answerResetPart s).state := by
  unfold answerResetPart
  split
  · exact ⟨.site _ _ rfl rfl rfl rfl, rfl, rfl, rfl⟩
  · exact (Moves.refl s).owner

theorem answerReadStatus_acts (s : State) : OwnerActs may s (answerReadStatus s).state := by
  have h1 : Acts may s (s.withSite { s.site with linkErrors := .clear }) := .site _ _ rfl rfl rfl rfl
  exact ⟨(h1.trans (.moves (.ring _ _))).trans (.converter _ _), rfl, rfl, rfl⟩

theorem answerClearTripHistory_acts (s : State) :
    OwnerActs may s (answerClearTripHistory s).state := by
  unfold answerClearTripHistory
  split
  · exact (Moves.refl s).owner
  · exact ⟨.forget s, rfl, rfl, rfl⟩

theorem answerTraceClear_acts (target : TraceTarget) (s : State) :
    OwnerActs may s (answerTraceClear target s).state := by
  unfold answerTraceClear
  split
  · exact ⟨.untrace s, rfl, rfl, rfl⟩
  · split
    · exact (setTrace_moves (.refl s) _ _).owner
    · exact (Moves.refl s).owner

theorem ackLatch_site (n : LatchName) (s : State) : (ackLatch n s).site = s.site := by
  obtain ⟨r, k⟩ := n
  cases r <;> rfl

theorem ackLatches_acts (names : List LatchName) (s : State) :
    OwnerActs may s (names.foldl (fun acc n => ackLatch n acc) s) := by
  induction names generalizing s with
  | nil => exact (Moves.refl s).owner
  | cons n names ih =>
    have h1 : OwnerActs may s (ackLatch n s) :=
      ⟨.acknowledge s n, by rw [ackLatch_site], by rw [ackLatch_site], by rw [ackLatch_site]⟩
    exact h1.trans (ih _)

theorem answerClearTrip_acts (hm : ∀ k, may (.clear k)) (hr : may .clearRack) (mask : RackMask)
    (s : State) : OwnerActs may s (answerClearTrip mask s).state := by
  unfold answerClearTrip
  simp only []
  split
  · exact (Moves.refl s).owner
  · refine (ackLatches_acts (s.clearable (racksOf mask)) s).trans (Moves.owner ?_)
    exact (((Moves.refl _).onRacks fun r _ k => acknowledgeSides_moves k r).onRacks
      fun r _ k => judgeRackLatches_moves k hr r).foldl
        fun _ k h => judgeContainerLatch_moves h k (hm _)

/-! ## The liberties of a command -/

/-- Only a command in which a rack set can become complete may start a rack. -/
def libertyOf (c : Instr) : Liberty → Prop := fun l => l = .start → c.endsSlot = true

theorem libertyOf_clear (c : Instr) (k : TripKind) : libertyOf c (.clear k) := nofun

theorem libertyOf_clearRack (c : Instr) : libertyOf c .clearRack := nofun

theorem libertyOf_connect (c : Instr) : libertyOf c .connect := nofun

/-- Every request has an owner, whose answer the command serves (R179). -/
theorem exec_request {c : Instr} {x : Tagged} (h : c.request = some x) :
    ∃ owner : State → Answer, (∀ s, OwnerActs (libertyOf c) s (owner s).state) ∧
      ((∀ s, exec c s = serve x.tag x.request owner s) ∨
        ∀ s, exec c s = serveMoving x.tag x.request owner s) := by
  cases c <;> cases h
  case coolingFaultClear tag =>
    exact ⟨_, fun s => (answerCoolingFaultClear_moves (.refl s) (libertyOf_clear _ _)).owner, .inr fun _ => rfl⟩
  case fireAck tag =>
    exact ⟨_, fun s => (answerFireAck_moves (.refl s) (libertyOf_clear _ _)).owner, .inr fun _ => rfl⟩
  case fireReset tag =>
    exact ⟨_, fun s => (answerFireReset_moves (.refl s) (libertyOf_clear _ _)).owner, .inr fun _ => rfl⟩
  case connect tag racks =>
    exact ⟨_, fun s => (answerConnect_moves (.refl s) (libertyOf_connect _) racks).owner, .inr fun _ => rfl⟩
  case disconnect tag racks =>
    exact ⟨_, fun s => (answerDisconnect_moves (.refl s) racks).owner, .inr fun _ => rfl⟩
  case clearFault tag racks =>
    exact ⟨_, fun s => (answerClearFault_moves (.refl s) (libertyOf_clear _ _) racks).owner, .inr fun _ => rfl⟩
  case clearTrip tag racks =>
    exact ⟨_, answerClearTrip_acts (libertyOf_clear _) (libertyOf_clearRack _) racks, .inr fun _ => rfl⟩
  case emergencyOpen tag =>
    exact ⟨_, fun s => (takeCause_moves (.refl s) _ _ _).owner, .inr fun _ => rfl⟩
  case readTrips tag => exact ⟨_, fun s => (Moves.refl s).owner, .inl fun _ => rfl⟩
  case clearTripHistory tag => exact ⟨_, answerClearTripHistory_acts, .inl fun _ => rfl⟩
  case tableWrite tag t first count data =>
    exact ⟨_, fun s => (answerWrite_moves (.refl s) t first count data).owner, .inl fun _ => rfl⟩
  case tableRead tag t bank first count =>
    exact ⟨_, fun s => (answerRead_moves (.refl s) t bank first count).owner, .inl fun _ => rfl⟩
  case tableCommit tag t digest =>
    exact ⟨_, fun s => (answerCommit_moves (.refl s) (libertyOf_clear _ _) (libertyOf_clear _ _) t
      digest).owner, .inr fun _ => rfl⟩
  case unknownRequest tag kind => exact ⟨_, fun s => (Moves.refl s).owner, .inl fun _ => rfl⟩
  case setMode tag arg =>
    exact ⟨_, fun s => (answerSetMode_moves (.refl s) arg).owner, .inl fun _ => rfl⟩
  case resetPart tag => exact ⟨_, answerResetPart_acts, .inl fun _ => rfl⟩
  case readStatus tag => exact ⟨_, answerReadStatus_acts, .inl fun _ => rfl⟩
  case readRack tag rack =>
    exact ⟨_, fun s => (answerReadRack_moves (.refl s) rack).owner, .inl fun _ => rfl⟩
  case readCells tag rack lo hi clear =>
    exact ⟨_, fun s => (answerReadCells_moves (.refl s) rack lo hi clear).owner, .inl fun _ => rfl⟩
  case traceSet tag node ch count =>
    exact ⟨_, fun s => (answerTraceSet_moves (.refl s) node ch count).owner, .inl fun _ => rfl⟩
  case traceClear tag target => exact ⟨_, answerTraceClear_acts target, .inl fun _ => rfl⟩
  case balanceEnable tag racks on =>
    exact ⟨_, fun s => (answerBalanceEnable_moves (.refl s) racks on).owner, .inl fun _ => rfl⟩
  case budgetReload tag racks =>
    exact ⟨_, fun s => (answerBudgetReload_moves (.refl s) racks).owner, .inl fun _ => rfl⟩

/-- Taking a request, its owner acting, and the reply. -/
theorem takeRequest_acts {owner : State → Answer} (ho : ∀ s, OwnerActs may s (owner s).state)
    {x : Tagged} {rest : List Tagged} (h : s.offers x rest) :
    Acts may s (takeRequest x.tag x.request owner s) := by
  rw [takeRequest_offered h]
  have ha := ho (s.taking rest)
  exact ((Acts.taking s x rest h).trans ha.acts).trans
    (.reply _ _ _ _ _ (by rw [ha.traffic.replies]; exact h.2.1))

/-! ## The other commands -/

theorem finish_acts (h : Acts may u s) (hf : finish s = .next t) : Acts may u t := by
  cases hf; exact h.trans (.arbitrate s)

theorem conclude_acts (h : Acts may u s) (hm : may (.clear .welded)) (hf : conclude s = .next t) :
    Acts may u t := finish_acts (h.trans (.moves (settle_moves (.refl s) hm))) hf

theorem actWhen_acts {due : Bool} {act : State → State} (h : due = true → Acts may s (act s))
    (hf : actWhen due act s = .next t) : Acts may s t := by
  cases due
  · cases hf; exact .refl s
  · exact finish_acts (h rfl) hf

theorem moveWhen_acts {due : Bool} {act : State → State} (h : due = true → Acts may s (act s))
    (hm : may (.clear .welded)) (hf : moveWhen due act s = .next t) : Acts may s t := by
  cases due
  · cases hf; exact .refl s
  · exact conclude_acts (h rfl) hm hf

theorem resetBlocks_eq (s : State) : resetBlocks s = weldedAtReset (blocksReset s) := rfl

theorem powerOn_acts (s : State) : Acts may s (resetBlocks (losePower s)) :=
  (Acts.powerOn s).trans (.moves (weldedAtReset_moves (.refl _)))

theorem reset_acts (s : State) : Acts may s (resetBlocks (keepTables s)) :=
  (Acts.reset s).trans (.moves (weldedAtReset_moves (.refl _)))

theorem receiveFrame_acts (v : FrameVerdict) (s : State) : Acts may s (receiveFrame v s) := by
  have heard := Acts.moves (siteHeard_moves (may := may) (.refl s))
  unfold receiveFrame
  split
  · exact .site _ _ rfl rfl rfl rfl
  · exact .site _ _ rfl rfl rfl rfl
  · exact .site _ _ rfl rfl rfl rfl
  · exact heard.trans (.site _ _ rfl rfl rfl rfl)
  · exact heard.trans (.offer _ _)

theorem expireBreakerProof_acts (s : State) : Acts may s (expireBreakerProof s) := by
  unfold expireBreakerProof
  simp only []
  split
  · exact .converter _ _
  · exact (Acts.converter s _).trans (.moves (post_moves (.refl _) _))

theorem endPulse_acts (s : State) : Acts may s (endPulse s) := by
  unfold endPulse
  simp only []
  split <;> exact .converter _ _

theorem frameSent_acts (s : State) : Acts may s (frameSent s) := by
  unfold frameSent
  exact .site _ _ (by rfl) (by rfl) (by rfl) (by rfl)

theorem exec_oneSecondTimerExpiry (s : State) : exec .oneSecondTimerExpiry s =
    actWhen (reached s.now s.balance.secondSince 1000)
      (fun x => secondBoundary
        (x.withBalance { x.balance with secondSince := x.balance.secondSince + 1000 })) s := rfl

theorem exec_dailyReloadTimerExpiry (s : State) : exec .dailyReloadTimerExpiry s =
    actWhen (reached s.now s.balance.dailySince 86400000)
      (fun x => reload (fun _ => true)
        (x.withBalance { x.balance with dailySince := x.balance.dailySince + 86400000 })) s := rfl

/-- What every command does, by its liberties. -/
theorem exec_acts {c : Instr} {s t : State} (h : exec c s = .next t) : Acts (libertyOf c) s t := by
  have start : Moves (libertyOf c) s s := .refl s
  have welded : libertyOf c (.clear .welded) := libertyOf_clear c _
  have clear (k : TripKind) : libertyOf c (.clear k) := libertyOf_clear c k
  cases hq : c.request with
  | some x =>
    obtain ⟨owner, ho, he⟩ := exec_request hq
    by_cases hoff : ∃ rest, s.offers x rest
    · obtain ⟨rest, hoff⟩ := hoff
      have ha := takeRequest_acts ho hoff
      rcases he with he | he
      · rw [he, serve_offered hoff] at h; exact finish_acts ha h
      · rw [he, serveMoving_offered hoff] at h; exact conclude_acts ha welded h
    · obtain ⟨h1, h2⟩ := serve_waits hoff owner
      rcases he with he | he
      · rw [he, h1] at h; cases h; exact .refl s
      · rw [he, h2] at h; cases h; exact .refl s
  | none =>
    cases c <;> try (cases hq; done)
    case powerOnReset => exact conclude_acts (powerOn_acts s) welded h
    case pinReset => exact conclude_acts (reset_acts s) welded h
    case commandReset =>
      exact moveWhen_acts (act := fun x => resetBlocks (keepTables x)) (fun _ => reset_acts s)
        welded h
    case cycleStart => exact moveWhen_acts (fun _ => .moves (startCycle_moves start)) welded h
    case loopToken d f => exact finish_acts (.moves (receiveToken_moves start d f)) h
    case tokenPhaseEnd => exact actWhen_acts (fun _ => .moves (endTokenPhase_moves start)) h
    case pollSlotStart => exact actWhen_acts (fun _ => .moves (startSlot_moves start)) h
    case sampleReply d f =>
      exact conclude_acts (.moves (receiveSample_moves start (fun _ _ => rfl) d f)) welded h
    case pollSlotEnd =>
      exact moveWhen_acts (fun _ => .moves (endSlot_moves start fun _ _ => rfl)) welded h
    case eventTurnStart => exact actWhen_acts (fun _ => .moves (startTurn_moves start)) h
    case eventReply d f =>
      exact conclude_acts (.moves (receiveEvent_moves start (libertyOf_clearRack _) d f)) welded h
    case eventTurnEnd => exact actWhen_acts (fun _ => .moves (endTurn_moves start)) h
    case blindTimerExpiry r =>
      exact moveWhen_acts (act := fun x => expireBlind r (x.blindTime r) x)
        (fun _ => .moves (expireBlind_moves start r _)) welded h
    case oneSecondTimerExpiry =>
      rw [exec_oneSecondTimerExpiry] at h
      refine actWhen_acts (fun _ => ?_) h
      exact .moves (secondBoundary_moves (start.trans (.balance s _)))
    case dailyReloadTimerExpiry =>
      rw [exec_dailyReloadTimerExpiry] at h
      refine actWhen_acts (fun _ => ?_) h
      exact .moves (reload_moves (start.trans (.balance s _)) _)
    case coolDownTimerExpiry node =>
      refine actWhen_acts (fun _ => ?_) h
      exact .moves (start.free (by simp [sameBut_refl]))
    case controlIntervalExpiry =>
      exact moveWhen_acts (fun _ => .moves (controlStep_moves start (clear _))) welded h
    case blindHoldTimerExpiry => exact actWhen_acts (fun _ => .moves (expireBlindHold_moves start)) h
    case outputFeedbackChange o on => exact finish_acts (.feedback s o on) h
    case proofTimerExpiry o =>
      exact moveWhen_acts (fun _ => .moves (expireProof_moves start (clear _) o)) welded h
    case lineReadingChange l reading => exact finish_acts (.moves (start.trans (.fire _ _))) h
    case lineDebounceExpiry l =>
      exact moveWhen_acts (fun _ => .moves (debounceDue_moves start (clear _) l)) welded h
    case hornPatternToggle => exact actWhen_acts (fun _ => .moves (start.trans (.fire _ _))) h
    case countdownExpiry =>
      exact moveWhen_acts (fun _ => .moves (expireCountdown_moves start (clear _))) welded h
    case releasePulseEnd => exact actWhen_acts (fun _ => .moves (start.trans (.fire _ _))) h
    case feedbackWatchExpiry => exact actWhen_acts (fun _ => .moves (expireWatch_moves start)) h
    case contactorFeedbackChange r k closed =>
      exact conclude_acts (.moves (changeFeedback_moves start r k closed)) welded h
    case watchTimerExpiry r k =>
      exact moveWhen_acts (fun _ => .moves (expireRackWatch_moves start r k)) welded h
    case waitTimerExpiry r =>
      exact moveWhen_acts (fun _ => .moves (leaveQueue_moves start r _ _)) welded h
    case prechargeTimeout r =>
      exact moveWhen_acts (fun hd => .moves (abandonPrecharge_moves start r _ _
        (by rw [operationDue_state hd]; rfl))) welded h
    case closeProofExpiry r =>
      exact moveWhen_acts (fun hd => .moves (expireCloseProof_moves start r
        (operationDue_state hd))) welded h
    case prechargeReleaseDelayEnd r =>
      exact moveWhen_acts (fun hd => .moves (becomeConnected_moves start r _
        (operationDue_state hd))) welded h
    case drainTimerExpiry r =>
      exact moveWhen_acts (fun hd => .moves (endDrain_moves start r _
        (by rw [operationDue_state hd]; rfl))) welded h
    case openProofExpiry r =>
      exact moveWhen_acts (fun hd => .moves (expireOpenProof_moves start r
        (operationDue_state hd))) welded h
    case limitPeriodExpiry => exact actWhen_acts (fun _ => .moves (messageDue_moves start)) h
    case limitMessageSent => exact actWhen_acts (fun _ => .moves (messageSent_moves start)) h
    case converterStatus f =>
      exact conclude_acts (.moves (receiveStatus_moves start (clear _) f)) welded h
    case silenceWatchExpiry => exact actWhen_acts (fun _ => .moves (expireSilence_moves start)) h
    case silentTripExpiry =>
      exact moveWhen_acts (fun _ => .moves (expireSilentTrip_moves start)) welded h
    case breakerPulseEnd => exact actWhen_acts (fun _ => endPulse_acts s) h
    case breakerProofExpiry => exact actWhen_acts (fun _ => expireBreakerProof_acts s) h
    case breakerFeedbackChange closed => exact finish_acts (.converter s _) h
    case downwardFrame f => exact finish_acts (receiveFrame_acts _ s) h
    case upwardFrameSent => exact actWhen_acts (fun _ => frameSent_acts s) h
    case siteSilenceExpiry =>
      exact moveWhen_acts (fun _ => .moves (expireSiteSilence_moves start)) welded h
    case prechargeAttemptExpiry r =>
      exact actWhen_acts (fun _ => .moves (dropAttempts_moves start r)) h

end Sys2Proof.Machine

namespace Sys2Proof.Machine

variable {may : Liberty → Prop} {u s t : State}

/-! ## The blocks at a reset -/

/-- What the resets of the blocks leave: outside the blocks they reset, and of the blocks reset before
the sample processor's records. -/
theorem blocksReset_sameBut (s : State) :
    (converterReset (switchReset (siteReset (s.withNow 0)))).sameBut (blocksReset s)
      [.ring, .samples, .cooling, .fire, .limits] := by
  unfold blocksReset
  simp [sameBut_refl]

theorem blocksReset_trips (s : State) : (blocksReset s).trips = s.trips :=
  blocksReset_sameBut s .trips (by simp)

theorem blocksReset_tables (s : State) : (blocksReset s).tables = s.tables :=
  blocksReset_sameBut s .tables (by simp)

theorem blocksReset_site (s : State) : (blocksReset s).site = (siteReset (s.withNow 0)).site :=
  blocksReset_sameBut s .site (by simp)

theorem blocksReset_sequencer (s : State) :
    (blocksReset s).sequencer = (switchReset (s.withNow 0)).sequencer :=
  blocksReset_sameBut s .sequencer (by simp)

theorem refreshBlind_trace (r : Rack) (s : State) :
    (refreshBlind r s).samples.trace = s.samples.trace := by
  unfold refreshBlind; simp only []; split <;> rfl

theorem samplesReset_trace (s : State) :
    (samplesReset s).samples.trace = List.replicate 32 none := by
  unfold samplesReset
  exact forRacks_keeps (P := fun t => t.samples.trace = List.replicate 32 none)
    (fun r _ t h => (refreshBlind_trace r t).trans h) rfl

/-- The cooling controller and the blocks before it are not touched by the resets that follow. -/
theorem blocksReset_after (s : State) :
    (coolingReset (samplesReset (ringReset (converterReset (switchReset (siteReset
      (s.withNow 0))))))).sameBut (blocksReset s) [.fire, .limits] := by
  unfold blocksReset
  simp [sameBut_refl]

theorem blocksReset_trace (s : State) :
    (blocksReset s).samples.trace = List.replicate 32 none := by
  rw [sameBut_samples (blocksReset_after s) (by simp), coolingReset, State.withCooling_samples]
  exact samplesReset_trace _

/-- A reset takes every output's command off. -/
theorem blocksReset_command (s : State) (o : Output) :
    ((blocksReset s).cooling.outputs.get o).command = false := by
  rw [sameBut_cooling (blocksReset_after s) (by simp), coolingReset, State.withCooling_cooling,
    PerOutput.get_mapWith]
  rfl

/-- A rack after a reset is OPEN or in FAULT. -/
theorem afterReset_rests (now : PartTime) (n : Nat) (x : RackSwitch) :
    (x.afterReset now n).state.rests = true := by
  simp only [RackSwitch.afterReset, rewatch_state]
  split <;> rfl

theorem blocksReset_rackState (s : State) (r : Rack) :
    ((blocksReset s).rackState r).rests = true := by
  rw [State.rackState, blocksReset_sequencer]
  simp [switchReset, afterReset_rests]

/-! ## Queues within their lengths (R45, R153, R179, R182) -/

/-- The bounds are about three parts of State. -/
theorem State.QueuesBounded.of_parts (h : s.QueuesBounded) (hsite : t.site = s.site)
    (htrips : t.trips = s.trips) (hsamples : t.samples = s.samples) : t.QueuesBounded := by
  obtain ⟨h1, h2, h3, h4, h5, h6⟩ := h
  rw [← hsite] at h1 h2 h3 h4
  rw [← htrips] at h5
  rw [← hsamples] at h6
  exact ⟨h1, h2, h3, h4, h5, h6⟩

/-- A history of at most 16 records keeps that length when one joins it (R153). -/
theorem addRecord_length {rec : TripRecord} {history : List TripRecord} (h : history.length ≤ 16) :
    (addRecord rec history).length ≤ 16 := by
  unfold addRecord
  split <;> simp <;> omega

theorem recorded_history (kind : TripKind) (named : Option Rack) (data : CauseData)
    (rec : TripRecord) (s : State) :
    (writeRecord rec (setLatch kind named data s)).trips.history =
      addRecord rec s.trips.history := by
  cases named <;> rfl

theorem recorded_site (rec : TripRecord) (kind : TripKind) (named : Option Rack) (data : CauseData)
    (s : State) : (writeRecord rec (setLatch kind named data s)).site = s.site := by
  cases named <;> rfl

theorem recorded_samples (rec : TripRecord) (kind : TripKind) (named : Option Rack)
    (data : CauseData) (s : State) :
    (writeRecord rec (setLatch kind named data s)).samples = s.samples := by
  cases named <;> rfl

theorem SiteMove.queuesBounded {x : Site} (h : SiteMove s.site x) (hs : s.QueuesBounded) :
    (s.withSite x).QueuesBounded :=
  ⟨by rw [State.withSite_site, h.fifo]; exact hs.fifo,
    by rw [State.withSite_site, h.replies]; exact hs.replies,
    h.events hs.events, h.traces hs.traces, hs.history, hs.traceTable⟩

theorem Moves.queuesBounded (h : Moves may s t) (hs : s.QueuesBounded) : t.QueuesBounded := by
  induction h with
  | trans _ _ ih ih' => exact ih' (ih hs)
  | samples s x h => exact ⟨hs.fifo, hs.replies, hs.events, hs.traces, hs.history,
      h.trans hs.traceTable⟩
  | site s x h => exact h.queuesBounded hs
  | trips s x h =>
    refine ⟨hs.fifo, hs.replies, hs.events, hs.traces, ?_, hs.traceTable⟩
    have := congrArg List.length h.history
    simp only [List.length_map] at this
    rw [State.withTrips_trips, this]
    exact hs.history
  | take kind named data _ ht ih =>
    refine ih ⟨?_, ?_, ?_, ?_, ?_, ?_⟩ <;>
      simp only [recorded_site, recorded_samples, recorded_history]
    exacts [hs.fifo, hs.replies, hs.events, hs.traces, addRecord_length hs.history, hs.traceTable]
  | leaves s r e x =>
    refine ((post_siteMove e (dequeue r s)).queuesBounded (s := dequeue r s) ?_).of_parts rfl ?_ ?_
    · exact hs.of_parts rfl rfl rfl
    · exact post_sameBut e _ .trips (by simp)
    · exact post_sameBut e _ .samples (by simp)
  | clearRack | clear => exact ⟨hs.fifo, hs.replies, hs.events, hs.traces, hs.history, hs.traceTable⟩
  | refl | ring | limits | balance | cooling | compose | fire | converter | tables | choices
  | sequencer | rack | queues | starts => exact hs.of_parts rfl rfl rfl

/-- The arbiter only takes from the queues. -/
theorem grant_queues (x : Site) : (grant x).fifo = x.fifo ∧
    (grant x).replies.length ≤ x.replies.length ∧ (grant x).events.length ≤ x.events.length ∧
      (grant x).traces.length ≤ x.traces.length := by
  unfold grant
  split
  · next h => simp [h]
  · split
    · next h => simp [h]
    · split
      · next p _ =>
        obtain ⟨hf, hr, he, ht, _⟩ := sendPlace_keeps p x
        simp [hf, hr, he, ht]
      · split
        · next h => simp [h]
        · simp

theorem arbitrate_queuesBounded (h : s.QueuesBounded) : (arbitrate s).QueuesBounded := by
  unfold arbitrate
  split
  · exact h
  · split
    · exact h
    · obtain ⟨hf, hr, he, ht⟩ := grant_queues s.site
      exact ⟨hf ▸ h.fifo, hr.trans h.replies, he.trans h.events, ht.trans h.traces, h.history,
        h.traceTable⟩

theorem offerRequest_queuesBounded (x : Tagged) (h : s.QueuesBounded) :
    (offerRequest x s).QueuesBounded := by
  unfold offerRequest
  split
  · exact ⟨by simpa using by omega, h.replies, h.events, h.traces, h.history, h.traceTable⟩
  · split
    · exact ⟨h.fifo, by simpa [reply] using by omega, h.events, h.traces, h.history, h.traceTable⟩
    · exact ⟨h.fifo, h.replies, h.events, h.traces, h.history, h.traceTable⟩

theorem ackLatch_history (n : LatchName) (s : State) :
    (ackLatch n s).trips.history = s.trips.history := by
  obtain ⟨r, k⟩ := n
  cases r <;> rfl

theorem ackLatch_samples (n : LatchName) (s : State) : (ackLatch n s).samples = s.samples := by
  obtain ⟨r, k⟩ := n
  cases r <;> rfl

theorem blocksReset_queuesBounded (h : s.trips.history.length ≤ 16) :
    (blocksReset s).QueuesBounded := by
  refine ⟨?_, ?_, ?_, ?_, ?_, ?_⟩ <;>
    simp only [blocksReset_site, blocksReset_trips, blocksReset_trace]
  exacts [Nat.zero_le _, Nat.zero_le _, Nat.zero_le _, Nat.zero_le _, h, by simp]

theorem Acts.queuesBounded (h : Acts may s t) (hs : s.QueuesBounded) : t.QueuesBounded := by
  induction h with
  | moves h => exact h.queuesBounded hs
  | trans _ _ ih ih' => exact ih' (ih hs)
  | arbitrate s => exact arbitrate_queuesBounded hs
  | taking s x rest h =>
    have hf := hs.fifo
    rw [h.1] at hf
    exact ⟨Nat.le_of_succ_le hf, hs.replies, hs.events, hs.traces, hs.history, hs.traceTable⟩
  | reply s tag q result body h =>
    exact ⟨hs.fifo, by simpa [Machine.reply] using by omega, hs.events, hs.traces, hs.history,
      hs.traceTable⟩
  | offer s x => exact offerRequest_queuesBounded x hs
  | site s x hf hr he ht =>
    refine ⟨?_, ?_, ?_, ?_, hs.history, hs.traceTable⟩ <;> rw [State.withSite_site]
    exacts [hf ▸ hs.fifo, hr ▸ hs.replies, he ▸ hs.events, ht ▸ hs.traces]
  | acknowledge s n =>
    refine ⟨?_, ?_, ?_, ?_, ?_, ?_⟩ <;>
      simp only [ackLatch_site, ackLatch_history, ackLatch_samples]
    exacts [hs.fifo, hs.replies, hs.events, hs.traces, hs.history, hs.traceTable]
  | forget s => exact ⟨hs.fifo, hs.replies, hs.events, hs.traces, Nat.zero_le _, hs.traceTable⟩
  | untrace s => exact ⟨hs.fifo, hs.replies, hs.events, hs.traces, hs.history, by simp⟩
  | feedback s o on | converter s x => exact hs.of_parts rfl rfl rfl
  | powerOn s => exact blocksReset_queuesBounded (Nat.zero_le _)
  | reset s => exact blocksReset_queuesBounded (by
      simpa [keepTables, Trips.afterReset] using hs.history)

/-- A step does what its command does, or lets a millisecond pass. -/
theorem step_cases (h : step s = .next t) :
    (∃ c rest, exec c (s.withPending rest) = .next t) ∨ t = s.withNow (s.now + 1) := by
  unfold step at h
  split at h
  · exact .inl ⟨_, _, h⟩
  · cases h; exact .inr rfl

/-- Settles O7: every elementary change keeps the bounds. -/
theorem queuesStayBounded : Obligations.QueuesStayBounded := by
  intro s t hs h
  rcases step_cases h with ⟨c, rest, hc⟩ | rfl
  · exact (exec_acts hc).queuesBounded (hs.of_parts rfl rfl rfl)
  · exact hs.of_parts rfl rfl rfl

/-! ## The interlocks of the plant outputs (R86) -/

/-- The interlocks are about the commands and the feedbacks. -/
theorem State.HeaterInterlocked.of_outputs (h : s.HeaterInterlocked)
    (ho : ∀ o, (t.cooling.outputs.get o).command = (s.cooling.outputs.get o).command ∧
      (t.cooling.outputs.get o).feedback = (s.cooling.outputs.get o).feedback) :
    t.HeaterInterlocked := by
  obtain ⟨h1, h2, h3, h4⟩ := h
  refine ⟨?_, ?_, ?_, ?_⟩ <;> simp only [ho] <;> assumption

/-- Composing the commands brings the interlocks about, whatever stood before. -/
theorem composeCommands_interlocked (s : State) : (composeCommands s).HeaterInterlocked := by
  refine ⟨?_, ?_, ?_, ?_⟩ <;>
    simp only [composeCommands, State.withCooling_cooling, PerOutput.get_mapWith,
      OutputState.settle, State.composedCommand, Bool.and_eq_true, Bool.not_eq_true'] <;>
    intro h
  · obtain ⟨⟨⟨⟨_, hc⟩, _⟩, hf⟩, _⟩ := h
    exact ⟨hc, hf⟩
  · obtain ⟨⟨⟨_, hc⟩, _⟩, hf⟩ := h
    exact ⟨hc, hf⟩
  · exact h.2
  · exact h.2

theorem Moves.heaterInterlocked (h : Moves may s t) (hs : s.HeaterInterlocked) :
    t.HeaterInterlocked := by
  have same {u v : State} (hu : u.HeaterInterlocked) (hv : v.cooling = u.cooling) :
      v.HeaterInterlocked := hu.of_outputs fun o => by rw [hv]; exact ⟨rfl, rfl⟩
  induction h with
  | trans _ _ ih ih' => exact ih' (ih hs)
  | cooling s x h => exact hs.of_outputs h
  | compose s => exact composeCommands_interlocked s
  | take kind named data _ ht ih => exact ih (same hs (by cases named <;> rfl))
  | leaves s r e x => exact same (u := s) hs (post_sameBut e _ .cooling (by simp))
  | refl | ring | samples | limits | balance | fire | converter | tables | site | choices | trips
  | clearRack | clear | sequencer | rack | queues | starts => exact same hs rfl

theorem Acts.heaterInterlocked (h : Acts may s t) (hs : s.HeaterInterlocked) :
    t.HeaterInterlocked := by
  have same {u v : State} (hu : u.HeaterInterlocked) (hv : v.cooling = u.cooling) :
      v.HeaterInterlocked := hu.of_outputs fun o => by rw [hv]; exact ⟨rfl, rfl⟩
  have off (u : State) : (blocksReset u).HeaterInterlocked := by
    refine ⟨?_, ?_, ?_, ?_⟩ <;> intro h <;> rw [blocksReset_command] at h <;> cases h
  induction h with
  | moves h => exact h.heaterInterlocked hs
  | trans _ _ ih ih' => exact ih' (ih hs)
  | feedback s o on => exact composeCommands_interlocked _
  | arbitrate s => exact same hs (arbitrate_sameBut s .cooling (by simp))
  | offer s x => exact same hs (offerRequest_sameBut x s .cooling (by simp))
  | acknowledge s n => exact same hs (by obtain ⟨r, k⟩ := n; cases r <;> rfl)
  | powerOn s => exact off _
  | reset s => exact off _
  | taking | reply | site | forget | untrace | converter => exact same hs rfl

/-- Settles O8: the commands are composed as a whole, and nothing else writes them. -/
theorem heaterStaysInterlocked : Obligations.HeaterStaysInterlocked := by
  intro s t hs h
  rcases step_cases h with ⟨c, rest, hc⟩ | rfl
  · exact (exec_acts hc).heaterInterlocked (hs.of_outputs fun _ => ⟨rfl, rfl⟩)
  · exact hs.of_outputs fun _ => ⟨rfl, rfl⟩

/-! ## The tables (R169, R172) -/

theorem Moves.tablesConsistent (h : Moves may s t) (hs : s.TablesConsistent) :
    t.TablesConsistent := by
  have same {u v : State} (hu : u.TablesConsistent) (hv : v.tables = u.tables) :
      v.TablesConsistent := fun k => by simpa only [State.table, hv] using hu k
  induction h with
  | trans _ _ ih ih' => exact ih' (ih hs)
  | tables s x h => exact fun k => h k (hs k)
  | take kind named data _ ht ih => exact ih (same hs (by cases named <;> rfl))
  | leaves s r e x => exact same (u := s) hs (post_sameBut e _ .tables (by simp))
  | refl | ring | samples | limits | balance | cooling | compose | fire | converter | site | choices
  | trips | clearRack | clear | sequencer | rack | queues | starts => exact same hs rfl

theorem Acts.tablesConsistent (h : Acts may s t) (hs : s.TablesConsistent) : t.TablesConsistent := by
  have same {u v : State} (hu : u.TablesConsistent) (hv : v.tables = u.tables) :
      v.TablesConsistent := fun k => by simpa only [State.table, hv] using hu k
  induction h with
  | moves h => exact h.tablesConsistent hs
  | trans _ _ ih ih' => exact ih' (ih hs)
  | arbitrate s => exact same hs (arbitrate_sameBut s .tables (by simp))
  | offer s x => exact same hs (offerRequest_sameBut x s .tables (by simp))
  | acknowledge s n => exact same hs (by obtain ⟨r, k⟩ := n; cases r <;> rfl)
  | powerOn s =>
    refine same (fun k => ?_) (blocksReset_tables _)
    simp only [State.table, losePower, State.withSequencer_tables, State.withTrips_tables,
      State.withBalance_tables, State.withLimits_tables, State.withTables_tables, Tables.initial,
      PerTable.get_fill]
    exact ⟨rfl, fun _ => rfl, fun h => absurd rfl h⟩
  | reset s =>
    refine same (fun k => ?_) (blocksReset_tables _)
    simp only [State.table, keepTables, State.withTrips_tables, State.withBalance_tables,
      State.withLimits_tables, State.withTables_tables, Tables.afterReset, PerTable.get_mapWith]
    exact ⟨(hs k).digest, fun _ => rfl, fun h => absurd rfl h⟩
  | taking | reply | site | feedback | forget | untrace | converter => exact same hs rfl

/-- Settles O9: every write of a table keeps it consistent. -/
theorem tablesStayConsistent : Obligations.TablesStayConsistent := by
  intro s t hs h
  rcases step_cases h with ⟨c, rest, hc⟩ | rfl
  · exact (exec_acts hc).tablesConsistent hs
  · exact hs

end Sys2Proof.Machine

namespace Sys2Proof.Machine

variable {may : Liberty → Prop} {u s t : State}

/-! ## Tripped racks apart (R138) -/

/-- A latch that stands for a rack, by its kind. -/
theorem latchedFor_iff (s : State) (r : Rack) : s.latchedFor r = true ↔
    (∃ k, ((s.trips.racks.get r).latch k).standing = true) ∨
      ∃ k, (s.trips.container.latch k).standing = true := by
  have hr : s.rackLatched r = true ↔ ∃ k, ((s.trips.racks.get r).latch k).standing = true := by
    simp only [State.rackLatched, RackLatches.list, List.any_cons, List.any_nil, Bool.or_false,
      Bool.or_eq_true]
    constructor
    · rintro (h | h | h | h | h | h | h)
      exacts [⟨.cellOv, h⟩, ⟨.cellUv, h⟩, ⟨.cellOt, h⟩, ⟨.nodeHwOv, h⟩, ⟨.nodeHwUv, h⟩, ⟨.blind, h⟩,
        ⟨.overcurrent, h⟩]
    · rintro ⟨k, h⟩
      cases k <;> simp_all [RackLatches.latch, Latch.clear]
  have hc : s.containerLatched = true ↔ ∃ k, (s.trips.container.latch k).standing = true := by
    simp only [State.containerLatched, ContainerLatches.list, List.any_cons, List.any_nil,
      Bool.or_false, Bool.or_eq_true]
    constructor
    · rintro (h | h | h | h | h | h)
      exacts [⟨.coolingLoss, h⟩, ⟨.gas, h⟩, ⟨.fire, h⟩, ⟨.welded, h⟩, ⟨.converterSilent, h⟩,
        ⟨.emergency, h⟩]
    · rintro ⟨k, h⟩
      cases k <;> simp_all [ContainerLatches.latch, Latch.clear]
  rw [State.latchedFor, Bool.or_eq_true, hr, hc]

theorem latchedFor_of_trips {s t : State} (h : t.trips = s.trips) (r : Rack) :
    t.latchedFor r = s.latchedFor r := by
  simp [State.latchedFor, State.rackLatched, State.containerLatched, h]

/-- Fewer latches stand where each that stands stood before. -/
theorem latchedFor_mono {s t : State} {r : Rack}
    (hr : ∀ k, ((t.trips.racks.get r).latch k).standing = true →
      ((s.trips.racks.get r).latch k).standing = true)
    (hc : ∀ k, (t.trips.container.latch k).standing = true →
      (s.trips.container.latch k).standing = true) (h : t.latchedFor r = true) :
    s.latchedFor r = true := by
  rw [latchedFor_iff] at h ⊢
  exact h.imp (fun ⟨k, hk⟩ => ⟨k, hr k hk⟩) (fun ⟨k, hk⟩ => ⟨k, hc k hk⟩)

theorem containerPut_clear (x : ContainerLatches) (k j : TripKind) :
    ((x.put k .clear).latch j).standing = true → (x.latch j).standing = true := by
  cases k <;> cases j <;> first | exact id | exact nofun

/-- A cause latches no rack but those it names. -/
theorem latchedFor_recorded {kind : TripKind} {named : Option Rack} {data : CauseData}
    {rec : TripRecord} {s : State} {r : Rack} (hr : r ∉ namedRacks named) :
    (writeRecord rec (setLatch kind named data s)).latchedFor r = s.latchedFor r := by
  cases named with
  | none => exact absurd (Rack.mem_all r) hr
  | some x =>
    have hx : r ≠ x := by simpa [namedRacks] using hr
    simp [State.latchedFor, State.rackLatched, State.containerLatched, writeRecord, setLatch, hx]

/-- The racks outside a set that hold a latch are apart from the bus. -/
def State.apartBut (s : State) (spared : Rack → Prop) : Prop :=
  ∀ r, ¬ spared r → s.latchedFor r = true → (s.rackState r).live = false

theorem trippedRacksApart_iff (s : State) :
    s.TrippedRacksApart ↔ s.apartBut fun _ => False := by
  have hl (x : RackState) : x.live = false ↔
      x ≠ .queued ∧ x ≠ .precharging ∧ x ≠ .joining ∧ x ≠ .connected := by
    cases x <;> simp [RackState.live]
  simp [State.TrippedRacksApart, State.apartBut, hl]

theorem State.SequencerKept.of_sequencer (h : s.SequencerKept) (hs : t.sequencer = s.sequencer) :
    t.SequencerKept := by
  obtain ⟨h1, h2, h3⟩ := h
  refine ⟨?_, ?_, ?_⟩ <;> simp only [State.rackState, hs] <;> assumption

theorem State.apartBut.of_parts {spared : Rack → Prop} (h : s.apartBut spared)
    (hs : t.sequencer = s.sequencer) (hl : ∀ r, t.latchedFor r = true → s.latchedFor r = true) :
    t.apartBut spared := fun r hr ht => by
  rw [rackState_eq_of_sequencer hs]
  exact h r hr (hl r ht)

/-- A protective operation leaves a rack in a state it drains in. -/
theorem drains_iff (x : RackState) : x.drains = true ↔ x = .draining ∨ x = .opening := by
  cases x <;> simp [RackState.drains]

/-- A rack takes a new part of the sequencer, the queue left as it is. -/
theorem sequencerKept_rack {r : Rack} {x : RackSwitch} (h : s.SequencerKept)
    (hx : RackMove (s.sequencer.racks.get r) x) : (s.setRackSwitch r x).SequencerKept := by
  refine ⟨fun k => ?_, h.once, fun k => ?_⟩ <;>
    simp only [State.rackState, State.setRackSwitch_sequencer, PerRack.get_set]
  · split
    next hk => subst hk; rw [queued_of_passes hx.passes]; exact h.queued k
    next => exact h.queued k
  · split
    next hk =>
      subst hk
      intro ho
      rcases hx.protective ho with hd | ⟨he, hd⟩
      · exact (drains_iff _).1 hd
      · rw [he] at ho
        have hk := (drains_iff _).2 (h.protective k ho)
        rw [State.rackState, hd] at hk
        cases hk
    next => exact h.protective k

theorem dequeue_queue (r : Rack) (s : State) :
    (dequeue r s).sequencer.queue = s.sequencer.queue.filter fun e => e.rack ≠ r := rfl

/-- A rack leaves the queue for a state other than QUEUED. -/
theorem sequencerKept_dequeued {r : Rack} {x : RackSwitch} (h : s.SequencerKept)
    (ht : t.sequencer.queue = (dequeue r s).sequencer.queue)
    (hr : t.sequencer.racks = s.sequencer.racks.set r x)
    (hx : x.state ≠ .queued) (ho : x.operation.protective = false) : t.SequencerKept := by
  refine ⟨fun k => ?_, ?_, fun k => ?_⟩
  · simp only [State.rackState, hr, ht, dequeue_queue, PerRack.get_set, List.mem_filter]
    split
    next hk => subst hk; simp [hx]
    next hk =>
      rw [← State.rackState, ← h.queued k]
      constructor
      · rintro ⟨e, ⟨he, _⟩, hek⟩; exact ⟨e, he, hek⟩
      · rintro ⟨e, he, hek⟩; exact ⟨e, ⟨he, by simpa [hek] using hk⟩, hek⟩
  · rw [ht, dequeue_queue]
    exact h.once.sublist ((List.filter_sublist ..).map _)
  · simp only [State.rackState, hr, PerRack.get_set]
    split
    next hk => simp [ho]
    next hk => exact h.protective k

/-- The invariants of the sequencer over the elementary changes; racks a cause names are judged at the
end of its order. -/
theorem Moves.kept (h : Moves may s t) (hs : s.SequencerKept) {spared : Rack → Prop}
    (ha : s.apartBut spared) : t.SequencerKept ∧ t.apartBut spared := by
  induction h generalizing spared with
  | trans _ _ ih ih' =>
    obtain ⟨h1, h2⟩ := ih hs ha
    exact ih' h1 h2
  | trips s x h =>
    refine ⟨hs.of_sequencer rfl, ha.of_parts rfl fun r => latchedFor_mono ?_ ?_⟩ <;> intro k hk
    · exact h.racks r k ▸ hk
    · exact h.container ▸ hk
  | clearRack s r x k _ hk hx =>
    refine ⟨hs.of_sequencer rfl, ha.of_parts rfl fun q => latchedFor_mono ?_ fun _ h => h⟩
    intro j hj
    simp only [State.setRackLatches_trips, PerRack.get_set] at hj
    split at hj
    next hq =>
      subst hq
      by_cases hjk : j = k
      · subst hjk; rw [hk] at hj; cases hj
      · rw [hx j hjk] at hj; exact hj
    next => exact hj
  | clear s k h =>
    exact ⟨hs.of_sequencer rfl, ha.of_parts rfl fun r => latchedFor_mono (fun _ h => h)
      fun j => containerPut_clear _ k j⟩
  | @take kind named data s t _ ht ih =>
    have hseq := recorded_sequencer (recordOf kind named data s) kind named data s
    obtain ⟨h1, h2⟩ := ih (hs.of_sequencer hseq) (spared := fun r => spared r ∨ r ∈ namedRacks named)
      (fun r hr hl => by
        rw [not_or] at hr
        rw [rackState_eq_of_sequencer hseq]
        exact ha r hr.1 (latchedFor_recorded hr.2 ▸ hl))
    refine ⟨h1, fun r hr hl => ?_⟩
    by_cases hn : r ∈ namedRacks named
    · exact ht r hn
    · exact h2 r (not_or.2 ⟨hr, hn⟩) hl
  | rack s r x h =>
    refine ⟨sequencerKept_rack hs h, fun k hk hl => ?_⟩
    have hb := ha k hk hl
    simp only [State.rackState, State.setRackSwitch_sequencer, PerRack.get_set] at hb ⊢
    split
    next he => subst he; exact live_of_passes h.passes hb
    next => exact hb
  | leaves s r e x hx ho hb =>
    refine ⟨sequencerKept_dequeued (r := r) hs ?_ ?_ ?_ ho, fun k hk hl => ?_⟩
    · simp [post_sequencer]
    · simp [post_sequencer, dequeue]
    · intro hq; rw [hq] at hx; cases hx
    · have hl' : s.latchedFor k = true :=
        (latchedFor_of_trips (sameBut_trips (post_sameBut e (dequeue r s)) (by simp)) k) ▸ hl
      simp only [State.rackState, State.setRackSwitch_sequencer, PerRack.get_set, post_sequencer]
      split
      next => exact live_of_rests hx
      next => exact ha k hk hl'
  | queues s r x _ hr hl hx ho =>
    have hnone : ¬ ∃ e ∈ s.sequencer.queue, e.rack = r := by rw [hs.queued r, hr]; nofun
    refine ⟨⟨fun k => ?_, ?_, fun k => ?_⟩, fun k hk hlk => ?_⟩
    · simp only [State.rackState, State.setRackSwitch_sequencer, State.withSequencer_sequencer,
        PerRack.get_set, List.mem_append, List.mem_singleton]
      split
      next he => subst he; simp [hx]
      next he =>
        rw [← State.rackState, ← hs.queued k]
        constructor
        · rintro ⟨e, he' | rfl, hek⟩
          · exact ⟨e, he', hek⟩
          · exact absurd hek.symm he
        · rintro ⟨e, he', hek⟩; exact ⟨e, .inl he', hek⟩
    · simp only [State.setRackSwitch_sequencer, State.withSequencer_sequencer, List.map_append,
        List.map_cons, List.map_nil]
      refine List.nodup_append.2 ⟨hs.once, by simp, ?_⟩
      intro a ha b hb hab
      simp only [List.mem_singleton] at hb
      obtain ⟨e, he, rfl⟩ := List.mem_map.1 ha
      exact hnone ⟨e, he, hab.trans hb⟩
    · simp only [State.rackState, State.setRackSwitch_sequencer, State.withSequencer_sequencer,
        PerRack.get_set]
      split
      next => simp [ho]
      next => exact hs.protective k
    · by_cases he : k = r
      · subst he
        change s.latchedFor k = true at hlk
        rw [hl] at hlk; cases hlk
      · simpa [State.rackState, he] using ha k hk hlk
  | starts s r x _ hr hx ho =>
    have hq : s.rackState r = .queued := (hs.queued r).1 hr
    refine ⟨sequencerKept_dequeued (r := r) (x := x) hs ?_ ?_ ?_ ?_, fun k hk hlk => ?_⟩
    · rfl
    · rfl
    · rcases hx with hx | hx <;> rw [hx] <;> nofun
    · rw [ho]
      cases hp : (s.sequencer.racks.get r).operation.protective
      · rfl
      · rcases hs.protective r hp with h | h <;> rw [h] at hq <;> cases hq
    · have hb := ha k hk hlk
      by_cases he : k = r
      · subst he; rw [hq] at hb; cases hb
      · simpa [State.rackState, he, dequeue] using hb
  | compose s =>
    exact ⟨hs.of_sequencer (composeCommands_sequencer s), ha.of_parts (composeCommands_sequencer s)
      fun r h => h⟩
  | sequencer s slot hold => exact ⟨⟨hs.queued, hs.once, hs.protective⟩, ha⟩
  | refl | ring | samples | limits | balance | cooling | fire | converter | tables | site
  | choices => exact ⟨hs.of_sequencer rfl, ha.of_parts rfl fun _ h => h⟩

theorem ackLatch_standing (n : LatchName) (s : State) (r : Rack) :
    (ackLatch n s).latchedFor r = true → s.latchedFor r = true := by
  obtain ⟨q, k⟩ := n
  cases q with
  | none =>
    refine latchedFor_mono (fun _ h => h) fun j => ?_
    cases k <;> cases j <;> exact id
  | some q =>
    refine latchedFor_mono (fun j hj => ?_) fun _ h => h
    simp only [ackLatch, State.setRackLatches_trips, PerRack.get_set] at hj
    split at hj
    next he => subst he; revert hj; cases k <;> cases j <;> exact id
    next => exact hj

theorem ackLatch_sequencer (n : LatchName) (s : State) :
    (ackLatch n s).sequencer = s.sequencer := by
  obtain ⟨r, k⟩ := n
  cases r <;> rfl

theorem blocksReset_kept (s : State) : (blocksReset s).SequencerKept := by
  have hx (r : Rack) : (blocksReset s).rackState r ≠ .queued := fun h => by
    have := blocksReset_rackState s r
    rw [h] at this
    cases this
  refine ⟨fun r => ⟨?_, fun h => absurd h (hx r)⟩, ?_, fun r h => ?_⟩
  · rw [blocksReset_sequencer]; rintro ⟨e, he, _⟩; cases he
  · rw [blocksReset_sequencer]; exact List.nodup_nil
  · rw [blocksReset_sequencer] at h
    simp only [switchReset, State.withSequencer_sequencer, PerRack.get_mapWith,
      RackSwitch.afterReset, rewatch_operation] at h
    cases h

theorem Acts.kept (h : Acts may s t) (hs : s.SequencerKept) (ha : s.TrippedRacksApart) :
    t.TrippedRacksApart ∧ t.SequencerKept := by
  rw [trippedRacksApart_iff] at ha ⊢
  have same {u v : State} (hk : u.SequencerKept ∧ u.apartBut fun _ => False)
      (hv : v.sequencer = u.sequencer) (hl : v.trips = u.trips) :
      (v.apartBut fun _ => False) ∧ v.SequencerKept :=
    ⟨hk.2.of_parts hv fun r h => latchedFor_of_trips hl r ▸ h, hk.1.of_sequencer hv⟩
  have blocks (u : State) : ((blocksReset u).apartBut fun _ => False) ∧
      (blocksReset u).SequencerKept :=
    ⟨fun r _ _ => live_of_rests (blocksReset_rackState u r), blocksReset_kept u⟩
  induction h with
  | moves h => exact (h.kept hs ha).symm
  | trans _ _ ih ih' =>
    obtain ⟨h1, h2⟩ := ih hs ha
    exact ih' h2 h1
  | arbitrate s =>
    exact same ⟨hs, ha⟩ (sameBut_sequencer (arbitrate_sameBut s) (by simp))
      (sameBut_trips (arbitrate_sameBut s) (by simp))
  | offer s x =>
    exact same ⟨hs, ha⟩ (sameBut_sequencer (offerRequest_sameBut x s) (by simp))
      (sameBut_trips (offerRequest_sameBut x s) (by simp))
  | feedback s o on => exact same ⟨hs, ha⟩ (composeCommands_sequencer _) rfl
  | acknowledge s n =>
    exact ⟨ha.of_parts (ackLatch_sequencer n s) fun r => ackLatch_standing n s r,
      hs.of_sequencer (ackLatch_sequencer n s)⟩
  | forget s => exact ⟨ha.of_parts rfl fun _ h => h, hs.of_sequencer rfl⟩
  | powerOn s => exact blocks _
  | reset s => exact blocks _
  | taking | reply | site | untrace | converter => exact same ⟨hs, ha⟩ rfl rfl

/-- Settles O10: racks enter the bus only unlatched, and a cause takes the racks it names off it. -/
theorem trippedRacksStayApart : Obligations.TrippedRacksStayApart := by
  intro s t ha hs h
  rcases step_cases h with ⟨c, rest, hc⟩ | rfl
  · exact (exec_acts hc).kept (hs.of_sequencer rfl) ha
  · exact ⟨ha, hs.of_sequencer rfl⟩

/-! ## Contactors close only at a set complete (R129, R131, R132) -/

theorem commandedOpen_iff (s : State) (r : Rack) :
    s.commandedOpen r ↔ (s.rackState r).conducts = false := by
  simp only [State.commandedOpen, RackSwitch.mainCommand, RackSwitch.prechargeCommand,
    State.rackState]
  cases (s.sequencer.racks.get r).state <;> simp [RackState.conducts]

/-- Without the liberty to start a rack, no contactor closes. -/
theorem Moves.conducts_false (h : Moves may s t) (hm : ¬ may .start) {r : Rack}
    (hr : (s.rackState r).conducts = false) : (t.rackState r).conducts = false := by
  induction h with
  | trans _ _ ih ih' => exact ih' (ih hr)
  | take kind named data _ ht ih =>
    exact ih (by rw [rackState_eq_of_sequencer (recorded_sequencer _ _ _ _ _)]; exact hr)
  | compose s => rw [rackState_eq_of_sequencer (composeCommands_sequencer s)]; exact hr
  | rack s k x h =>
    simp only [State.rackState, State.setRackSwitch_sequencer, PerRack.get_set] at hr ⊢
    split
    next hk => subst hk; exact conducts_of_passes h.passes hr
    next => exact hr
  | leaves s k e x hx ho hb =>
    simp only [State.rackState, State.setRackSwitch_sequencer, PerRack.get_set, post_sequencer]
    split
    next => exact conducts_of_rests hx
    next => exact hr
  | queues s k x _ _ _ hx =>
    simp only [State.rackState, State.setRackSwitch_sequencer, State.withSequencer_sequencer,
      PerRack.get_set]
    split
    next => rw [hx]; rfl
    next => exact hr
  | starts s k x h => exact absurd h hm
  | refl | ring | samples | limits | balance | cooling | fire | converter | tables | site | choices
  | trips | clearRack | clear | sequencer => exact hr

theorem Acts.conducts_false (h : Acts may s t) (hm : ¬ may .start) {r : Rack}
    (hr : (s.rackState r).conducts = false) : (t.rackState r).conducts = false := by
  have same {u v : State} (hu : (u.rackState r).conducts = false)
      (hv : v.sequencer = u.sequencer) : (v.rackState r).conducts = false := by
    rw [rackState_eq_of_sequencer hv]; exact hu
  induction h with
  | moves h => exact h.conducts_false hm hr
  | trans _ _ ih ih' => exact ih' (ih hr)
  | arbitrate s => exact same hr (sameBut_sequencer (arbitrate_sameBut s) (by simp))
  | offer s x => exact same hr (sameBut_sequencer (offerRequest_sameBut x s) (by simp))
  | feedback s o on => exact same hr (composeCommands_sequencer _)
  | acknowledge s n => exact same hr (ackLatch_sequencer n s)
  | powerOn s => exact conducts_of_rests (blocksReset_rackState _ r)
  | reset s => exact conducts_of_rests (blocksReset_rackState _ r)
  | taking | reply | site | forget | untrace | converter => exact hr

/-- Settles O12: only a command that ends a slot has the liberty to start a rack. -/
theorem contactorsCloseOnlyAtSetComplete : Obligations.ContactorsCloseOnlyAtSetComplete := by
  intro c s t r hc h hs
  rw [commandedOpen_iff] at hs ⊢
  refine (exec_acts h).conducts_false (fun hm => ?_) hs
  rw [hm rfl] at hc
  cases hc

/-! ## The reset state -/

/-- Settles O11: the reset state has empty queues, every output off and every rack OPEN. -/
theorem invariantsHoldAtReset : Obligations.InvariantsHoldAtReset := by
  have hstate (r : Rack) : State.reset.rackState r = .opened := by cases r <;> rfl
  have hout (o : Output) : (State.reset.cooling.outputs.get o).command = false := by
    cases o <;> rfl
  refine ⟨⟨?_, ?_, ?_, ?_, ?_, ?_⟩, ⟨?_, ?_, ?_, ?_⟩, fun k => ?_, fun r _ => ?_, ⟨fun r => ?_, ?_,
    fun r h => ?_⟩⟩
  iterate 5 exact Nat.zero_le _
  · rfl
  iterate 4 intro h; rw [hout] at h; cases h
  · cases k <;> exact ⟨rfl, fun _ => rfl, fun h => absurd rfl h⟩
  · simp [hstate]
  · rw [hstate]; exact ⟨nofun, nofun⟩
  · exact List.nodup_nil
  · cases r <;> cases h

/-! ## The shape of every step -/

/-- Settles O1. -/
theorem stepRunsFrontCommand : Obligations.StepRunsFrontCommand := by
  refine ⟨fun c rest s h => ?_, fun s h => ?_⟩ <;> simp [step, h]

/-- Settles O5: a request that is not offered is not served. -/
theorem requestsNotOfferedWait : Obligations.RequestsNotOfferedWait := by
  intro c x s hq hn
  obtain ⟨owner, _, he | he⟩ := exec_request hq
  · rw [he]; exact (serve_waits hn owner).1
  · rw [he]; exact (serve_waits hn owner).2

theorem actWhen_next (due : Bool) (act : State → State) (s : State) :
    ∃ t, actWhen due act s = .next t := by
  cases due
  · exact ⟨s, rfl⟩
  · exact ⟨_, rfl⟩

theorem moveWhen_next (due : Bool) (act : State → State) (s : State) :
    ∃ t, moveWhen due act s = .next t := by
  cases due
  · exact ⟨s, rfl⟩
  · exact ⟨_, rfl⟩

/-- Settles O2: a command acts when its condition stands and leaves the state otherwise. -/
theorem everyCommandAnswersNext : Obligations.EveryCommandAnswersNext := by
  intro c s
  cases hq : c.request with
  | some x =>
    obtain ⟨owner, _, he | he⟩ := exec_request hq
    · rw [he]; exact actWhen_next _ _ s
    · rw [he]; exact moveWhen_next _ _ s
  | none =>
    cases c <;> try (cases hq; done)
    case powerOnReset | pinReset | loopToken | sampleReply | eventReply | outputFeedbackChange
      | lineReadingChange | contactorFeedbackChange | converterStatus | breakerFeedbackChange
      | downwardFrame => exact ⟨_, rfl⟩
    case tokenPhaseEnd | pollSlotStart | eventTurnStart | eventTurnEnd | oneSecondTimerExpiry
      | dailyReloadTimerExpiry | coolDownTimerExpiry | blindHoldTimerExpiry | hornPatternToggle
      | releasePulseEnd | feedbackWatchExpiry | limitPeriodExpiry | limitMessageSent
      | silenceWatchExpiry | breakerPulseEnd | breakerProofExpiry | upwardFrameSent
      | prechargeAttemptExpiry =>
      dsimp only [exec, execTokenPhaseEnd, execPollSlotStart, execEventTurnStart, execEventTurnEnd,
        execOneSecondTimerExpiry, execDailyReloadTimerExpiry, execCoolDownTimerExpiry,
        execBlindHoldTimerExpiry, execHornPatternToggle, execReleasePulseEnd,
        execFeedbackWatchExpiry, execLimitPeriodExpiry, execLimitMessageSent,
        execSilenceWatchExpiry, execBreakerPulseEnd, execBreakerProofExpiry, execUpwardFrameSent,
        execPrechargeAttemptExpiry]
      exact actWhen_next _ _ s
    case commandReset | cycleStart | pollSlotEnd | blindTimerExpiry | controlIntervalExpiry
      | proofTimerExpiry | lineDebounceExpiry | countdownExpiry | watchTimerExpiry | waitTimerExpiry
      | prechargeTimeout | closeProofExpiry | prechargeReleaseDelayEnd | drainTimerExpiry
      | openProofExpiry | silentTripExpiry | siteSilenceExpiry =>
      dsimp only [exec, execCommandReset, execCycleStart, execPollSlotEnd, execBlindTimerExpiry,
        execControlIntervalExpiry, execProofTimerExpiry, execLineDebounceExpiry,
        execCountdownExpiry, execWatchTimerExpiry, execWaitTimerExpiry, execPrechargeTimeout,
        execCloseProofExpiry, execPrechargeReleaseDelayEnd, execDrainTimerExpiry,
        execOpenProofExpiry, execSilentTripExpiry, execSiteSilenceExpiry]
      exact moveWhen_next _ _ s

/-- A taken request leaves the FIFO, and its reply comes last of those not yet sent. -/
theorem takeRequest_answers {owner : State → Answer} (ho : ∀ s, OwnerActs may s (owner s).state)
    {x : Tagged} {rest : List Tagged} (h : s.offers x rest) :
    (takeRequest x.tag x.request owner s).site.fifo = rest ∧
      ∃ result body, (takeRequest x.tag x.request owner s).site.unsentReplies =
        s.site.unsentReplies ++ [⟨x.tag, x.request, result, body⟩] := by
  rw [takeRequest_offered h]
  obtain ⟨hf, hr, hl⟩ := (ho (s.taking rest)).traffic
  have hr' : (owner (s.taking rest)).state.site.replies = s.site.replies := hr
  have hl' : (owner (s.taking rest)).state.site.link = s.site.link := hl
  refine ⟨hf, (owner (s.taking rest)).result, (owner (s.taking rest)).body, ?_⟩
  simp [reply, Site.unsentReplies, hr', hl', List.append_assoc]

theorem SameTraffic.unsentReplies {x y : Site} (h : SameTraffic x y) :
    y.unsentReplies = x.unsentReplies := by
  simp [Site.unsentReplies, h.link, h.replies]

/-- Settles O6: the owners leave the traffic of the site link to the taking and the reply. -/
theorem everyTakenRequestIsAnsweredOnce : Obligations.EveryTakenRequestIsAnsweredOnce := by
  intro c x rest s hq hoff
  obtain ⟨owner, ho, he⟩ := exec_request hq
  obtain ⟨hf, result, body, hu⟩ := takeRequest_answers ho hoff
  rcases he with he | he
  · refine ⟨_, result, body, (he s).trans (serve_offered hoff owner), ?_, ?_⟩
    · rw [(arbitrate_keeps _).1, hf]
    · rw [arbitrate_unsentReplies, hu]
  · have ht := (settle_moves (may := fun _ => True)
      (.refl (takeRequest x.tag x.request owner s)) trivial).traffic
    refine ⟨_, result, body, (he s).trans (serveMoving_offered hoff owner), ?_, ?_⟩
    · rw [(arbitrate_keeps _).1, ht.fifo, hf]
    · rw [arbitrate_unsentReplies, ht.unsentReplies, hu]

end Sys2Proof.Machine

namespace Sys2Proof.Machine

variable {may : Liberty → Prop} {u s t : State}

/-! ## The arbiter (R180, R181) -/

theorem arbitrate_busy {s : State} {f : UpFrame} (h : s.site.link = some f) : arbitrate s = s := by
  simp [arbitrate, h]

theorem arbitrate_resetDue {s : State} (h : s.site.reset = .due) : arbitrate s = s := by
  unfold arbitrate
  split
  · rfl
  · simp [h]

theorem arbitrate_free {s : State} (h : s.site.link = none) (hr : s.site.reset ≠ .due) :
    arbitrate s = s.withSite (grant s.site) := by
  simp [arbitrate, h, hr]

theorem grant_reply {x : Site} {r : Reply} {rest : List Reply} (h : x.replies = r :: rest) :
    grant x = { x with link := some (.reply r), replies := rest } := by
  simp [grant, h]

theorem grant_event {x : Site} {e : Posted} {rest : List Posted} (h : x.replies = [])
    (he : x.events = e :: rest) : grant x = { x with link := some (.event e), events := rest } := by
  simp [grant, h, he]

/-- The first filled place from the pointer on is sent (R181). -/
theorem grant_place {x : Site} {before after : List Place} {p : Place} (h : x.replies = [])
    (he : x.events = []) (hp : x.pointer.ringFrom = before ++ p :: after)
    (hb : ∀ q ∈ before, x.filled q = false) (hf : x.filled p = true) :
    grant x = sendPlace p x := by
  have hfind : x.pointer.ringFrom.find? x.filled = some p := by
    rw [hp, List.find?_append, List.find?_eq_none.2 (by simpa using hb)]
    simp [hf]
  simp [grant, h, he, hfind]

theorem grant_nothing {x : Site} (h : x.replies = []) (he : x.events = [])
    (hf : ∀ p, x.filled p = false) :
    (∀ t rest, x.traces = t :: rest → grant x = { x with link := some (.trace t), traces := rest }) ∧
      (x.traces = [] → grant x = x) := by
  have hfind : x.pointer.ringFrom.find? x.filled = none := List.find?_eq_none.2 (by simp [hf])
  constructor
  · intro t rest ht; simp [grant, h, he, hfind, ht]
  · intro ht; simp [grant, h, he, hfind, ht]

/-- The frame that sends the report of a place, EVENT_LOST as it stands then (R182). -/
def Site.reportOf (x : Site) : Place → Option UpFrame
  | .rack1 => x.rackPlaces.r1.map UpFrame.rack
  | .rack2 => x.rackPlaces.r2.map UpFrame.rack
  | .rack3 => x.rackPlaces.r3.map UpFrame.rack
  | .rack4 => x.rackPlaces.r4.map UpFrame.rack
  | .container => x.containerPlace.map fun y => UpFrame.container { y with eventLost := x.eventLost }

/-- What sending a filled place does to the state reports (R181, R182). -/
theorem sendPlace_filled {x : Site} {p : Place} (hf : x.filled p = true) :
    (sendPlace p x).pointer = p.next ∧
      (∀ q, (sendPlace p x).filled q = (x.filled q && decide (q ≠ p))) ∧
      (sendPlace p x).link = x.reportOf p ∧
      (sendPlace p x).eventLost = (x.eventLost && decide (p ≠ .container)) := by
  cases p <;> simp only [Site.filled] at hf <;> obtain ⟨y, hy⟩ := Option.isSome_iff_exists.1 hf <;>
    refine ⟨rfl, fun q => ?_, ?_, ?_⟩
  case container.refine_1 => cases q <;> simp [sendPlace, sendContainerPlace, hy, Site.filled]
  case container.refine_2 | container.refine_3 => simp [sendPlace, sendContainerPlace, hy, Site.reportOf]
  case rack1.refine_1 | rack2.refine_1 | rack3.refine_1 | rack4.refine_1 =>
    cases q <;> simp [sendPlace, sendRackPlace, PerRack.get, PerRack.set, hy, Site.filled]
  all_goals simp [sendPlace, sendRackPlace, PerRack.get, hy, Site.reportOf]

/-- Settles O3: the arbiter's classes, and the state reports in turn. -/
theorem arbiterGrantsByClass : Obligations.ArbiterGrantsByClass := by
  refine ⟨fun s => ⟨fun f => arbitrate_busy, fun _ => arbitrate_resetDue, fun hl hr =>
    ⟨fun r rest h => ?_, fun h e rest he => ?_, fun h he hf => ?_⟩⟩, ?_⟩
  · rw [arbitrate_free hl hr, grant_reply h]
  · rw [arbitrate_free hl hr, grant_event h he]
  · rw [arbitrate_free hl hr]
    obtain ⟨h1, h2⟩ := grant_nothing h he hf
    exact ⟨fun t rest ht => by rw [h1 t rest ht], fun ht => by rw [h2 ht]; rfl⟩
  · intro s before after p hl hr h he hp hb hf
    rw [arbitrate_free hl hr, grant_place h he hp hb hf]
    obtain ⟨h1, h2, h3, h4⟩ := sendPlace_filled hf
    exact ⟨h1, h2, by cases p <;> exact h3, h4, (sendPlace_keeps p s.site).2.2.2.1, withSite_sameBut s _⟩

/-- Settles O4: posting, by the room in the queue. -/
theorem eventsAreNumberedAndBounded : Obligations.EventsAreNumberedAndBounded := by
  refine fun e s => ⟨fun h => ?_, fun h => ?_⟩
  · rw [post, if_pos h]
  · rw [post, if_neg (Nat.not_lt.2 h)]
    rfl

end Sys2Proof.Machine

namespace Sys2Proof.Machine

variable {may : Liberty → Prop} {u s t : State}

/-! ## The cell ring (chapter 1) -/

theorem actWhen_of {due : Bool} {act : State → State} {s : State} (h : due = true) :
    actWhen due act s = .next (arbitrate (act s)) := by
  subst h; rfl

theorem moveWhen_of {due : Bool} {act : State → State} {s : State} (h : due = true) :
    moveWhen due act s = .next (arbitrate (settle (act s))) := by
  subst h; rfl

theorem exec_cycleStart (s : State) : exec .cycleStart s = moveWhen s.cycleDue startCycle s := rfl

theorem exec_loopToken (d : RingEnd) (f : TokenFrame) (s : State) :
    exec (.loopToken d f) s = .next (arbitrate (receiveToken d f s)) := rfl

theorem exec_tokenPhaseEnd (s : State) :
    exec .tokenPhaseEnd s = actWhen (decide (s.ring.phase = .token)) endTokenPhase s := rfl

theorem exec_pollSlotStart (s : State) :
    exec .pollSlotStart s = actWhen s.nextSlot.isSome startSlot s := rfl

theorem exec_sampleReply (d : RingEnd) (f : SampleFrame) (s : State) :
    exec (.sampleReply d f) s = .next (arbitrate (settle (receiveSample d f s))) := rfl

theorem exec_eventReply (d : RingEnd) (f : EventFrame) (s : State) :
    exec (.eventReply d f) s = .next (arbitrate (settle (receiveEvent d f s))) := rfl

theorem exec_pollSlotEnd (s : State) :
    exec .pollSlotEnd s = moveWhen s.presentSlot.isSome endSlot s := rfl

theorem exec_eventTurnStart (s : State) :
    exec .eventTurnStart s = actWhen s.nextTurn.isSome startTurn s := rfl

theorem exec_eventTurnEnd (s : State) :
    exec .eventTurnEnd s = actWhen s.presentTurn.isSome endTurn s := rfl

theorem swapRingPath_nil (s : State) : swapRingPath [] s = s := rfl

theorem committedRingPath_eq_nil {s : State}
    (h : ∀ n ∈ TableName.ringPath, (s.table n).state ≠ .committed) : s.committedRingPath = [] := by
  unfold State.committedRingPath
  rw [List.filter_eq_nil_iff]
  intro n hn
  simpa using h n hn

/-- Without a waiting ring-path table a cycle start changes the counter, the length and the token. -/
theorem startCycle_unswapped {s : State}
    (h : ∀ n ∈ TableName.ringPath, (s.table n).state ≠ .committed) :
    startCycle s = beginCycle (s.withRing { s.ring with cycle := s.nextCycle }) := by
  unfold startCycle
  have hn : (s.withRing { s.ring with cycle := s.nextCycle }).committedRingPath = [] :=
    committedRingPath_eq_nil h
  simp only [hn, swapRingPath_nil]

/-- Settles O17. -/
theorem cycleStartSendsToken : Obligations.CycleStartSendsToken := by
  unfold Obligations.CycleStartSendsToken
  intro s h hdue hheader hnone
  have hlength : (s.withRing { s.ring with cycle := s.nextCycle }).cycleLengthNow =
      if s.site.mode = .standby then h.cycleLength * h.stretch else h.cycleLength := by
    unfold State.cycleLengthNow
    have : (s.withRing { s.ring with cycle := s.nextCycle }).slotHeader = some h := hheader
    simp only [this]
    rfl
  rw [exec_cycleStart, moveWhen_of hdue, startCycle_unswapped hnone]
  unfold beginCycle
  rw [hlength]
  rfl

/-- Settles O18, along the cases of the phase, the end and the first failing check. -/
theorem tokensAreChecked : Obligations.TokensAreChecked := by
  unfold Obligations.TokensAreChecked
  intro d f s
  refine ⟨fun hp => ?_, fun hp => ⟨fun he => ?_, fun he => ?_, fun hl => ?_, fun hl hs => ?_,
    fun hl hs hc => ?_, fun hl hs hc => ⟨fun he => ?_, fun he => ?_⟩⟩⟩ <;> rw [exec_loopToken]
  case refine_1 => simp [receiveToken, hp]
  case refine_2 => simp [receiveToken, hp, he]
  case refine_3 => simp [receiveToken, hp, he]
  all_goals
    simp only [receiveToken, hp, if_true]
  case refine_4 => simp [State.tokenError, hl]
  case refine_5 => simp [State.tokenError, hl, hs]
  case refine_6 => simp [State.tokenError, hl, hs, hc]
  case refine_7 => simp [State.tokenError, hl, hs, hc, he]
  case refine_8 => simp [State.tokenError, hl, hs, hc, he, State.withRing]

theorem countUp_eq_min (top n : Nat) : countUp top n = min top (n + 1) := by
  unfold countUp; split <;> omega

/-- The run counts and the ring state that the settling of a token leaves (R9). -/
def Ring.tokenSettled (r : Ring) : Ring :=
  let up := if r.tokenReturned then min 2 (r.returnedRun + 1) else 0
  let down := if r.tokenReturned then 0 else min 2 (r.lostRun + 1)
  { r with
    returnedRun := up
    lostRun := down
    ringState := if r.ringState = .closed ∧ down = 2 then .opened
      else if r.ringState = .opened ∧ up = 2 then .closed
      else r.ringState }

theorem settleToken_eq (s : State) :
    settleToken s = if s.ring.tokenSettled.ringState = s.ring.ringState
      then s.withRing s.ring.tokenSettled
      else produceContainerSummary (post (.ringState s.ring.tokenSettled.ringState s.ring.cycle)
        (s.withRing s.ring.tokenSettled)) := by
  unfold settleToken Ring.tokenSettled
  cases s.ring.ringState <;> simp [countUp_eq_min]

/-! A container summary does not read the phase. -/

theorem setPhase_summary (p : Phase) (s : State) :
    setPhase p (produceContainerSummary s) = produceContainerSummary (setPhase p s) := rfl

theorem setPhase_post (p : Phase) (e : Event) (s : State) :
    setPhase p (post e s) = post e (setPhase p s) := by
  have hsite : (setPhase p s).site = s.site := rfl
  unfold post
  by_cases h : s.site.events.length < 32
  · rw [if_pos h, if_pos (hsite ▸ h)]; rfl
  · rw [if_neg h, if_neg (hsite ▸ h)]; rfl

/-- Settles O19. -/
theorem tokenPhaseEndSettlesRing : Obligations.TokenPhaseEndSettlesRing := by
  unfold Obligations.TokenPhaseEndSettlesRing
  intro s hp
  have hphase : phaseAfter 0 (s.entries).length =
      if s.entries = [] then .betweenTurns 0 else .betweenSlots 0 := by
    unfold phaseAfter
    cases s.entries <;> simp
  have hexec : exec .tokenPhaseEnd s = .next (arbitrate (endTokenPhase s)) := by
    rw [exec_tokenPhaseEnd, actWhen_of (by simpa using hp)]
  refine ⟨fun h => ?_, fun h => ?_⟩ <;> rw [hexec, endTokenPhase, settleToken_eq, hphase]
  · have hs : s.ring.tokenSettled.ringState = s.ring.ringState := h
    rw [if_pos hs]; rfl
  · have hs : s.ring.tokenSettled.ringState ≠ s.ring.ringState := h
    rw [if_neg hs, setPhase_summary, setPhase_post]; rfl

/-! ## Slots and turns (R10, R15, R19) -/

theorem nextSlot_eq {s : State} {k : Nat} {e : SlotEntry} (hp : s.ring.phase = .betweenSlots k)
    (he : s.entries[k]? = some e) : s.nextSlot = some (k, e) := by
  simp [State.nextSlot, hp, he]

theorem presentSlot_eq {s : State} {k : Nat} {e : SlotEntry} (hp : s.ring.phase = .slot k)
    (he : s.entries[k]? = some e) : s.presentSlot = some (k, e) := by
  simp [State.presentSlot, hp, he]

theorem sideOf_eq {s : State} {node : Nat} {n : RingNode} (h : s.ringNode node = some n) :
    s.sideOf node = n.side := by
  simp [State.sideOf, h]

/-- The mask of a poll, as its CRC-16 covers it (R11). -/
theorem pollMask_carried {s : State} {e : SlotEntry} {n : RingNode}
    (h : s.ringNode e.node = some n) :
    (s.pollMask e).carried =
      if e.nodeKind = .cell ∧ n.confirmed = false then some n.commanded else none := by
  unfold State.pollMask
  cases e.nodeKind
  case cell => cases hc : n.confirmed <;> simp [h, hc, PollMask.carried]
  case junction | plant => rfl

theorem pollMask_eq (s : State) (e : SlotEntry) :
    s.pollMask e = match (s.pollMask e).carried with
      | some m => .mask m
      | none => .unchanged := by
  cases s.pollMask e <;> rfl

theorem replyChannels_length (e : SlotEntry) (cycle : Nat) :
    (e.replyChannels cycle).length = match e.nodeKind with
      | .cell => e.cells + if e.requestsTemperatures cycle then e.temperatures else 0
      | .junction => 4
      | .plant => 5 := by
  unfold SlotEntry.replyChannels
  cases e.nodeKind
  case cell => cases e.requestsTemperatures cycle <;> simp
  case junction | plant => rfl

/-- Settles O20. -/
theorem pollSlotStartPollsNode : Obligations.PollSlotStartPollsNode := by
  unfold Obligations.PollSlotStartPollsNode
  intro s k e n hp he hn
  have hnext := nextSlot_eq hp he
  have htemp : decide (s.ring.cycle &&& e.tempMask = e.tempMatch ∧ 0 < e.temperatures) =
      e.requestsTemperatures s.ring.cycle := by
    simp [SlotEntry.requestsTemperatures]
  have hstart : startSlot s = setPhase (.slot k) (slotPoll e s) := by
    simp only [startSlot, hnext]
  have hcarried := pollMask_carried hn
  have hmask := pollMask_eq s e
  rw [hcarried] at hmask
  rw [exec_pollSlotStart, actWhen_of (by simp [hnext]), hstart]
  unfold slotPoll
  dsimp only
  rw [htemp, hcarried, hmask, replyChannels_length, sideOf_eq hn]
  rfl

theorem setEnd_endOf (r : Ring) (d : RingEnd) (x : EndState) : (r.setEnd d x).endOf d = x := by
  cases d <;> rfl

theorem setEnd_endOf_other (r : Ring) (d : RingEnd) (x : EndState) :
    (r.setEnd d x).endOf (otherEnd d) = r.endOf (otherEnd d) := by
  cases d <;> rfl

theorem receiveSample_error {s : State} {d : RingEnd} {f : SampleFrame} {k : RingError}
    (h : s.sampleError d f = some k) : receiveSample d f s = discard d k s := by
  simp only [receiveSample, h]

theorem receiveEvent_error {s : State} {d : RingEnd} {f : EventFrame} {k : RingError}
    (h : s.eventError d f = some k) : receiveEvent d f s = discard d k s := by
  simp only [receiveEvent, h]

/-- Checks 2 to 6, once the length and the number of codes hold. -/
theorem sampleError_of_fits {s : State} {d : RingEnd} {f : SampleFrame} (hl : f.lengthOk = true)
    (hw : ∀ e, (s.ring.endOf d).expectation = some e → e.wanted = .sample f.codes.length) :
    s.sampleError d f =
      if f.symbolsOk = false then some .noise
      else if f.crc ≠ crc16 (Config.sampleReplyBytes f.node f.echo f.codes f.eventPending
        f.nodeFault f.applied) then some .crc
      else expectationError (s.ring.endOf d).expectation f.node f.echo := by
  have hcodes : wrongCodes (s.ring.endOf d).expectation f.codes.length = false := by
    unfold wrongCodes
    cases he : (s.ring.endOf d).expectation with
    | none => rfl
    | some e => simp [hw e he]
  simp [State.sampleError, hl, hcodes]

theorem eventError_of_fits {s : State} {d : RingEnd} {f : EventFrame} (hl : f.lengthOk = true)
    (hw : ∀ e, (s.ring.endOf d).expectation = some e → e.wanted = .event) :
    s.eventError d f =
      if f.symbolsOk = false then some .noise
      else if f.crc ≠ crc16 (Config.eventReplyBytes f.node f.echo f.eventPending f.nodeFault f.kind
        f.channel) then some .crc
      else expectationError (s.ring.endOf d).expectation f.node f.echo := by
  have hkind : wrongKind (s.ring.endOf d).expectation = false := by
    unfold wrongKind
    cases he : (s.ring.endOf d).expectation with
    | none => rfl
    | some e => simp [hw e he]
  simp [State.eventError, hl, hkind]

/-- Settles O21: the discard itself, then each check in turn. -/
theorem badRepliesAreDiscarded : Obligations.BadRepliesAreDiscarded := by
  unfold Obligations.BadRepliesAreDiscarded
  refine ⟨fun d k s => ⟨by simp [sameBut_refl], ?_, setEnd_endOf_other _ _ _, setEnd_endOf _ _ _,
    fun e => ⟨rfl, rfl, rfl, rfl, rfl, rfl⟩⟩, fun d f g s => ?_⟩
  · cases d <;> rfl
  · have sample : ∀ {k}, s.sampleError d f = some k →
        exec (.sampleReply d f) s = .next (arbitrate (settle (discard d k s))) := fun h => by
      rw [exec_sampleReply, receiveSample_error h]
    have event : ∀ {k}, s.eventError d g = some k →
        exec (.eventReply d g) s = .next (arbitrate (settle (discard d k s))) := fun h => by
      rw [exec_eventReply, receiveEvent_error h]
    refine ⟨fun hl => sample ?_, fun e n hl hx hw hn => sample ?_, fun hl hw => ⟨fun hs => sample ?_,
      fun hs hc => sample ?_, fun hs hc => ⟨fun hx => sample ?_, fun e hx => ⟨fun hn => sample ?_,
        fun hn he => sample ?_, fun hn he hd => sample ?_⟩⟩⟩, fun hl => event ?_,
      fun hl hw => ⟨fun hs => event ?_, fun hs hc => event ?_, fun hs hc => ⟨fun hx => event ?_,
        fun e hx => ⟨fun hn => event ?_, fun hn he => event ?_, fun hn he hd => event ?_⟩⟩⟩⟩
    · simp [State.sampleError, hl]
    · simp [State.sampleError, hl, hx, hw, hn, wrongCodes]
    · simp [sampleError_of_fits hl hw, hs]
    · simp [sampleError_of_fits hl hw, hs, hc]
    · simp [sampleError_of_fits hl hw, hs, hc, hx, expectationError]
    · simp [sampleError_of_fits hl hw, hs, hc, hx, hn, expectationError]
    · simp [sampleError_of_fits hl hw, hs, hc, hx, hn, he, expectationError]
    · simp [sampleError_of_fits hl hw, hs, hc, hx, hn, he, hd, expectationError]
    · simp [State.eventError, hl]
    · simp [eventError_of_fits hl hw, hs]
    · simp [eventError_of_fits hl hw, hs, hc]
    · simp [eventError_of_fits hl hw, hs, hc, hx, expectationError]
    · simp [eventError_of_fits hl hw, hs, hc, hx, hn, expectationError]
    · simp [eventError_of_fits hl hw, hs, hc, hx, hn, he, expectationError]
    · simp [eventError_of_fits hl hw, hs, hc, hx, hn, he, hd, expectationError]

/-! ### Event turns -/

theorem nextTurn_eq {s : State} {j : Nat} (hp : s.ring.phase = .betweenTurns j)
    (hj : j < s.eventTurns) : s.nextTurn = some j := by
  simp [State.nextTurn, hp, hj]

theorem presentTurn_eq {s : State} {j node : Nat} (hp : s.ring.phase = .turn j node) :
    s.presentTurn = some (j, node) := by
  simp [State.presentTurn, hp]

theorem startTurn_idle {s : State} {j : Nat} (hj : s.nextTurn = some j)
    (hl : s.ring.pollList = []) : startTurn s = setPhase (.turn j 0) s := by
  simp only [startTurn, hj, hl]

theorem startTurn_polls {s : State} {j node : Nat} {rest : List Nat} (hj : s.nextTurn = some j)
    (hl : s.ring.pollList = node :: rest) : startTurn s =
      setPhase (.turn j node) (eventPoll node (s.withRing { s.ring with pollList := rest })) := by
  simp only [startTurn, hj, hl]

theorem endTurn_answered {s : State} {j node : Nat} (hp : s.ring.phase = .turn j node)
    (h : s.unanswered (s.sideOf node) node = false) :
    endTurn s = setPhase (.betweenTurns (j + 1)) s := by
  simp [endTurn, presentTurn_eq hp, h]

theorem endTurn_unanswered {s : State} {j node : Nat} (hp : s.ring.phase = .turn j node)
    (h : s.unanswered (s.sideOf node) node = true) :
    endTurn s = setPhase (.betweenTurns (j + 1)) (pollLater node (markEnded (s.sideOf node) s)) := by
  simp [endTurn, presentTurn_eq hp, h]

theorem exec_eventTurnEnd_of {s : State} {j node : Nat} (hp : s.ring.phase = .turn j node) :
    exec .eventTurnEnd s = .next (arbitrate (endTurn s)) := by
  rw [exec_eventTurnEnd, actWhen_of (by simp [presentTurn_eq hp])]

/-- The poll list of a node that joins it (R18). -/
theorem pollLater_eq (node : Nat) (s : State) :
    pollLater node s = s.withRing { s.ring with
      pollList := if node ∈ s.ring.pollList then s.ring.pollList else s.ring.pollList ++ [node] } := by
  unfold pollLater
  by_cases h : node ∈ s.ring.pollList
  · simp [h]; rfl
  · simp [h]

theorem setEnd_pollList (r : Ring) (d : RingEnd) (x : EndState) :
    (r.setEnd d x).pollList = r.pollList := by
  cases d <;> rfl

/-- Settles O24. -/
theorem eventTurnsPollTheList : Obligations.EventTurnsPollTheList := by
  unfold Obligations.EventTurnsPollTheList
  refine ⟨fun s j hp hj => ?_, fun s j node n hp hn => ⟨fun h => ?_, fun h => ?_⟩,
    fun s j hp h => ?_⟩
  · have hnext := nextTurn_eq hp hj
    have hexec : exec .eventTurnStart s = .next (arbitrate (startTurn s)) := by
      rw [exec_eventTurnStart, actWhen_of (by simp [hnext])]
    refine ⟨fun hl => ?_, fun node rest n hl hn => ?_⟩ <;> rw [hexec]
    · rw [startTurn_idle hnext hl]; rfl
    · have hside : (s.withRing { s.ring with pollList := rest }).sideOf node = n.side :=
        sideOf_eq (s := s.withRing { s.ring with pollList := rest }) hn
      rw [startTurn_polls hnext hl]
      unfold eventPoll
      rw [hside]
      cases n.side <;> rfl
  · rw [exec_eventTurnEnd_of hp, endTurn_answered hp (by rwa [sideOf_eq hn])]; rfl
  · rw [exec_eventTurnEnd_of hp, endTurn_unanswered hp (by rwa [sideOf_eq hn]), sideOf_eq hn,
      pollLater_eq]
    unfold markEnded setExpectation
    rw [show (s.withRing (s.ring.setEnd n.side _)).ring.pollList = s.ring.pollList from
      setEnd_pollList _ _ _]
    rfl
  · rw [exec_eventTurnEnd_of hp, endTurn_answered hp h]; rfl

end Sys2Proof.Machine

namespace Sys2Proof.Machine

variable {may : Liberty → Prop} {u s t : State}

/-! ## Requests answered at once -/

/-- A request whose owner leaves a state that no longer holds it. -/
theorem takeRequest_answered {tag : Byte} {q : Request} {rest : List Tagged}
    (h : s.offers ⟨tag, q⟩ rest) {owner : State → Answer} {result : Result} {body : ReplyBody}
    (ho : owner (s.taking rest) = ⟨t.taking rest, result, body⟩) :
    takeRequest tag q owner s = t.answered ⟨tag, q⟩ rest result body := by
  rw [takeRequest_offered h, ho]
  rfl

theorem serve_answered {tag : Byte} {q : Request} {rest : List Tagged}
    (h : s.offers ⟨tag, q⟩ rest) {owner : State → Answer} {result : Result} {body : ReplyBody}
    (ho : owner (s.taking rest) = ⟨t.taking rest, result, body⟩) :
    serve tag q owner s = .next (arbitrate (t.answered ⟨tag, q⟩ rest result body)) := by
  rw [serve_offered h, takeRequest_answered h ho]

theorem serveMoving_answered {tag : Byte} {q : Request} {rest : List Tagged}
    (h : s.offers ⟨tag, q⟩ rest) {owner : State → Answer} {result : Result} {body : ReplyBody}
    (ho : owner (s.taking rest) = ⟨t.taking rest, result, body⟩) :
    serveMoving tag q owner s =
      .next (arbitrate (settle (t.answered ⟨tag, q⟩ rest result body))) := by
  rw [serveMoving_offered h, takeRequest_answered h ho]

/-! ### READ_RACK and READ_CELLS (R44) -/

theorem answerReadRack_some {rack : Nat} {r : Rack} (h : Rack.ofNumber rack = some r) (s : State) :
    answerReadRack rack s = ⟨s, .ok, .rack (rackReportOf r s)⟩ := by
  simp only [answerReadRack, h]

theorem answerReadRack_none {rack : Nat} (h : Rack.ofNumber rack = none) (s : State) :
    answerReadRack rack s = ⟨s, .badIndex, .nothing⟩ := by
  simp only [answerReadRack, h]

theorem answerReadCells_refused {rack first last : Nat}
    (h : Rack.ofNumber rack = none ∨ first < 1 ∨ 56 < last ∨ last < first) (clear : Bool)
    (s : State) : answerReadCells rack first last clear s = ⟨s, .badIndex, .nothing⟩ := by
  unfold answerReadCells
  cases hr : Rack.ofNumber rack with
  | none => rfl
  | some r =>
    have hrange : first < 1 ∨ 56 < last ∨ last < first := by simpa [hr] using h
    have : (first < 1 || 56 < last || last < first) = true := by simpa [or_assoc] using hrange
    simp only [this, if_true]

/-- The extremes of the carried records restart when the option asks for it. -/
theorem clearExtremes_eq (r : Rack) (nodes : List Nat) (clear : Bool) (s : State) :
    (if clear then clearExtremes r nodes s else s) =
      s.withSamples { s.samples with
        records := s.samples.records.map fun x =>
          if clear = true ∧ x.rack = some r ∧ x.node ∈ nodes then
            { x with minimum := x.value, maximum := x.value }
          else x } := by
  cases clear
  · simp [State.withSamples]
  · simp [clearExtremes]

theorem answerReadCells_range {rack first last : Nat} {r : Rack} (hr : Rack.ofNumber rack = some r)
    (hf : 1 ≤ first) (hl : last ≤ 56) (hfl : first ≤ last) (clear : Bool) (s : State) :
    answerReadCells rack first last clear s =
      let records := s.samples.records.filter fun x =>
        decide (x.rack = some r ∧ first ≤ x.node ∧ x.node ≤ last)
      let nodes := nodesCarried records
      let carried := records.filter fun x => nodes.contains x.node
      ⟨s.withSamples { s.samples with
        records := s.samples.records.map fun x =>
          if clear = true ∧ x.rack = some r ∧ x.node ∈ nodes then
            { x with minimum := x.value, maximum := x.value }
          else x }, .ok,
        .cells (carried.map s.cellReport)
          (if carried.length < records.length then nodes.getLast? else none)⟩ := by
  have hrange : (first < 1 || 56 < last || last < first) = false := by
    simp only [Bool.or_eq_false_iff, decide_eq_false_iff_not]
    omega
  have hrecords : s.recordsIn r first last = s.samples.records.filter fun x =>
      decide (x.rack = some r ∧ first ≤ x.node ∧ x.node ≤ last) := by
    simp only [State.recordsIn, State.rackRecords, List.filter_filter]
    exact List.filter_congr fun x _ => by simp [and_comm]
  simp only [answerReadCells, hr, hrange, hrecords, clearExtremes_eq]
  rfl

/-- Settles O29. -/
theorem readRackAndCells : Obligations.ReadRackAndCells := by
  unfold Obligations.ReadRackAndCells
  intro tag k first last clear rest s
  refine ⟨fun ho => ⟨fun r hr => serve_answered ho (answerReadRack_some hr _),
    fun hr => serve_answered ho (answerReadRack_none hr _)⟩, fun ho => ⟨fun h =>
      serve_answered ho (answerReadCells_refused h clear _), fun r hr hf hl hfl => ?_⟩⟩
  refine serve_answered ho ?_
  rw [answerReadCells_range hr hf hl hfl]
  rfl

/-! ### TRACE_SET (R45) -/

theorem answerTraceSet_refused {node channel : Nat} (h : node < 1 ∨ 56 < node ∨ 19 < channel)
    (count : Nat) (s : State) :
    answerTraceSet node channel count s = ⟨s, .badIndex, .nothing⟩ := by
  have : (node < 1 || 56 < node || 19 < channel) = true := by simpa [or_assoc] using h
  simp only [answerTraceSet, this, if_true]

theorem answerTraceSet_fits {node channel : Nat} (h1 : 1 ≤ node) (h2 : node ≤ 56)
    (h3 : channel ≤ 19) (count : Nat) (s : State) :
    answerTraceSet node channel count s = match s.traceAt node channel with
      | none => ⟨setTrace (traceIndex node channel) (some ⟨node, channel, count⟩) s, .ok, .nothing⟩
      | some e =>
        if e.node = node && e.channel = channel then
          ⟨setTrace (traceIndex node channel) (some ⟨node, channel, count⟩) s, .ok, .nothing⟩
        else ⟨s, .traceConflict, .traceHolder e.node e.channel⟩ := by
  have : (node < 1 || 56 < node || 19 < channel) = false := by
    simp only [Bool.or_eq_false_iff, decide_eq_false_iff_not]
    omega
  unfold answerTraceSet
  rw [this]
  rfl

/-- Settles O30. -/
theorem traceSetWritesItsEntry : Obligations.TraceSetWritesItsEntry := by
  unfold Obligations.TraceSetWritesItsEntry
  intro tag node channel count rest s x index written ho
  have hat : ∀ e, s.samples.trace[index]? = some e → (s.taking rest).traceAt node channel = e :=
    fun e he => by
      have : (s.taking rest).traceAt node channel = (s.samples.trace[index]?).join := rfl
      rw [this, he]; rfl
  refine ⟨fun h => serve_answered ho (answerTraceSet_refused h _ _), fun h1 h2 h3 =>
    ⟨fun he => serve_answered ho ?_, fun e he => ⟨fun hn hc => serve_answered ho ?_,
      fun h => serve_answered ho ?_⟩⟩⟩ <;> rw [answerTraceSet_fits h1 h2 h3, hat _ he]
  · rfl
  · simp only [hn, hc, decide_true, Bool.and_self, if_true]; rfl
  · have : (decide (e.node = node) && decide (e.channel = channel)) = false := by
      simpa [← not_and_or] using h
    simp only [this]; rfl

end Sys2Proof.Machine

namespace Sys2Proof.Machine

variable {may : Liberty → Prop} {u s t : State}

/-! ## Times that have run -/

theorem reached_iff (now since : PartTime) (limit : Nat) :
    reached now since limit = true ↔ limit ≤ (now - since).toNat := by
  rw [reached, decide_eq_true_iff, elapsed]

/-! ## The limit messages and the breaker (R159, R160, R165) -/

theorem stopFlagNow_eq (s : State) : s.stopFlagNow =
    decide (s.limits.container.charge = 0 ∧ s.limits.container.discharge = 0 ∧
      (s.limits.zeros.fire = true ∨ s.containerLatched = true ∨
        ∃ r ∈ Rack.all, s.rackLatched r = true)) := by
  rw [Bool.eq_iff_iff, decide_eq_true_iff]
  simp [State.stopFlagNow, and_assoc, or_assoc]

/-- Settles O54. -/
theorem limitMessagesAreSent : Obligations.LimitMessagesAreSent := by
  unfold Obligations.LimitMessagesAreSent
  intro s connected hold stop message composed
  have hcomposed : composeMessage s = composed := by
    unfold composeMessage limitMessageOf
    rw [stopFlagNow_eq]
    rfl
  refine ⟨fun hdue => ?_, fun hs => ?_⟩
  · have hexec : exec .limitPeriodExpiry s = .next (arbitrate (messageDue s)) :=
      actWhen_of ((reached_iff _ _ _).2 hdue)
    refine ⟨fun hs => ?_, fun hs => ?_⟩ <;> rw [hexec, messageDue, hs]
    · rw [← hcomposed]; rfl
    · rfl
  · have hexec : exec .limitMessageSent s = .next (arbitrate (messageSent s)) := actWhen_of hs
    refine ⟨fun hw => ?_, fun hw => ?_⟩ <;> rw [hexec, messageSent, hw]
    · rw [← hcomposed]; rfl
    · rfl

theorem tripOutput_iff (c : Converter) : c.tripOutput = true ↔ c.pulse = .pulsing := by
  unfold Converter.tripOutput
  cases c.pulse <;> simp

theorem endPulse_eq (s : State) : endPulse s =
    if s.converter.breakerClosed = true then
      s.withConverter { s.converter with
        pulse := .proving, proofSince := s.now, proofLimit := s.breakerProof }
    else s.withConverter { s.converter with pulse := .idle } := rfl

/-- Settles O56. -/
theorem breakerPulsesAreProved : Obligations.BreakerPulsesAreProved := by
  unfold Obligations.BreakerPulsesAreProved
  intro s
  refine ⟨?_, fun hp hdue => ?_, fun hp hc hdue => ?_, ?_, ?_⟩
  · exact tripOutput_iff _
  · have hexec : exec .breakerPulseEnd s = .next (arbitrate (endPulse s)) :=
      actWhen_of (by simp [State.pulseIsDue, hp, (reached_iff _ _ _).2 hdue])
    refine ⟨fun hb => ?_, fun hb => ?_⟩ <;> rw [hexec, endPulse_eq]
    · rw [if_neg (by simp [hb])]; rfl
    · rw [if_pos hb]; rfl
  · have hexec : exec .breakerProofExpiry s = .next (arbitrate (expireBreakerProof s)) :=
      actWhen_of (by simp [State.breakerProofIsDue, hp, hc, (reached_iff _ _ _).2 hdue])
    refine ⟨fun hn => ?_, fun hn => ?_⟩ <;> rw [hexec, expireBreakerProof]
    · rw [if_pos hn]; rfl
    · rw [if_neg (by omega)]; rfl
  · rfl
  · have hpulse : (match s.converter.pulse with
        | .proving => PulseState.idle
        | .failed => .idle
        | .idle => .idle
        | .pulsing => .pulsing) = if s.converter.pulse = .pulsing then .pulsing else .idle := by
      cases s.converter.pulse <;> rfl
    rw [← hpulse]
    rfl

end Sys2Proof.Machine

namespace Sys2Proof.Machine

variable {may : Liberty → Prop} {u s t : State}

/-! ## What the arbiter leaves alone -/

@[simp] theorem arbitrate_now (s : State) : (arbitrate s).now = s.now :=
  sameBut_now (arbitrate_sameBut s) (by simp)

@[simp] theorem arbitrate_ring (s : State) : (arbitrate s).ring = s.ring :=
  sameBut_ring (arbitrate_sameBut s) (by simp)

@[simp] theorem arbitrate_samples (s : State) : (arbitrate s).samples = s.samples :=
  sameBut_samples (arbitrate_sameBut s) (by simp)

@[simp] theorem arbitrate_limits (s : State) : (arbitrate s).limits = s.limits :=
  sameBut_limits (arbitrate_sameBut s) (by simp)

@[simp] theorem arbitrate_balance (s : State) : (arbitrate s).balance = s.balance :=
  sameBut_balance (arbitrate_sameBut s) (by simp)

@[simp] theorem arbitrate_cooling (s : State) : (arbitrate s).cooling = s.cooling :=
  sameBut_cooling (arbitrate_sameBut s) (by simp)

@[simp] theorem arbitrate_fire (s : State) : (arbitrate s).fire = s.fire :=
  sameBut_fire (arbitrate_sameBut s) (by simp)

@[simp] theorem arbitrate_sequencer (s : State) : (arbitrate s).sequencer = s.sequencer :=
  sameBut_sequencer (arbitrate_sameBut s) (by simp)

@[simp] theorem arbitrate_trips (s : State) : (arbitrate s).trips = s.trips :=
  sameBut_trips (arbitrate_sameBut s) (by simp)

@[simp] theorem arbitrate_converter (s : State) : (arbitrate s).converter = s.converter :=
  sameBut_converter (arbitrate_sameBut s) (by simp)

@[simp] theorem arbitrate_tables (s : State) : (arbitrate s).tables = s.tables :=
  sameBut_tables (arbitrate_sameBut s) (by simp)

@[simp] theorem arbitrate_choices (s : State) : (arbitrate s).choices = s.choices :=
  sameBut_choices (arbitrate_sameBut s) (by simp)

@[simp] theorem arbitrate_pending (s : State) : (arbitrate s).pending = s.pending :=
  sameBut_pending (arbitrate_sameBut s) (by simp)

@[simp] theorem arbitrate_postCounter (s : State) :
    (arbitrate s).site.postCounter = s.site.postCounter := by
  obtain ⟨-, -, -, -, -, -, h⟩ := arbitrate_keeps s
  exact h

@[simp] theorem arbitrate_mode (s : State) : (arbitrate s).site.mode = s.site.mode := by
  obtain ⟨-, -, h, -⟩ := arbitrate_keeps s
  exact h

/-! ## Bleed masks (R77) -/

/-- A balancing record without its commanded bit, which follows the masks (R77). -/
def BalanceRecord.unmasked (b : BalanceRecord) : BalanceRecord := { b with commanded := false }

theorem map_eq_map_ite {α β : Type} (f : α → β) (g : α → α) (p : α → Bool) (xs : List α)
    (h : ∀ a ∈ xs, f (g a) = f a) :
    (xs.map fun a => if p a then g a else a).map f = xs.map f := by
  rw [List.map_map]
  refine List.map_congr_left fun a ha => ?_
  cases hp : p a <;> simp [hp, h a ha]

theorem handMask_unmasked (node : Nat) (s : State) :
    (handMask node s).balance.records.map BalanceRecord.unmasked =
      s.balance.records.map BalanceRecord.unmasked := by
  have : (handMask node s).balance.records = s.balance.records.map fun b =>
      if decide (b.node = node) then { b with commanded := decide (b.state = .active) } else b := by
    simp only [decide_eq_true_eq]; rfl
  rw [this]
  exact map_eq_map_ite _ _ _ _ fun _ _ => rfl

/-- Masks handed change the balancing records' commanded bits, and nothing else of balancing. -/
theorem handMasks_unmasked (nodes : List Nat) (s : State) :
    (handMasks nodes s).balance.records.map BalanceRecord.unmasked =
      s.balance.records.map BalanceRecord.unmasked := by
  induction nodes generalizing s with
  | nil => rfl
  | cons n nodes ih => exact (ih (handMask n s)).trans (handMask_unmasked n s)

theorem handMasks_balance (nodes : List Nat) (s : State) :
    (handMasks nodes s).balance =
      { s.balance with records := (handMasks nodes s).balance.records } := by
  induction nodes generalizing s with
  | nil => rfl
  | cons n nodes ih =>
    have := ih (handMask n s)
    rw [show handMasks (n :: nodes) s = handMasks nodes (handMask n s) from rfl, this]
    rfl

/-! ## Moved records -/

theorem moveRecords_unmasked (f : BalanceRecord → BalanceRecord) (s : State) :
    (moveRecords f s).balance.records.map BalanceRecord.unmasked =
      s.balance.records.map fun b => (f b).unmasked := by
  unfold moveRecords
  rw [handMasks_unmasked]
  exact List.map_map

theorem moveRecords_balance (f : BalanceRecord → BalanceRecord) (s : State) :
    (moveRecords f s).balance = { s.balance with records := (moveRecords f s).balance.records } := by
  unfold moveRecords
  rw [handMasks_balance]
  rfl

/-- The record at a place after the records moved, but for its commanded bit. -/
theorem moveRecords_record {f : BalanceRecord → BalanceRecord} {s : State} {i : Nat}
    {b : BalanceRecord} (h : s.balance.records[i]? = some b) :
    ∃ b', (moveRecords f s).balance.records[i]? = some b' ∧ b'.unmasked = (f b).unmasked := by
  have hmap := congrArg (fun xs => xs[i]?) (moveRecords_unmasked f s)
  simp only [List.getElem?_map, h, Option.map_some] at hmap
  obtain ⟨b', hb, hf⟩ := Option.map_eq_some_iff.1 hmap
  exact ⟨b', hb, hf⟩

theorem unmasked_eq_iff (a b : BalanceRecord) : a.unmasked = b.unmasked ↔
    a.rack = b.rack ∧ a.node = b.node ∧ a.channel = b.channel ∧ a.state = b.state ∧
      a.remaining = b.remaining ∧ a.echoed = b.echoed ∧ a.counted = b.counted := by
  cases a; cases b
  simp [BalanceRecord.unmasked]

end Sys2Proof.Machine

namespace Sys2Proof.Machine

variable {may : Liberty → Prop} {u s t : State}

/-! ## Balancing commands (chapter 4) -/

theorem postAll_balance (es : List Event) (s : State) : (postAll es s).balance = s.balance :=
  sameBut_balance (A := [.site]) (by simp [sameBut_refl]) (by simp)

theorem mem_moveRecords {f : BalanceRecord → BalanceRecord} {s : State} {b : BalanceRecord}
    (hb : b ∈ (moveRecords f s).balance.records) :
    ∃ c ∈ s.balance.records, b.unmasked = (f c).unmasked := by
  have hmem : b.unmasked ∈ (moveRecords f s).balance.records.map BalanceRecord.unmasked :=
    List.mem_map_of_mem hb
  rw [moveRecords_unmasked] at hmem
  obtain ⟨c, hc, he⟩ := List.mem_map.1 hmem
  exact ⟨c, hc, he.symm⟩

/-- A move that leaves every record as it is. -/
theorem moveRecords_self {f : BalanceRecord → BalanceRecord} {s : State}
    (h : ∀ b ∈ s.balance.records, f b = b) : moveRecords f s = s := by
  have hmap : mapRecords f s = s := by
    unfold mapRecords
    rw [List.map_congr_left h, List.map_id']
    rfl
  have hnone : changedNodes s s.balance.records = [] := by
    simp [changedNodes]
  unfold moveRecords
  simp only [hmap, hnone]
  rfl

/-! ### The second boundary (R73) -/

theorem chargeSecond_eq (b : BalanceRecord) : chargeSecond b =
    if b.state = .active then
      if b.counted then
        if b.remaining ≤ 1 then { b with state := .budgetSpent, remaining := 0, counted := false }
        else { b with remaining := b.remaining - 1 }
      else { b with counted := true }
    else { b with counted := false } := by
  obtain ⟨rack, node, channel, state, remaining, commanded, echoed, counted⟩ := b
  unfold chargeSecond
  cases counted
  · rfl
  · have : remaining - 1 = 0 ↔ remaining ≤ 1 := by omega
    simp [this, BalanceRecord.move]

/-- The records that a second boundary spends. -/
theorem chargeSecond_spends (b : BalanceRecord) :
    (decide (b.state = .active) && decide ((chargeSecond b).state = .budgetSpent)) =
      decide (b.state = .active ∧ b.counted = true ∧ b.remaining ≤ 1) := by
  rw [chargeSecond_eq, Bool.eq_iff_iff]
  by_cases ha : b.state = .active
  · cases hc : b.counted
    · simp [ha]
    · by_cases hr : b.remaining ≤ 1 <;> simp [ha, hr]
  · simp [ha]

theorem moveRecords_site (f : BalanceRecord → BalanceRecord) (s : State) :
    (moveRecords f s).site = s.site :=
  sameBut_site (A := [.ring, .balance]) (by simp [sameBut_refl]) (by simp)

theorem secondBoundary_balance (s : State) :
    (secondBoundary s).balance = (moveRecords chargeSecond s).balance := postAll_balance _ _

theorem secondBoundary_postCounter (s : State) :
    (secondBoundary s).site.postCounter = s.site.postCounter + BitVec.ofNat 16
      (s.balance.records.filter fun b =>
        decide (b.state = .active ∧ b.counted = true ∧ b.remaining ≤ 1)).length := by
  have hspent : s.balance.records.filter (fun b =>
      decide (b.state = .active) && decide ((chargeSecond b).state = .budgetSpent)) =
      s.balance.records.filter fun b =>
        decide (b.state = .active ∧ b.counted = true ∧ b.remaining ≤ 1) :=
    List.filter_congr fun b _ => chargeSecond_spends b
  rw [secondBoundary, postAll_postCounter, moveRecords_site, List.length_map, hspent]

/-- The second timer runs on from the boundary. -/
def State.nextSecond (s : State) : State :=
  s.withBalance { s.balance with secondSince := s.balance.secondSince + 1000 }

theorem exec_second {s : State} (h : reached s.now s.balance.secondSince 1000 = true) :
    exec .oneSecondTimerExpiry s = .next (arbitrate (secondBoundary s.nextSecond)) := by
  rw [exec_oneSecondTimerExpiry, actWhen_of h]
  rfl

/-- Settles O36. -/
theorem secondBoundaryChargesRecords : Obligations.SecondBoundaryChargesRecords := by
  unfold Obligations.SecondBoundaryChargesRecords
  intro s hdue charged spent unmasked
  have hrecords : s.nextSecond.balance.records = s.balance.records := by
    rw [State.nextSecond, State.withBalance_balance]
  have hcounter : s.nextSecond.site = s.site := by rw [State.nextSecond, State.withBalance_site]
  refine ⟨_, exec_second ((reached_iff _ _ _).2 hdue), ?_, ?_, ?_, ?_⟩
  · rw [arbitrate_balance, secondBoundary_balance]
    refine (moveRecords_unmasked chargeSecond _).trans ?_
    rw [hrecords]
    refine List.map_congr_left fun b _ => ?_
    rw [chargeSecond_eq]
    rfl
  · rw [arbitrate_balance, secondBoundary_balance, moveRecords_balance, State.nextSecond,
      State.withBalance_balance]
  · rw [arbitrate_postCounter, secondBoundary_postCounter, hrecords, hcounter]
  · simp [sameBut_refl, State.nextSecond]

/-! ### Reloads (R72) -/

theorem isActive_congr (h : t.tables = s.tables) (n : TableName) : t.isActive n = s.isActive n := by
  simp only [State.isActive, State.table, h]

theorem rackEntry_congr (h : t.tables = s.tables) (r : Rack) : t.rackEntry r = s.rackEntry r := by
  simp only [State.rackEntry, State.table, h]

/-- What a reload makes of a record. -/
def State.reloadStep (s : State) (named : Rack → Bool) (b : BalanceRecord) : BalanceRecord :=
  if named b.rack then
    match s.reloadBudget b.rack with
    | some n => reloadRecord s b n
    | none => b
  else b

theorem reload_balance (named : Rack → Bool) (s : State) :
    (reload named s).balance = (moveRecords (s.reloadStep named) s).balance :=
  postAll_balance _ _

theorem reloadRecord_remaining (s : State) (b : BalanceRecord) (n : Nat) :
    (reloadRecord s b n).remaining = n := by
  unfold reloadRecord
  cases b.state <;> by_cases hn : n = 0 <;> simp [hn, BalanceRecord.move]

theorem reloadRecord_sameCell (s : State) (b : BalanceRecord) (n : Nat) :
    (reloadRecord s b n).sameCell b = true := by
  unfold reloadRecord
  cases b.state <;> by_cases hn : n = 0 <;> simp [hn, BalanceRecord.move, BalanceRecord.sameCell]

theorem reloadRecord_state (s : State) (b : BalanceRecord) (n : Nat) :
    (reloadRecord s b n).state =
      if b.state = .budgetSpent ∧ n ≠ 0 then
        (if s.balanceSuspended b.node then .suspended else .idle)
      else if (b.state = .idle ∨ b.state = .active) ∧ n = 0 then .budgetSpent
      else b.state := by
  unfold reloadRecord
  cases hb : b.state <;> by_cases hn : n = 0 <;> simp [hn, BalanceRecord.move]

/-- The fields of a record that a reload sets, read past its commanded bit. -/
theorem sameCell_of_unmasked {a b c : BalanceRecord} (h : a.unmasked = b.unmasked) :
    a.sameCell c = b.sameCell c := by
  obtain ⟨hr, hn, hc, -⟩ := (unmasked_eq_iff a b).1 h
  simp [BalanceRecord.sameCell, hr, hn, hc]

/-- A record of a named rack with an entry takes the entry's budget. -/
theorem reload_record {named : Rack → Bool} {s : State} {i : Nat} {b : BalanceRecord}
    {e : RackEntry} (hb : s.balance.records[i]? = some b) (hn : named b.rack = true)
    (he : s.rackEntry b.rack = some e) :
    ∃ b', (reload named s).balance.records[i]? = some b' ∧
      b'.remaining = e.dailyBudget ∧ b'.sameCell b = true ∧
      b'.state = (if b.state = .budgetSpent ∧ e.dailyBudget ≠ 0 then
          (if s.balanceSuspended b.node then .suspended else .idle)
        else if (b.state = .idle ∨ b.state = .active) ∧ e.dailyBudget = 0 then .budgetSpent
        else b.state) := by
  obtain ⟨b', hb', hu⟩ := moveRecords_record (f := s.reloadStep named) hb
  have hstep : s.reloadStep named b = reloadRecord s b e.dailyBudget := by
    simp [State.reloadStep, hn, State.reloadBudget, he]
  rw [hstep] at hu
  obtain ⟨-, -, -, hstate, hremaining, -⟩ := (unmasked_eq_iff _ _).1 hu
  refine ⟨b', by rw [reload_balance]; exact hb', ?_, ?_, ?_⟩
  · rw [hremaining, reloadRecord_remaining]
  · rw [sameCell_of_unmasked hu, reloadRecord_sameCell]
  · rw [hstate, reloadRecord_state]

/-- A record of a rack that is not named stays. -/
theorem reload_unnamed {named : Rack → Bool} {s : State} {i : Nat} {b : BalanceRecord}
    (hb : s.balance.records[i]? = some b) (hn : named b.rack = false) :
    ∃ b', (reload named s).balance.records[i]? = some b' ∧ b'.unmasked = b.unmasked := by
  obtain ⟨b', hb', hu⟩ := moveRecords_record (f := s.reloadStep named) hb
  have hstep : s.reloadStep named b = b := by simp [State.reloadStep, hn]
  exact ⟨b', by rw [reload_balance]; exact hb', hstep ▸ hu⟩

theorem rackEntry_of_inactive {s : State} (h : s.isActive .rack = false) (r : Rack) :
    s.rackEntry r = none := by
  have : (s.table .rack).active = none := by simpa [State.isActive] using h
  simp [State.rackEntry, this]

/-- Without an active RACK table a reload changes no record. -/
theorem reload_inactive {named : Rack → Bool} {s : State} (h : s.isActive .rack = false) :
    (reload named s).balance = s.balance := by
  rw [reload_balance, moveRecords_self fun b _ => ?_]
  simp [State.reloadStep, State.reloadBudget, rackEntry_of_inactive h]

theorem reload_dailySince (named : Rack → Bool) (s : State) :
    (reload named s).balance.dailySince = s.balance.dailySince := by
  rw [reload_balance, moveRecords_balance]

/-! ### The mask of a balancing request (R72, R81) -/

theorem badBalanceMask_iff (s : State) (mask : RackMask) :
    s.badBalanceMask mask = true ↔ mask = 0#4 ∨ ∃ r ∈ racksOf mask, s.rackEnabled r = false := by
  simp [State.badBalanceMask]

theorem racksOf_ne_nil {mask : RackMask} (h : mask ≠ 0#4) : ∃ r, r ∈ racksOf mask := by
  have all : ∀ m : BitVec 4, m ≠ 0#4 → racksOf m ≠ [] := by decide
  exact List.exists_mem_of_ne_nil _ (all mask h)

theorem isActive_of_rackEnabled {s : State} {r : Rack} (h : s.rackEnabled r = true) :
    s.isActive .rack = true := by
  cases ha : s.isActive .rack with
  | true => rfl
  | false => simp [State.rackEnabled, State.rackConfig, rackEntry_of_inactive ha] at h

/-- A mask of enabled racks is served. -/
theorem mask_served {s : State} {mask : RackMask} (hm : mask ≠ 0#4)
    (h : ∀ r ∈ racksOf mask, s.rackEnabled r = true) :
    s.isActive .rack = true ∧ s.badBalanceMask mask = false := by
  obtain ⟨r, hr⟩ := racksOf_ne_nil hm
  refine ⟨isActive_of_rackEnabled (h r hr), ?_⟩
  rw [Bool.eq_false_iff, ne_eq, badBalanceMask_iff]
  rintro (h0 | ⟨k, hk, hf⟩)
  · exact hm h0
  · rw [h k hk] at hf; cases hf

/-- A rack whose configuration stands has that entry. -/
theorem rackEntry_of_config {s : State} {r : Rack} {e : RackEntry} (h : s.rackConfig r = some e) :
    s.rackEntry r = some e := (Option.filter_eq_some_iff.1 h).1

theorem exec_budgetReload (tag : Byte) (mask : RackMask) (s : State) :
    exec (.budgetReload tag mask) s =
      serve tag (.budgetReload mask) (answerBudgetReload mask) s := rfl

/-- The daily timer runs on from the boundary. -/
def State.nextDay (s : State) : State :=
  s.withBalance { s.balance with dailySince := s.balance.dailySince + 86400000 }

theorem exec_daily {s : State} (h : reached s.now s.balance.dailySince 86400000 = true) :
    exec .dailyReloadTimerExpiry s = .next (arbitrate (reload (fun _ => true) s.nextDay)) := by
  rw [exec_dailyReloadTimerExpiry, actWhen_of h]
  rfl

theorem answerBudgetReload_notConfigured {s : State} (h : s.isActive .rack = false)
    (mask : RackMask) : answerBudgetReload mask s = ⟨s, .notConfigured, .nothing⟩ := by
  simp [answerBudgetReload, h]

theorem answerBudgetReload_bad {s : State} {mask : RackMask} (h : s.isActive .rack = true)
    (hm : s.badBalanceMask mask = true) :
    answerBudgetReload mask s = ⟨s, .badRequest, .nothing⟩ := by
  simp [answerBudgetReload, h, hm]

theorem answerBudgetReload_served {s : State} {mask : RackMask} (h : s.isActive .rack = true)
    (hm : s.badBalanceMask mask = false) : answerBudgetReload mask s =
      ⟨reload (fun r => (racksOf mask).contains r) s, .ok, .nothing⟩ := by
  simp [answerBudgetReload, h, hm]

/-- A reload of named racks, record by record. -/
theorem reload_rackConfig {named : Rack → Bool} {s : State} {i : Nat} {b : BalanceRecord}
    (ha : s.isActive .rack = true) (hb : s.balance.records[i]? = some b)
    (hn : named b.rack = true) :
    ∃ b', (reload named s).balance.records[i]? = some b' ∧
      ∀ e, s.rackConfig b.rack = some e →
        b'.remaining = e.dailyBudget ∧ b'.sameCell b = true ∧
        b'.state = (if b.state = .budgetSpent ∧ e.dailyBudget ≠ 0 then
            (if s.balanceSuspended b.node then .suspended else .idle)
          else if (b.state = .idle ∨ b.state = .active) ∧ e.dailyBudget = 0 then .budgetSpent
          else b.state) := by
  obtain ⟨bank, hbank⟩ := Option.isSome_iff_exists.1 ha
  have hentry : s.rackEntry b.rack = some (rackEntryAt bank (b.rack.number - 1)) := by
    simp only [State.rackEntry, hbank, Option.map_some]
  obtain ⟨b', hb', hrest⟩ := reload_record hb hn hentry
  refine ⟨b', hb', fun e he => ?_⟩
  rw [rackEntry_of_config he] at hentry
  cases hentry
  exact hrest

/-- Settles O37. -/
theorem reloadsSetBudgets : Obligations.ReloadsSetBudgets := by
  unfold Obligations.ReloadsSetBudgets
  intro s reloaded
  refine ⟨fun hdue => ?daily, ?requests⟩
  case daily =>
    have hrecords : s.nextDay.balance.records = s.balance.records := by
      rw [State.nextDay, State.withBalance_balance]
    have hnodes : s.nextDay.balance.nodes = s.balance.nodes := by
      rw [State.nextDay, State.withBalance_balance]
    have htables : s.nextDay.tables = s.tables := by rw [State.nextDay, State.withBalance_tables]
    have hsuspended : s.nextDay.balanceSuspended = s.balanceSuspended := by
      funext node
      simp only [State.balanceSuspended, State.balanceNode, hnodes]
    refine ⟨_, exec_daily ((reached_iff _ _ _).2 hdue), ?_, fun i b e hb he => ?_,
      fun hi => ?_, ?_⟩
    · rw [arbitrate_balance, reload_dailySince, State.nextDay, State.withBalance_balance]
    · rw [arbitrate_balance]
      have hentry : s.nextDay.rackEntry b.rack = some e := by rw [rackEntry_congr htables, he]
      have hat : s.nextDay.balance.records[i]? = some b := by rw [hrecords, hb]
      obtain ⟨b', hb', hrest⟩ := reload_record (named := fun _ => true) hat rfl hentry
      rw [hsuspended] at hrest
      exact ⟨b', hb', hrest⟩
    · have hinactive : s.nextDay.isActive .rack = false := by rw [isActive_congr htables, hi]
      rw [arbitrate_balance, reload_inactive hinactive, hrecords]
    · simp [sameBut_refl, State.nextDay]
  case requests =>
    intro tag mask rest x ho
    refine ⟨fun hi => serve_answered ho (answerBudgetReload_notConfigured (s := s.taking rest) hi _),
      fun ha hbad => serve_answered ho
        (answerBudgetReload_bad (s := s.taking rest) ha ((badBalanceMask_iff s mask).2 hbad)),
      fun hm hen => ?_⟩
    obtain ⟨h1, h2⟩ := mask_served (s := s.taking rest) hm hen
    have hexec : exec (.budgetReload tag mask) s = .next (arbitrate (reply tag (.budgetReload mask)
        .ok .nothing (reload (fun r => (racksOf mask).contains r) (s.taking rest)))) := by
      rw [exec_budgetReload, serve_offered ho, takeRequest_offered ho,
        answerBudgetReload_served h1 h2]
    have hbalance : (arbitrate (reply tag (.budgetReload mask) .ok .nothing
        (reload (fun r => (racksOf mask).contains r) (s.taking rest)))).balance =
        (reload (fun r => (racksOf mask).contains r) (s.taking rest)).balance :=
      arbitrate_balance _
    refine ⟨_, hexec, ?_, fun i b hb => ?_, ?_⟩
    · rw [hbalance, reload_dailySince]; rfl
    · rw [hbalance]
      by_cases hr : b.rack ∈ racksOf mask
      · obtain ⟨b', hb', hrest⟩ := reload_rackConfig (s := s.taking rest)
          (named := fun r => (racksOf mask).contains r) h1 hb (by simpa using hr)
        exact ⟨b', hb', fun e _ he => hrest e he, fun hn => absurd hr hn⟩
      · obtain ⟨b', hb', hu⟩ := reload_unnamed (s := s.taking rest)
          (named := fun r => (racksOf mask).contains r) hb (by simpa using hr)
        obtain ⟨-, -, -, hs, hrem, -⟩ := (unmasked_eq_iff _ _).1 hu
        refine ⟨b', hb', fun _ h => absurd h hr, fun _ => ⟨hs, hrem, ?_⟩⟩
        rw [sameCell_of_unmasked hu]
        simp [BalanceRecord.sameCell]
    · simp [sameBut_refl, State.taking]

end Sys2Proof.Machine

namespace Sys2Proof.Machine

variable {may : Liberty → Prop} {u s t : State}

/-! ## Sorting and choosing (R75, R76) -/

theorem insertBy_perm {α : Type} (before : α → α → Bool) (x : α) (xs : List α) :
    (insertBy before x xs).Perm (x :: xs) := by
  induction xs with
  | nil => exact .refl _
  | cons y ys ih =>
    unfold insertBy
    split
    · exact (ih.cons y).trans (.swap x y ys)
    · exact .refl _

theorem sortBy_perm {α : Type} (before : α → α → Bool) (xs : List α) :
    (sortBy before xs).Perm xs := by
  induction xs with
  | nil => exact .refl _
  | cons x xs ih => exact (insertBy_perm before x (sortBy before xs)).trans (ih.cons x)

/-- The walk adds a part of its candidates, in their order, to those chosen. -/
theorem walkCandidates_adds (limit : Nat) (cs chosen : List BalanceRecord) :
    ∃ more, walkCandidates limit cs chosen = chosen ++ more ∧ more.Sublist cs := by
  induction cs generalizing chosen with
  | nil => exact ⟨[], by simp [walkCandidates], .refl _⟩
  | cons c cs ih =>
    unfold walkCandidates
    split
    · exact ⟨[], by simp, List.nil_sublist _⟩
    · split
      · obtain ⟨more, he, hs⟩ := ih (chosen ++ [c])
        exact ⟨c :: more, by simp [he], hs.cons_cons c⟩
      · obtain ⟨more, he, hs⟩ := ih chosen
        exact ⟨more, he, hs.cons c⟩

theorem walkCandidates_length {limit : Nat} {cs chosen : List BalanceRecord}
    (h : chosen.length ≤ limit) : (walkCandidates limit cs chosen).length ≤ limit := by
  induction cs generalizing chosen with
  | nil => exact h
  | cons c cs ih =>
    unfold walkCandidates
    split
    · exact h
    · split
      · refine ih ?_
        rw [List.length_append, List.length_singleton]
        omega
      · exact ih h

/-- Eight records of one node at most are chosen (R75). -/
theorem walkCandidates_perNode {limit : Nat} {cs chosen : List BalanceRecord}
    (h : ∀ node, (chosen.filter fun b => b.node = node).length ≤ 8) (node : Nat) :
    ((walkCandidates limit cs chosen).filter fun b => b.node = node).length ≤ 8 := by
  induction cs generalizing chosen with
  | nil => exact h node
  | cons c cs ih =>
    unfold walkCandidates
    split
    · exact h node
    · split
      · next hroom =>
        refine ih fun k => ?_
        rw [List.filter_append, List.length_append]
        by_cases hk : c.node = k
        · subst hk
          simp
          omega
        · simpa [hk] using h k
      · exact ih h

/-- No more records stay ACTIVE than the allowance leaves once the first of the sorted list left. -/
theorem stay_length {leaves : BalanceRecord → BalanceRecord → Bool} (active : List BalanceRecord)
    (allowance : Nat) :
    (active.filter fun b => !((sortBy leaves active).take (active.length - allowance)).any
      b.sameCell).length ≤ allowance := by
  have hperm := sortBy_perm leaves active
  have hlen : (sortBy leaves active).length = active.length := hperm.length_eq
  have hself : ∀ b : BalanceRecord, b.sameCell b = true := fun b => by
    simp [BalanceRecord.sameCell]
  rw [← (hperm.filter _).length_eq]
  conv_lhs => rw [← List.take_append_drop (active.length - allowance) (sortBy leaves active)]
  rw [List.filter_append, List.length_append]
  have hnone : ((sortBy leaves active).take (active.length - allowance)).filter (fun b =>
      !((sortBy leaves active).take (active.length - allowance)).any b.sameCell) = [] := by
    rw [List.filter_eq_nil_iff]
    intro b hb
    simpa using ⟨b, hb, hself b⟩
  have hrest := List.length_filter_le (fun b : BalanceRecord =>
    !((sortBy leaves active).take (active.length - allowance)).any b.sameCell)
    ((sortBy leaves active).drop (active.length - allowance))
  rw [List.length_drop, hlen] at hrest
  rw [List.take_append_drop, hnone]
  simp only [List.length_nil, Nat.zero_add]
  omega

/-- The number of ACTIVE records does not depend on the commanded bits. -/
theorem activeRecords_length (s : State) :
    s.activeRecords.length =
      ((s.balance.records.map BalanceRecord.unmasked).filter fun b => b.state = .active).length := by
  rw [List.filter_map, List.length_map]
  rfl

theorem endActive_activeRecords (named : BalanceRecord → Bool) (s : State) :
    (endActive named s).activeRecords.length =
      (s.activeRecords.filter fun b => !named b).length := by
  rw [activeRecords_length, endActive, moveRecords_unmasked, List.filter_map, List.length_map,
    State.activeRecords, List.filter_filter]
  refine congrArg List.length (List.filter_congr fun b _ => ?_)
  by_cases ha : b.state = .active
  · cases hn : named b <;> simp [ha, hn, BalanceRecord.unmasked, BalanceRecord.move]
  · simp [ha, BalanceRecord.unmasked]

/-- A record that was not ACTIVE keeps its state when others end. -/
theorem endActive_record {named : BalanceRecord → Bool} {s : State} {i : Nat} {b : BalanceRecord}
    (h : s.balance.records[i]? = some b) (hb : b.state ≠ .active) :
    ∃ b', (endActive named s).balance.records[i]? = some b' ∧ b'.state = b.state := by
  obtain ⟨b', hb', hu⟩ := moveRecords_record
    (f := fun b => if b.state = .active && named b then b.move .idle else b) h
  obtain ⟨-, -, -, hs, -⟩ := (unmasked_eq_iff _ _).1 hu
  exact ⟨b', hb', by simpa [hb] using hs⟩

theorem boundActive_length (allowance : Nat) (s : State) :
    (boundActive allowance s).activeRecords.length ≤ allowance := by
  have hstay := stay_length (leaves := s.leavesBefore) s.activeRecords allowance
  unfold boundActive
  by_cases hnone : ((sortBy s.leavesBefore s.activeRecords).take
      (s.activeRecords.length - allowance)).isEmpty = true
  · rw [if_pos hnone]
    rw [List.isEmpty_iff] at hnone
    simpa [hnone] using hstay
  · rw [if_neg hnone, endActive_activeRecords]
    exact hstay

/-- Settles O40. -/
theorem bleedingIsBounded : Obligations.BleedingIsBounded := by
  unfold Obligations.BleedingIsBounded
  refine ⟨fun limit candidates => ⟨?_, walkCandidates_length (by simp), fun node =>
    walkCandidates_perNode (by simp) node⟩, fun allowance s => ⟨boundActive_length allowance s,
      fun i b h hb => ?_⟩⟩
  · obtain ⟨more, he, hs⟩ := walkCandidates_adds limit candidates []
    rw [he]
    exact hs
  · unfold boundActive
    dsimp only
    split
    · exact ⟨b, h, rfl⟩
    · exact endActive_record h hb

/-! ## The nodes of balancing (R71, R79) -/

theorem find?_map_at {α : Type} {key : α → Nat} {f : α → α} (hf : ∀ a, key (f a) = key a) (k : Nat)
    (xs : List α) :
    (xs.map fun a => if key a = k then f a else a).find? (fun a => key a = k) =
      (xs.find? fun a => key a = k).map f := by
  induction xs with
  | nil => rfl
  | cons a xs ih =>
    by_cases h : key a = k
    · simp [h, hf]
    · simpa [h] using ih

theorem find?_map_other {α : Type} {key : α → Nat} {f : α → α} (hf : ∀ a, key (f a) = key a)
    {k j : Nat} (hj : j ≠ k) (xs : List α) :
    (xs.map fun a => if key a = k then f a else a).find? (fun a => key a = j) =
      xs.find? fun a => key a = j := by
  induction xs with
  | nil => rfl
  | cons a xs ih =>
    by_cases h : key a = k
    · have : key a ≠ j := fun e => hj (e.symm.trans h)
      simpa [h, hf, this, hj.symm] using ih
    · by_cases h' : key a = j <;> simp [h, h', ih, hj]

theorem balanceNode_mapBalanceNode {f : BalanceNode → BalanceNode} (hf : ∀ n, (f n).node = n.node)
    (node : Nat) (s : State) :
    (mapBalanceNode node f s).balanceNode node = (s.balanceNode node).map f :=
  find?_map_at hf node s.balance.nodes

theorem resumeRecords_eq (node : Nat) (s : State) :
    resumeRecords node s = if s.balanceSuspended node = true then s
      else mapRecords (fun b => if b.node = node ∧ b.state = .suspended then
        { b with state := .idle, counted := false } else b) s := by
  simp [resumeRecords, BalanceRecord.move]

/-- Settles O38. -/
theorem coolDownEndsSuspension : Obligations.CoolDownEndsSuspension := by
  unfold Obligations.CoolDownEndsSuspension
  intro s node n c hn hc hdue
  have hexec : exec (.coolDownTimerExpiry node) s = .next (arbitrate (endCoolDown node s)) := by
    refine actWhen_of ?_
    simp only [State.coolDownIsDue, hn, Option.bind_some, hc]
    exact (reached_iff _ _ _).2 hdue
  have hsuspended : (mapBalanceNode node ({ · with coolDown := none }) s).balanceSuspended node =
      n.fault := by
    rw [State.balanceSuspended, balanceNode_mapBalanceNode (by intro _; rfl), hn]
    simp [BalanceNode.suspended]
  rw [hexec, endCoolDown, resumeRecords_eq, hsuspended]
  cases n.fault <;> rfl

/-! ## Balancing enable (R81) -/

theorem resumeRecords_racks (node : Nat) (s : State) :
    (resumeRecords node s).balance.racks = s.balance.racks := by
  unfold resumeRecords; split <;> rfl

theorem resumeRecords_nodes (node : Nat) (s : State) :
    (resumeRecords node s).balance.nodes = s.balance.nodes := by
  unfold resumeRecords; split <;> rfl

/-- The echo faults of one node are cleared. -/
def clearEcho (node : Nat) (s : State) : State :=
  resumeRecords node (mapBalanceNode node ({ · with fault := false, mismatches := 0 }) s)

theorem enableBalance_eq (r : Rack) (s : State) : enableBalance r s =
    (s.cellNodes r).foldl (fun acc node => clearEcho node acc)
      (s.setRackBalance r { s.balance.racks.get r with enabled := true }) := rfl

theorem clearEchoes_racks (nodes : List Nat) (s : State) :
    (nodes.foldl (fun acc node => clearEcho node acc) s).balance.racks = s.balance.racks := by
  induction nodes generalizing s with
  | nil => rfl
  | cons n nodes ih => exact (ih (clearEcho n s)).trans (resumeRecords_racks _ _)

/-- A node whose echo faults are clear, by its number. -/
def State.EchoClear (s : State) (node : Nat) : Prop :=
  ∀ n ∈ s.balance.nodes, n.node = node → n.fault = false ∧ n.mismatches = 0

theorem clearEcho_nodes (node : Nat) (s : State) : (clearEcho node s).balance.nodes =
    s.balance.nodes.map fun n =>
      if n.node = node then { n with fault := false, mismatches := 0 } else n :=
  resumeRecords_nodes _ _

theorem clearEcho_clears (node : Nat) (s : State) : (clearEcho node s).EchoClear node := by
  intro n hn hnode
  rw [clearEcho_nodes] at hn
  obtain ⟨m, -, rfl⟩ := List.mem_map.1 hn
  by_cases h : m.node = node
  · simp [h]
  · simp [h] at hnode

theorem clearEcho_keeps {node k : Nat} {s : State} (h : s.EchoClear k) :
    (clearEcho node s).EchoClear k := by
  intro n hn hk
  rw [clearEcho_nodes] at hn
  obtain ⟨m, hm, rfl⟩ := List.mem_map.1 hn
  by_cases hn : m.node = node
  · simp [hn]
  · rw [if_neg hn] at hk ⊢
    exact h m hm hk

theorem clearEchoes_keep {k : Nat} (nodes : List Nat) {s : State} (h : s.EchoClear k) :
    (nodes.foldl (fun acc node => clearEcho node acc) s).EchoClear k := by
  induction nodes generalizing s with
  | nil => exact h
  | cons n nodes ih => exact ih (clearEcho_keeps h)

theorem clearEchoes_clear {nodes : List Nat} {k : Nat} (hk : k ∈ nodes) (s : State) :
    (nodes.foldl (fun acc node => clearEcho node acc) s).EchoClear k := by
  induction nodes generalizing s with
  | nil => cases hk
  | cons n nodes ih =>
    rcases List.mem_cons.1 hk with rfl | hk
    · exact clearEchoes_keep nodes (clearEcho_clears k s)
    · exact ih hk _

theorem cellNodes_congr (h : t.tables = s.tables) (r : Rack) : t.cellNodes r = s.cellNodes r := by
  simp only [State.cellNodes, State.entriesOfKind, State.entries, State.table, h]

theorem enableBalance_tables (r : Rack) (s : State) : (enableBalance r s).tables = s.tables :=
  sameBut_tables (A := [.balance]) (by simp [sameBut_refl]) (by simp)

theorem enableBalance_enabled (r k : Rack) (s : State) :
    ((enableBalance r s).balance.racks.get k).enabled =
      if k = r then true else (s.balance.racks.get k).enabled := by
  rw [enableBalance_eq, clearEchoes_racks]
  by_cases h : k = r
  · subst h; simp [State.setRackBalance]
  · simp [State.setRackBalance, h]

theorem disableBalance_enabled (r k : Rack) (s : State) :
    ((disableBalance r s).balance.racks.get k).enabled =
      if k = r then false else (s.balance.racks.get k).enabled := by
  rw [disableBalance, endActive, moveRecords_balance]
  by_cases h : k = r
  · subst h; simp [State.setRackBalance]
  · simp [State.setRackBalance, h]

/-- Flags set or cleared rack by rack. -/
theorem forRacks_enabled {act : Rack → State → State} {on : Bool}
    (h : ∀ r k s, ((act r s).balance.racks.get k).enabled =
      if k = r then on else (s.balance.racks.get k).enabled) (racks : List Rack) (k : Rack)
    (s : State) : ((forRacks racks act s).balance.racks.get k).enabled =
      if k ∈ racks then on else (s.balance.racks.get k).enabled := by
  induction racks generalizing s with
  | nil => simp [forRacks]
  | cons r racks ih =>
    rw [show forRacks (r :: racks) act s = forRacks racks act (act r s) from rfl, ih, h]
    by_cases hk : k ∈ racks <;> by_cases hr : k = r <;> simp [hk, hr]

theorem enableBalance_keeps {k : Nat} {r : Rack} {s : State} (h : s.EchoClear k) :
    (enableBalance r s).EchoClear k := clearEchoes_keep _ h

theorem enableBalance_clears {k : Nat} {r : Rack} {s : State} (hk : k ∈ s.cellNodes r) :
    (enableBalance r s).EchoClear k := clearEchoes_clear hk _

/-- A condition that every act keeps, and the act of one rack brings. -/
theorem forRacks_reaches {P : State → Prop} {Q : State → Prop} {act : Rack → State → State}
    {r : Rack} (hkeep : ∀ k s, P s → P (act k s)) (hq : ∀ k s, Q s → Q (act k s))
    (hact : ∀ s, Q s → P (act r s)) {racks : List Rack} (hr : r ∈ racks) {s : State} (hs : Q s) :
    P (forRacks racks act s) := by
  have keeps : ∀ (racks : List Rack) (s : State), P s → P (forRacks racks act s) := by
    intro racks
    induction racks with
    | nil => exact fun s h => h
    | cons k racks ih => exact fun s h => ih _ (hkeep k s h)
  induction racks generalizing s with
  | nil => cases hr
  | cons k racks ih =>
    rcases List.mem_cons.1 hr with rfl | hr
    · exact keeps racks _ (hact s hs)
    · exact ih hr (hq k s hs)

/-- No balancing record of a rack is ACTIVE. -/
def State.NoneActive (s : State) (r : Rack) : Prop :=
  ∀ b ∈ s.balance.records, b.rack = r → b.state ≠ .active

theorem endActive_noneActive {named : BalanceRecord → Bool} {r : Rack} {s : State}
    (h : s.NoneActive r ∨ ∀ b, b.rack = r → named b = true) :
    (endActive named s).NoneActive r := by
  intro b hb hr
  obtain ⟨c, hc, hu⟩ := mem_moveRecords hb
  obtain ⟨hrack, -, -, hs, -⟩ := (unmasked_eq_iff _ _).1 hu
  rw [hs]
  by_cases hact : c.state = .active ∧ named c = true
  · simp [hact, BalanceRecord.move]
  · have hne : ¬ ((decide (c.state = .active) && named c) = true) := by simpa using hact
    rw [if_neg hne] at hrack ⊢
    rcases h with h | h
    · exact h c hc (hrack ▸ hr)
    · exact fun ha => hact ⟨ha, h c (hrack ▸ hr)⟩

theorem disableBalance_keeps {k r : Rack} {s : State} (h : s.NoneActive r) :
    (disableBalance k s).NoneActive r :=
  endActive_noneActive (s := s.setRackBalance k { s.balance.racks.get k with enabled := false })
    (.inl h)

theorem disableBalance_ends (r : Rack) (s : State) : (disableBalance r s).NoneActive r :=
  endActive_noneActive (.inr fun b hb => by simpa using hb)

theorem answerBalanceEnable_notConfigured {s : State} (h : s.isActive .rack = false)
    (mask : RackMask) (on : Bool) :
    answerBalanceEnable mask on s = ⟨s, .notConfigured, .nothing⟩ := by
  simp [answerBalanceEnable, h]

theorem answerBalanceEnable_bad {s : State} {mask : RackMask} (h : s.isActive .rack = true)
    (hm : s.badBalanceMask mask = true) (on : Bool) :
    answerBalanceEnable mask on s = ⟨s, .badRequest, .nothing⟩ := by
  simp [answerBalanceEnable, h, hm]

theorem answerBalanceEnable_served {s : State} {mask : RackMask} (h : s.isActive .rack = true)
    (hm : s.badBalanceMask mask = false) (on : Bool) : answerBalanceEnable mask on s =
      ⟨forRacks (racksOf mask) (if on then enableBalance else disableBalance) s, .ok, .nothing⟩ := by
  simp [answerBalanceEnable, h, hm]

theorem exec_balanceEnable (tag : Byte) (mask : RackMask) (on : Bool) (s : State) :
    exec (.balanceEnable tag mask on) s =
      serve tag (.balanceEnable mask on) (answerBalanceEnable mask on) s := rfl

/-- Settles O39. -/
theorem balanceEnableSetsFlags : Obligations.BalanceEnableSetsFlags := by
  unfold Obligations.BalanceEnableSetsFlags
  intro tag mask on rest s x ho
  refine ⟨fun hi => serve_answered ho
      (answerBalanceEnable_notConfigured (s := s.taking rest) hi _ _),
    fun ha hbad => serve_answered ho
      (answerBalanceEnable_bad (s := s.taking rest) ha ((badBalanceMask_iff s mask).2 hbad) _),
    fun hm hen => ?_⟩
  obtain ⟨h1, h2⟩ := mask_served (s := s.taking rest) hm hen
  have hexec : exec (.balanceEnable tag mask on) s = .next (arbitrate (reply tag
      (.balanceEnable mask on) .ok .nothing (forRacks (racksOf mask)
        (if on then enableBalance else disableBalance) (s.taking rest)))) := by
    rw [exec_balanceEnable, serve_offered ho, takeRequest_offered ho,
      answerBalanceEnable_served h1 h2]
  refine ⟨_, hexec, fun r => ?_, fun hon r hr => ?_, fun hoff b hb hr => ?_, ?_⟩
  · rw [arbitrate_balance]
    cases on
    · exact forRacks_enabled disableBalance_enabled (racksOf mask) r (s.taking rest)
    · exact forRacks_enabled enableBalance_enabled (racksOf mask) r (s.taking rest)
  · subst hon
    intro n hn hcell
    rw [arbitrate_balance] at hn
    have hclear : (forRacks (racksOf mask) enableBalance (s.taking rest)).EchoClear n.node :=
      forRacks_reaches (P := fun s => s.EchoClear n.node) (Q := fun x => x.tables = s.tables)
        (fun _ _ => enableBalance_keeps) (fun k y h => (enableBalance_tables k y).trans h)
        (fun y h => enableBalance_clears (by rwa [cellNodes_congr h])) hr rfl
    exact hclear n hn rfl
  · subst hoff
    rw [arbitrate_balance] at hb
    have hnone : (forRacks (racksOf mask) disableBalance (s.taking rest)).NoneActive b.rack :=
      forRacks_reaches (P := fun s => s.NoneActive b.rack) (Q := fun _ => True)
        (act := disableBalance) (fun _ _ => disableBalance_keeps) (fun _ _ h => h)
        (fun y _ => disableBalance_ends _ y) hr trivial
    exact hnone b hb rfl
  · cases on <;> simp [sameBut_refl, State.taking, forRacks_frame]

end Sys2Proof.Machine

namespace Sys2Proof.Machine

variable {may : Liberty → Prop} {u s t : State}

/-! ## Images (R170, R171) -/

theorem countInRange_iff (n : Nat) : countInRange n = true ↔ 1 ≤ n ∧ n ≤ 32 := by
  simp [countInRange, within]

theorem imagesOf_length (length n : Nat) (data : List Byte) :
    (imagesOf length n data).length = n := by
  induction n generalizing data with
  | zero => rfl
  | succ n ih => simp [imagesOf, ih]

theorem imagesOf_getElem? {length n i : Nat} (h : i < n) (data : List Byte) :
    (imagesOf length n data)[i]? = some ((data.drop (i * length)).take length) := by
  induction n generalizing data i with
  | zero => omega
  | succ n ih =>
    cases i with
    | zero => simp [imagesOf]
    | succ i =>
      have := ih (i := i) (by omega) (data.drop length)
      rw [List.drop_drop] at this
      rw [imagesOf, List.getElem?_cons_succ, this]
      congr 3
      ring

theorem writeImages_length (first : Nat) (images : List Image) (bank : Bank) :
    (writeImages first images bank).length = bank.length := by
  induction images generalizing first bank with
  | nil => rfl
  | cons im images ih => simp [writeImages, ih]

theorem writeImages_outside {first j : Nat} {images : List Image}
    (h : j < first ∨ first + images.length ≤ j) (bank : Bank) :
    (writeImages first images bank)[j]? = bank[j]? := by
  induction images generalizing first bank with
  | nil => rfl
  | cons im images ih =>
    rw [List.length_cons] at h
    rw [writeImages, ih (by omega), List.getElem?_set_ne (by omega)]

theorem writeImages_inside {first i : Nat} {images : List Image} {bank : Bank}
    (hi : i < images.length) (hb : first + images.length ≤ bank.length) :
    (writeImages first images bank)[first + i]? = images[i]? := by
  induction images generalizing first bank i with
  | nil => simp at hi
  | cons im images ih =>
    rw [List.length_cons] at hi hb
    cases i with
    | zero =>
      rw [writeImages, writeImages_outside (.inl (by omega)), Nat.add_zero,
        List.getElem?_set_self (by omega)]
      rfl
    | succ i =>
      rw [writeImages, show first + (i + 1) = first + 1 + i by omega,
        ih (by omega) (by rw [List.length_set]; omega)]
      rfl

/-! ## TABLE_WRITE and TABLE_READ -/

theorem answerWrite_none (first count : Nat) (data : List Byte) (s : State) :
    answerWrite none first count data s = ⟨s, .badRequest, .nothing⟩ := rfl

theorem answerWrite_some (n : TableName) (first count : Nat) (data : List Byte) (s : State) :
    answerWrite (some n) first count data s =
      if ¬ (1 ≤ count ∧ count ≤ 32) ∨ data.length ≠ count * n.imageLength then
        ⟨s, .badRequest, .nothing⟩
      else if n.positions < first + count then ⟨s, .badIndex, .positions n.positions⟩
      else if (s.table n).state = .committed then ⟨s, .commitPending, .nothing⟩
      else ⟨s.setTable n ((s.table n).write n first (imagesOf n.imageLength count data)),
        .ok, .nothing⟩ := by
  simp only [← countInRange_iff]
  simp [answerWrite]

theorem answerRead_none {n : Option TableName} {b : Option BankName} (h : n = none ∨ b = none)
    (first count : Nat) (s : State) : answerRead n b first count s = ⟨s, .badRequest, .nothing⟩ := by
  rcases h with rfl | rfl
  · rfl
  · cases n <;> rfl

theorem answerRead_some (n : TableName) (b : BankName) (first count : Nat) (s : State) :
    answerRead (some n) (some b) first count s =
      if ¬ (1 ≤ count ∧ count ≤ 32) then ⟨s, .badRequest, .nothing⟩
      else if n.positions < first + count then ⟨s, .badIndex, .nothing⟩
      else match (s.table n).bank b with
        | none => ⟨s, .notConfigured, .nothing⟩
        | some images => ⟨s, .ok,
          .images ((images.drop first).take count) (s.table n).state (s.table n).digest⟩ := by
  simp only [← countInRange_iff]
  simp [answerRead] <;> rfl

theorem bank_eq (x : TableState) (b : BankName) :
    x.bank b = if b = .active then x.active else x.pending := by
  cases b <;> rfl

/-- Settles O57. -/
theorem tablesAreWrittenAndRead : Obligations.TablesAreWrittenAndRead := by
  unfold Obligations.TablesAreWrittenAndRead
  refine ⟨?known, ?unknown⟩
  case unknown =>
    exact fun tag n b first count data rest s =>
      ⟨fun ho => serve_answered ho (answerWrite_none first count data _),
        fun ho h => serve_answered ho (answerRead_none h first count _)⟩
  case known =>
    intro tag n b first count data rest s w rd blank base
    refine ⟨fun ho => ⟨fun h => serve_answered ho ?_, fun h1 h2 hl => ⟨fun hp => serve_answered ho ?_,
      fun hp hc => serve_answered ho ?_, fun hp hc hb => ?_⟩⟩, fun ho => ⟨fun h =>
      serve_answered ho ?_, fun h1 h2 => ⟨fun hp => serve_answered ho ?_, fun hp => ?_⟩⟩⟩
    · rw [answerWrite_some, if_pos (by omega)]
    · rw [answerWrite_some, if_neg (by omega), if_pos hp]
    · rw [answerWrite_some, if_neg (by omega), if_neg (by omega)]
      exact if_pos hc
    · refine ⟨writeImages first (imagesOf n.imageLength count data) base, ?_, fun i hi => ?_,
        fun j hj => ?_, serve_answered ho ?_⟩
      · rw [writeImages_length, hb]
      · rw [writeImages_inside (by rwa [imagesOf_length]) (by rw [imagesOf_length]; omega),
          imagesOf_getElem? hi]
      · exact writeImages_outside (by rwa [imagesOf_length]) _
      · rw [answerWrite_some, if_neg (by omega), if_neg (by omega)]
        exact if_neg hc
    · rw [answerRead_some, if_pos (by omega)]
    · rw [answerRead_some, if_neg (by omega), if_pos hp]
    · have hanswer : answerRead (some n) (some b) first count (s.taking rest) =
          match (s.table n).bank b with
          | none => ⟨s.taking rest, .notConfigured, .nothing⟩
          | some images => ⟨s.taking rest, .ok,
            .images ((images.drop first).take count) (s.table n).state (s.table n).digest⟩ := by
        rw [answerRead_some, if_neg (by omega), if_neg (by omega)]; rfl
      rw [bank_eq] at hanswer
      refine ⟨fun hn => serve_answered ho ?_, fun images hi => serve_answered ho ?_⟩
      · rw [hanswer, hn]
      · rw [hanswer, hi]

end Sys2Proof.Machine

namespace Sys2Proof.Machine

variable {may : Liberty → Prop} {u s t : State}

/-! ## Actions done once each, in a free order -/

/-- One action of a free order brings `P` from `Q`; the others, before it, keep `Q`, and after it
keep `P`. -/
theorem inAnyOrder_once {P Q : State → Prop} (hcP : ∀ s n, P s → P (s.withChoices n))
    (hcQ : ∀ s n, Q s → Q (s.withChoices n)) {acts others : List (State → State)}
    {a : State → State} (hperm : acts.Perm (a :: others))
    (hQ : ∀ act ∈ others, ∀ s, Q s → Q (act s)) (hP : ∀ act ∈ others, ∀ s, P s → P (act s))
    (ha : ∀ s, Q s → P (a s)) {s : State} (hs : Q s) : P (inAnyOrder acts s) := by
  suffices run : ∀ (n : Nat) (acts others : List (State → State)) (s : State), acts.length = n →
      acts.Perm (a :: others) → (∀ act ∈ others, ∀ s, Q s → Q (act s)) →
      (∀ act ∈ others, ∀ s, P s → P (act s)) → Q s → P (runAnyOrder n acts s) from
    run _ acts others s rfl hperm hQ hP hs
  intro n
  induction n with
  | zero =>
    intro acts others s hlen hperm
    rw [List.length_eq_zero_iff.1 hlen] at hperm
    exact absurd hperm.symm (List.not_perm_cons_nil)
  | succ n ih =>
    intro acts others s hlen hperm hQ hP hs
    match acts, hlen with
    | [act], _ =>
      obtain ⟨rfl, -⟩ := by simpa using hperm
      exact ha s hs
    | x :: y :: rest, hlen =>
      have hk : (choose (x :: y :: rest).length s).1 < (x :: y :: rest).length :=
        (choose_spec _ s).2 (by simp)
      simp only [runAnyOrder]
      rw [List.getElem?_eq_getElem hk]
      generalize (choose (x :: y :: rest).length s).1 = k at hk ⊢
      have hlen' : ((x :: y :: rest).eraseIdx k).length = n := by
        rw [List.length_eraseIdx_of_lt hk, hlen]; rfl
      have hpick := (List.getElem_cons_eraseIdx_perm hk).trans hperm
      by_cases hact : (x :: y :: rest)[k] = a
      · rw [hact] at hpick ⊢
        have hrest := (List.perm_cons a).1 hpick
        subst hlen'
        exact inAnyOrder_keeps hcP (fun act hm => hP act (hrest.subset hm)) (ha _ (hcQ _ _ hs))
      · have hmem : (x :: y :: rest)[k] ∈ others := by
          have := hpick.subset (List.mem_cons_self ..)
          exact (List.mem_cons.1 this).resolve_left hact
        obtain ⟨before, after, rfl⟩ := List.append_of_mem hmem
        have hswap := hpick.trans ((List.perm_middle.cons a).trans (.swap ..))
        have hsub : ∀ act ∈ before ++ after, act ∈ before ++ (x :: y :: rest)[k] :: after :=
          fun act hm => by
            rcases List.mem_append.1 hm with h | h
            · exact List.mem_append_left _ h
            · exact List.mem_append_right _ (List.mem_cons_of_mem _ h)
        exact ih _ (before ++ after) _ hlen' ((List.perm_cons _).1 hswap)
          (fun act hm => hQ act (hsub act hm)) (fun act hm => hP act (hsub act hm))
          (hQ _ hmem _ (hcQ _ _ hs))

/-- One action of a free order brings `P` from `Q`, and every action keeps both. -/
theorem inAnyOrder_reaches {P Q : State → Prop} (hcP : ∀ s n, P s → P (s.withChoices n))
    (hcQ : ∀ s n, Q s → Q (s.withChoices n)) {acts : List (State → State)} {a : State → State}
    (hmem : a ∈ acts) (hQ : ∀ act ∈ acts, ∀ s, Q s → Q (act s))
    (hP : ∀ act ∈ acts, ∀ s, P s → P (act s)) (ha : ∀ s, Q s → P (a s)) {s : State} (hs : Q s) :
    P (inAnyOrder acts s) := by
  obtain ⟨before, after, rfl⟩ := List.append_of_mem hmem
  have hsub : ∀ act ∈ before ++ after, act ∈ before ++ a :: after := fun act hm => by
    rcases List.mem_append.1 hm with h | h
    · exact List.mem_append_left _ h
    · exact List.mem_append_right _ (List.mem_cons_of_mem _ h)
  exact inAnyOrder_once hcP hcQ List.perm_middle (fun act hm => hQ act (hsub act hm))
    (fun act hm => hP act (hsub act hm)) ha hs

/-! ## What settling leaves alone -/

/-- The ring but for the length of its cycle, the balancing scheduler and the cooling controller: what a
part that goes to RUN leaves as it is (R183). -/
def State.steady (s : State) : Ring × Balance × Cooling :=
  ({ s.ring with cycleLength := 0 }, s.balance, s.cooling)

theorem steady_sameBut {A : List Block} (h : s.sameBut t A) (hr : Block.ring ∉ A)
    (hb : Block.balance ∉ A) (hc : Block.cooling ∉ A) : t.steady = s.steady := by
  simp only [State.steady, sameBut_ring h hr, sameBut_balance h hb, sameBut_cooling h hc]

theorem ringModeChange_steady (before after : Mode) (s : State) :
    (ringModeChange before after s).steady = s.steady := by
  unfold ringModeChange
  split
  · split <;> rfl
  · rfl

/-- Going to RUN ends no bleeding and moves no level. -/
theorem changeMode_run_steady (cause : ModeCause) (s : State) :
    (changeMode .run cause s).steady = s.steady := by
  unfold changeMode
  dsimp only
  split
  · rfl
  · refine inAnyOrder_keeps (P := fun t => t.steady = s.steady) (fun _ _ h => h)
      (fun act ha x hx => ?_) rfl
    simp only [List.mem_cons, List.not_mem_nil, or_false] at ha
    rcases ha with rfl | rfl | rfl | rfl | rfl
    · exact (steady_sameBut (A := [.site]) (by simp [sameBut_refl]) (by simp) (by simp)
        (by simp)).trans hx
    · exact hx
    · exact (ringModeChange_steady _ _ _).trans hx
    · have hb : balanceModeChange s.site.mode .run x = x := by simp [balanceModeChange]
      rw [hb]
      exact hx
    · exact hx

theorem leaveStandby_steady (cause : ModeCause) (s : State) :
    (leaveStandby cause s).steady = s.steady := by
  unfold leaveStandby
  split
  · exact changeMode_run_steady cause s
  · rfl

theorem judgeRequiredSet_steady (s : State) : (judgeRequiredSet s).steady = s.steady := by
  unfold judgeRequiredSet
  split
  · exact changeMode_run_steady _ _
  · rfl

theorem swapGrid_steady (s : State) : (swapGrid s).steady = s.steady := by
  unfold swapGrid
  rw [judgeRequiredSet_steady]
  exact steady_sameBut (A := [.limits, .sequencer, .trips, .converter, .tables, .site, .choices])
    (by simp [sameBut_refl]) (by simp) (by simp) (by simp)

theorem endHold_steady (s : State) : (endHold s).steady = s.steady := by
  have hwork : (workOutContainer (s.withSequencer { s.sequencer with hold := false })).steady =
      s.steady :=
    steady_sameBut (A := [.sequencer, .limits, .converter]) (by simp [sameBut_refl]) (by simp)
      (by simp) (by simp)
  unfold endHold
  split
  · dsimp only
    split
    · rw [swapGrid_steady, hwork]
    · exact hwork
  · rfl

theorem settle_steady (s : State) : (settle s).steady = s.steady := by
  have hgrant : ∀ x : State,
      (grantDisconnects 4 (judgeContainerLatch .welded x)).steady = x.steady := fun x =>
    steady_sameBut (A := [.limits, .sequencer, .trips, .converter, .site, .choices])
      (by simp [sameBut_refl]) (by simp) (by simp) (by simp)
  rw [settle, endHold_steady, hgrant, endHold_steady, hgrant]

@[simp] theorem settle_balance (s : State) : (settle s).balance = s.balance :=
  congrArg (·.2.1) (settle_steady s)

@[simp] theorem settle_cooling (s : State) : (settle s).cooling = s.cooling :=
  congrArg (·.2.2) (settle_steady s)

@[simp] theorem settle_nodes (s : State) : (settle s).ring.nodes = s.ring.nodes :=
  congrArg (·.1.nodes) (settle_steady s)

@[simp] theorem settle_pollList (s : State) : (settle s).ring.pollList = s.ring.pollList :=
  congrArg (·.1.pollList) (settle_steady s)

@[simp] theorem settle_cycle (s : State) : (settle s).ring.cycle = s.ring.cycle :=
  congrArg (·.1.cycle) (settle_steady s)

@[simp] theorem settle_phase (s : State) : (settle s).ring.phase = s.ring.phase :=
  congrArg (·.1.phase) (settle_steady s)

@[simp] theorem settle_endOf (s : State) (d : RingEnd) :
    (settle s).ring.endOf d = s.ring.endOf d := by
  cases d
  · exact congrArg (·.1.endA) (settle_steady s)
  · exact congrArg (·.1.endB) (settle_steady s)

theorem settle_outside (s : State) : s.sameBut (settle s)
    [.ring, .limits, .balance, .cooling, .sequencer, .trips, .converter, .tables, .site, .choices] :=
  by simp [sameBut_refl]

@[simp] theorem settle_now (s : State) : (settle s).now = s.now :=
  sameBut_now (settle_outside s) (by simp)

@[simp] theorem settle_samples (s : State) : (settle s).samples = s.samples :=
  sameBut_samples (settle_outside s) (by simp)

@[simp] theorem settle_fire (s : State) : (settle s).fire = s.fire :=
  sameBut_fire (settle_outside s) (by simp)

/-! ### Settling without a waiting GRID table -/

theorem endHold_unswapped (h : (s.table .grid).state ≠ .committed) : endHold s =
    if s.sequencer.hold && !s.anySwitching then
      workOutContainer (s.withSequencer { s.sequencer with hold := false })
    else s := by
  have htable : ((workOutContainer (s.withSequencer { s.sequencer with hold := false })).table
      .grid).state ≠ .committed := by
    have : (workOutContainer (s.withSequencer { s.sequencer with hold := false })).tables =
        s.tables :=
      sameBut_tables (A := [.sequencer, .limits, .converter]) (by simp [sameBut_refl]) (by simp)
    simpa only [State.table, this] using h
  unfold endHold
  rw [if_neg htable]

end Sys2Proof.Machine

namespace Sys2Proof.Machine

variable {may : Liberty → Prop} {u s t : State}

/-! ## Latches that moves keep -/

theorem containerPut_latch_self {k : TripKind} (h : k.isContainer = true) (x : ContainerLatches)
    (l : Latch) : (x.put k l).latch k = l := by
  cases k <;> first | rfl | cases h

theorem containerPut_latch_ne (x : ContainerLatches) {k j : TripKind} (l : Latch) (h : j ≠ k) :
    (x.put k l).latch j = x.latch j := by
  cases k <;> cases j <;> first | rfl | exact absurd rfl h

theorem containerPut_latch_eq_or (x : ContainerLatches) (k j : TripKind) (l : Latch) :
    (x.put k l).latch j = l ∨ (x.put k l).latch j = x.latch j := by
  cases k <;> cases j <;> first | exact .inl rfl | exact .inr rfl

theorem rackPut_latch_self {k : TripKind} (h : k.isContainer = false) (x : RackLatches)
    (l : Latch) : (x.put k l).latch k = l := by
  cases k <;> first | rfl | cases h

theorem rackPut_latch_eq_or (x : RackLatches) (k j : TripKind) (l : Latch) :
    (x.put k l).latch j = l ∨ (x.put k l).latch j = x.latch j := by
  cases k <;> cases j <;> first | exact .inl rfl | exact .inr rfl

/-- A cause recorded sets its latch, and no other, to taken. -/
theorem recorded_container (kind : TripKind) (named : Option Rack) (data : CauseData) (rec : TripRecord)
    (s : State) (j : TripKind) :
    (writeRecord rec (setLatch kind named data s)).trips.container.latch j = .taken ∨
      (writeRecord rec (setLatch kind named data s)).trips.container.latch j =
        s.trips.container.latch j := by
  cases named with
  | none => exact containerPut_latch_eq_or _ _ _ _
  | some r => exact .inr rfl

theorem await_latch (x : RackLatches) (kind : TripKind) (data : CauseData) (j : TripKind) :
    (x.await kind data).latch j = x.latch j := by
  unfold RackLatches.await
  cases data <;> cases kind <;> cases j <;> rfl

theorem recorded_rack (kind : TripKind) (named : Option Rack) (data : CauseData) (rec : TripRecord)
    (s : State) (r : Rack) (j : TripKind) :
    ((writeRecord rec (setLatch kind named data s)).trips.racks.get r).latch j = .taken ∨
      ((writeRecord rec (setLatch kind named data s)).trips.racks.get r).latch j =
        (s.trips.racks.get r).latch j := by
  cases named with
  | none => exact .inr rfl
  | some x =>
    have hr : ((writeRecord rec (setLatch kind (some x) data s)).trips.racks.get r) =
        if r = x then ((s.trips.racks.get x).put kind .taken).await kind data
        else s.trips.racks.get r := PerRack.get_set _ _ _ _
    rw [hr]
    split
    next h => subst h; rw [await_latch]; exact rackPut_latch_eq_or _ _ _ _
    next => exact .inr rfl

/-- A property of latches that a cause brings, and that without the liberty to clear it stays. -/
theorem Moves.container_keeps {P : Latch → Prop} (h : Moves may s t) {k : TripKind}
    (htaken : P .taken) (hclear : may (.clear k) → P .clear) (hs : P (s.trips.container.latch k)) :
    P (t.trips.container.latch k) := by
  induction h with
  | trans _ _ ih ih' => exact ih' (ih hs)
  | compose s => rw [sameBut_trips (A := [.cooling]) (s := s) (by simp [sameBut_refl]) (by simp)]; exact hs
  | trips s x h => rw [State.withTrips_trips, h.container]; exact hs
  | clear s j hm =>
    rw [State.withTrips_trips]
    by_cases hj : k = j
    · subst hj
      rcases containerPut_latch_eq_or s.trips.container k k .clear with h | h <;> rw [h]
      · exact hclear hm
      · exact hs
    · rw [containerPut_latch_ne _ _ hj]; exact hs
  | @take kind named data s t _ ht ih =>
    refine ih ?_
    rcases recorded_container kind named data (recordOf kind named data s) s k with h | h <;> rw [h]
    · exact htaken
    · exact hs
  | leaves s r e x =>
    rw [State.setRackSwitch_trips, sameBut_trips (post_sameBut e _) (by simp)]
    exact hs
  | refl | ring | samples | limits | balance | cooling | fire | converter | tables | site | choices
  | clearRack | sequencer | rack | queues | starts => exact hs

/-- A container latch that stands unacknowledged stays so where nothing may clear it. -/
theorem Moves.container_taken (h : Moves may s t) {k : TripKind} (hm : ¬ may (.clear k))
    (hs : s.trips.container.latch k = ⟨true, false⟩) : t.trips.container.latch k = ⟨true, false⟩ :=
  h.container_keeps (P := fun l => l = ⟨true, false⟩) rfl (fun h => absurd h hm) hs

/-- No move acknowledges a container latch. -/
theorem Moves.container_unacknowledged (h : Moves may s t) {k : TripKind}
    (hs : (s.trips.container.latch k).acknowledged = false) :
    (t.trips.container.latch k).acknowledged = false :=
  h.container_keeps (P := fun l => l.acknowledged = false) rfl (fun _ => rfl) hs

theorem Moves.rack_keeps {P : Latch → Prop} (h : Moves may s t) {r : Rack} {k : TripKind}
    (htaken : P .taken) (hclear : may .clearRack → P .clear)
    (hs : P ((s.trips.racks.get r).latch k)) : P ((t.trips.racks.get r).latch k) := by
  induction h with
  | trans _ _ ih ih' => exact ih' (ih hs)
  | compose s => rw [sameBut_trips (A := [.cooling]) (s := s) (by simp [sameBut_refl]) (by simp)]; exact hs
  | trips s x h => rw [State.withTrips_trips, h.racks]; exact hs
  | clearRack s q x j hm hk hx =>
    rw [State.setRackLatches_trips]
    by_cases hq : r = q
    · subst hq
      rw [PerRack.get_set_self]
      by_cases hj : k = j
      · subst hj; rw [hk]; exact hclear hm
      · rw [hx k hj]; exact hs
    · rw [PerRack.get_set_ne _ _ hq]; exact hs
  | @take kind named data s t _ ht ih =>
    refine ih ?_
    rcases recorded_rack kind named data (recordOf kind named data s) s r k with h | h <;> rw [h]
    · exact htaken
    · exact hs
  | leaves s r e x =>
    rw [State.setRackSwitch_trips, sameBut_trips (post_sameBut e _) (by simp)]
    exact hs
  | refl | ring | samples | limits | balance | cooling | fire | converter | tables | site | choices
  | clear | sequencer | rack | queues | starts => exact hs

theorem Moves.rack_taken (h : Moves may s t) (hm : ¬ may .clearRack) {r : Rack} {k : TripKind}
    (hs : (s.trips.racks.get r).latch k = ⟨true, false⟩) :
    (t.trips.racks.get r).latch k = ⟨true, false⟩ :=
  h.rack_keeps (P := fun l => l = ⟨true, false⟩) rfl (fun h => absurd h hm) hs

/-! ## The breaker's pulse (R165) -/

/-- The pulse sequence moves only by a pulse asked for. -/
theorem Moves.pulse (h : Moves may s t) :
    t.converter.pulse = s.converter.pulse ∨
      (s.converter.pulse ≠ .failed ∧ t.converter.pulse = .pulsing) := by
  induction h with
  | trans _ _ ih ih' =>
    rcases ih' with h' | ⟨hne', h'⟩
    · rw [h']; exact ih
    · refine .inr ⟨?_, h'⟩
      rcases ih with h | ⟨hne, -⟩
      · rwa [← h]
      · exact hne
  | compose s =>
    exact .inl (congrArg _ (sameBut_converter (A := [.cooling]) (by simp [sameBut_refl]) (by simp)))
  | converter s x h => exact h
  | @take kind named data s t _ ht ih =>
    have : (writeRecord (recordOf kind named data s) (setLatch kind named data s)).converter =
        s.converter := by cases named <;> rfl
    rwa [this] at ih
  | leaves s r e x =>
    rw [State.setRackSwitch_converter, sameBut_converter (post_sameBut e _) (by simp)]
    exact .inl rfl
  | refl | ring | samples | limits | balance | cooling | fire | tables | site | choices | trips
  | clearRack | clear | sequencer | rack | queues | starts => exact .inl rfl

theorem Moves.pulse_failed (h : Moves may s t) (hs : s.converter.pulse = .failed) :
    t.converter.pulse = .failed := by
  rcases h.pulse with h | ⟨hne, -⟩
  · rw [h, hs]
  · exact absurd hs hne

theorem Moves.pulse_pulsing (h : Moves may s t) (hs : s.converter.pulse = .pulsing) :
    t.converter.pulse = .pulsing := by
  rcases h.pulse with h | ⟨-, h⟩
  · rw [h, hs]
  · exact h

/-! ## Settling with WELDED unacknowledged (R155) -/

/-- An unacknowledged WELDED latch is not judged away. -/
theorem judgeWelded_unacknowledged (h : s.trips.container.welded.acknowledged = false) :
    judgeContainerLatch .welded s = s := by
  have hgone : s.containerGone .welded = false := by
    simp [State.containerGone, ContainerLatches.latch, h]
  simp [judgeContainerLatch, hgone]

/-- While WELDED is unacknowledged settling clears no latch. -/
theorem settle_moves_unwelded (hw : s.trips.container.welded.acknowledged = false) :
    Moves nothing s (settle s) := by
  have h1 : Moves nothing s (endHold (grantDisconnects 4 s)) :=
    endHold_moves (grantDisconnects_moves (.refl s) 4)
  have hw1 := h1.container_unacknowledged (k := .welded) hw
  unfold settle
  rw [judgeWelded_unacknowledged hw, judgeWelded_unacknowledged hw1]
  exact endHold_moves (grantDisconnects_moves h1 4)

/-- A container latch taken in a step stands unacknowledged once the step has settled. -/
theorem settle_container_taken {k : TripKind}
    (h : s.trips.container.latch k = ⟨true, false⟩) :
    (settle s).trips.container.latch k = ⟨true, false⟩ := by
  by_cases hk : k = .welded
  · subst hk
    have hw : s.trips.container.welded.acknowledged = false :=
      congrArg Latch.acknowledged h
    exact (settle_moves_unwelded hw).container_taken id h
  · exact (settle_moves (may := fun l => l = .clear .welded) (.refl s) rfl).container_taken
      (fun h => hk (by cases h; rfl)) h

theorem settle_rack_taken {r : Rack} {k : TripKind}
    (h : (s.trips.racks.get r).latch k = ⟨true, false⟩) :
    ((settle s).trips.racks.get r).latch k = ⟨true, false⟩ :=
  (settle_moves (may := fun l => l = .clear .welded) (.refl s) rfl).rack_taken
    (fun h => by cases h) h

/-- Settling makes no rack live. -/
theorem settle_live {r : Rack} (h : (s.rackState r).live = false) :
    ((settle s).rackState r).live = false :=
  (settle_moves (may := fun l => l = .clear .welded) (.refl s) rfl).live_false
    (fun h => by cases h) (fun h => by cases h) h

theorem settle_conducts {r : Rack} (h : (s.rackState r).conducts = false) :
    ((settle s).rackState r).conducts = false :=
  (settle_moves (may := fun l => l = .clear .welded) (.refl s) rfl).conducts_false
    (fun h => by cases h) h

/-! ## What a cause brings (R148) -/

/-- The moves after the record of a cause. -/
theorem takeCause_recorded (kind : TripKind) (named : Option Rack) (data : CauseData) (s : State) :
    Moves nothing (writeRecord (recordOf kind named data s) (setLatch kind named data s))
      (takeCause kind named data s) :=
  (order_moves (.refl _) kind (namedRacks named)).trans (takeCause_after kind _ _ _)

theorem takeCause_container {kind : TripKind} (h : kind.isContainer = true) (data : CauseData)
    (s : State) : (takeCause kind none data s).trips.container.latch kind = ⟨true, false⟩ :=
  (takeCause_recorded kind none data s).container_taken id
    (containerPut_latch_self h s.trips.container .taken)

theorem takeCause_rack {kind : TripKind} (h : kind.isContainer = false) (r : Rack)
    (data : CauseData) (s : State) :
    ((takeCause kind (some r) data s).trips.racks.get r).latch kind = ⟨true, false⟩ := by
  refine (takeCause_recorded kind (some r) data s).rack_taken id ?_
  have hr : (writeRecord (recordOf kind (some r) data s) (setLatch kind (some r) data s)).trips.racks.get
      r = ((s.trips.racks.get r).put kind .taken).await kind data := PerRack.get_set_self _ _ _
  rw [hr, await_latch, rackPut_latch_self h]
  rfl

theorem enterOpening_conducts (r : Rack) (op : Operation) (cause : RackCause) (s : State) :
    ((enterOpening r op cause s).rackState r).conducts = false := by
  unfold enterOpening
  dsimp only
  split
  · refine (passOpenProof_moves (may := nothing) (.refl _) r cause ?_).conducts_false id ?_ <;>
      simp [changeRack_rackState, RackState.conducts]
  · simp [changeRack_rackState, RackState.conducts]

/-- An order of the immediate class commands the contactors open. -/
theorem immediateOrder_conducts (kind : TripKind) (r : Rack) (s : State) :
    ((immediateOrder kind r s).rackState r).conducts = false := by
  unfold immediateOrder
  split
  next => exact enterOpening_conducts _ _ _ _
  next => exact enterOpening_conducts _ _ _ _
  next => exact enterOpening_conducts _ _ _ _
  next => exact enterOpening_conducts _ _ _ _
  next hr =>
    exact (takeOverOpening_moves (may := nothing) (.refl s) r _ hr).conducts_false id
      (by rw [hr]; rfl)
  next => simp [lockQueued, changeRack_rackState, RackState.conducts]
  next => simp [lockOpen, changeRack_rackState, RackState.conducts]
  next hr => rw [hr]; rfl
  next hr => rw [hr]; rfl

theorem order_conducts {kind : TripKind} (hk : kind.tripClass = .immediate) {racks : List Rack}
    {r : Rack} (hr : r ∈ racks) (s : State) :
    ((order kind racks s).rackState r).conducts = false := by
  unfold order
  rw [hk]
  exact forRacks_reaches (P := fun s => (s.rackState r).conducts = false) (Q := fun _ => True)
    (fun k x h => (immediateOrder_moves (may := nothing) (.refl x) kind k).conducts_false id h)
    (fun _ _ h => h) (fun x _ => immediateOrder_conducts kind r x) hr trivial

/-- A cause of the immediate class leaves the racks it names with their contactors commanded open. -/
theorem takeCause_conducts {kind : TripKind} (hk : kind.tripClass = .immediate)
    {named : Option Rack} (data : CauseData) (s : State) {r : Rack} (hr : r ∈ namedRacks named) :
    ((takeCause kind named data s).rackState r).conducts = false :=
  (takeCause_after (may := nothing) kind _ _ _).conducts_false id (order_conducts hk hr _)

theorem requestPulse_pulse (s : State) : (requestPulse s).converter.pulse =
    if s.converter.pulse = .failed then .failed else .pulsing := by
  unfold requestPulse
  cases h : s.converter.pulse <;> simp [beginPulse, h]

/-- A container cause of the immediate class asks for a breaker trip pulse (R148, R165). -/
theorem takeCause_pulse {kind : TripKind} (hk : kind.tripsBreaker = true) (named : Option Rack)
    (data : CauseData) (s : State) : (takeCause kind named data s).converter.pulse =
      if s.converter.pulse = .failed then .failed else .pulsing := by
  have hrec : (writeRecord (recordOf kind named data s) (setLatch kind named data s)).converter =
      s.converter := by cases named <;> rfl
  have hord := (order_moves (may := nothing) (.refl (writeRecord (recordOf kind named data s)
    (setLatch kind named data s))) kind (namedRacks named)).pulse
  rw [hrec] at hord
  have hafter : ∀ x e, Moves nothing x (handLatch (post e x)) := fun x e =>
    handLatch_moves (post_moves (.refl x) e)
  unfold takeCause
  dsimp only
  rw [if_pos hk]
  by_cases hf : s.converter.pulse = .failed
  · rw [if_pos hf]
    refine (hafter _ _).pulse_failed ?_
    rw [requestPulse_pulse, if_pos]
    exact hord.elim (fun h => h.trans hf) fun h => absurd hf h.1
  · rw [if_neg hf]
    refine (hafter _ _).pulse_pulsing ?_
    rw [requestPulse_pulse, if_neg]
    exact fun h => hord.elim (fun h' => hf (h'.symm.trans h)) fun h' => by rw [h] at h'; cases h'.2

/-! ## EMERGENCY_OPEN (R150) -/

theorem exec_emergencyOpen (tag : Byte) (s : State) :
    exec (.emergencyOpen tag) s = serveMoving tag .emergencyOpen answerEmergencyOpen s := rfl

/-- Settles O13. -/
theorem emergencyOpensEveryRack : Obligations.EmergencyOpensEveryRack := by
  unfold Obligations.EmergencyOpensEveryRack
  intro tag rest s ho
  have hexec : exec (.emergencyOpen tag) s = .next (arbitrate (settle (reply tag .emergencyOpen .ok
      .nothing (takeCause .emergency none .emergency (s.taking rest))))) := by
    rw [exec_emergencyOpen, serveMoving_offered ho, takeRequest_offered ho]
    rfl
  have hpulse : (settle (reply tag .emergencyOpen .ok .nothing (takeCause .emergency none .emergency
      (s.taking rest)))).converter.pulse =
      if s.converter.pulse = .failed then .failed else .pulsing := by
    have hmoves := settle_moves (may := fun l => l = .clear .welded) (.refl (reply tag .emergencyOpen
      .ok .nothing (takeCause .emergency none .emergency (s.taking rest)))) rfl
    have htaken := takeCause_pulse (kind := .emergency) rfl none .emergency (s.taking rest)
    by_cases hf : s.converter.pulse = .failed
    · rw [if_pos hf]
      exact hmoves.pulse_failed (htaken.trans (if_pos hf))
    · rw [if_neg hf]
      exact hmoves.pulse_pulsing (htaken.trans (if_neg hf))
  refine ⟨_, hexec, fun r => ?_, ?_, ?_, ?_⟩
  · rw [commandedOpen_iff, rackState_eq_of_sequencer (arbitrate_sequencer _)]
    exact settle_conducts (takeCause_conducts (kind := .emergency) rfl _ _ (Rack.mem_all r))
  · rw [arbitrate_trips]
    exact settle_container_taken (k := .emergency) (takeCause_container (kind := .emergency) rfl _ _)
  · rw [arbitrate_converter, hpulse]
  · rw [arbitrate_converter, tripOutput_iff, hpulse]
    by_cases hf : s.converter.pulse = .failed <;> simp [hf]

end Sys2Proof.Machine

namespace Sys2Proof.Machine

variable {may : Liberty → Prop} {u s t : State}

/-! ## The fire stage (R110 to R115) -/

theorem handStage_sameBut (before after : FireStage) (cause : StageCause) (s : State) :
    s.sameBut (handStage before after cause s)
      [.ring, .limits, .balance, .cooling, .sequencer, .trips, .converter, .site, .choices] := by
  simp [sameBut_refl]

theorem handStage_fire (before after : FireStage) (cause : StageCause) (s : State) :
    (handStage before after cause s).fire = s.fire :=
  sameBut_fire (handStage_sameBut before after cause s) (by simp)

theorem moveStage_fire (after : FireStage) (cause : StageCause) (s : State) :
    (moveStage after cause s).fire =
      if s.fire.stage = after then s.fire else (enterStage after s).fire := by
  unfold moveStage
  dsimp only
  split
  · rfl
  · exact handStage_fire _ _ _ _

theorem moveStage_tables (after : FireStage) (cause : StageCause) (s : State) :
    (moveStage after cause s).tables = s.tables :=
  sameBut_tables (A := [.ring, .limits, .balance, .cooling, .fire, .sequencer, .trips, .converter,
    .site, .choices]) (by simp [sameBut_refl]) (by simp)

theorem fireRecord_congr (h : t.tables = s.tables) : t.fireRecord = s.fireRecord := by
  simp only [State.fireRecord, State.table, h]

/-- What the fire unit keeps when its stage moves: the lines, the gas channels and their state. -/
structure SameDetection (x y : Fire) : Prop where
  lines : y.lines = x.lines
  h2 : y.h2 = x.h2
  co : y.co = x.co
  gas : y.gas = x.gas
  gasFault : y.gasFault = x.gasFault

theorem SameDetection.refl (x : Fire) : SameDetection x x := ⟨rfl, rfl, rfl, rfl, rfl⟩

theorem SameDetection.trans {x y z : Fire} (h : SameDetection x y) (k : SameDetection y z) :
    SameDetection x z :=
  ⟨k.lines.trans h.lines, k.h2.trans h.h2, k.co.trans h.co, k.gas.trans h.gas,
    k.gasFault.trans h.gasFault⟩

theorem enterStage_detection (after : FireStage) (s : State) :
    SameDetection s.fire (enterStage after s).fire := by
  unfold enterStage
  rw [State.withFire_fire]
  split <;> exact ⟨rfl, rfl, rfl, rfl, rfl⟩

theorem moveStage_detection (after : FireStage) (cause : StageCause) (s : State) :
    SameDetection s.fire (moveStage after cause s).fire := by
  rw [moveStage_fire]
  split
  · exact .refl _
  · exact enterStage_detection after s

theorem countdownAtOnce_detection (s : State) :
    SameDetection s.fire (countdownAtOnce s).fire := by
  unfold countdownAtOnce
  split
  · exact moveStage_detection _ _ s
  · exact .refl _

theorem pickFree_fire {α : Type} (xs : List α) (s : State) : (pickFree xs s).2.fire = s.fire :=
  sameBut_fire (pickFree_sameBut xs s) (by simp)

theorem moveStageFor_detection (after : FireStage) (causes : List StageCause) (s : State) :
    SameDetection s.fire (moveStageFor after causes s).fire := by
  have hpick := pickFree_fire causes s
  unfold moveStageFor
  split
  next c x h =>
    rw [h] at hpick
    rw [← hpick]
    exact moveStage_detection _ _ _
  next x h =>
    rw [h] at hpick
    rw [← hpick]
    exact .refl _

theorem judgeStage_detection (s : State) : SameDetection s.fire (judgeStage s).fire := by
  unfold judgeStage
  split
  · split
    · exact (moveStageFor_detection _ _ s).trans (countdownAtOnce_detection _)
    · split
      · exact moveStageFor_detection _ _ s
      · exact .refl _
  · split
    · exact (moveStageFor_detection _ _ s).trans (countdownAtOnce_detection _)
    · split
      · exact moveStage_detection _ _ s
      · exact .refl _
  all_goals exact .refl _

theorem judgeHold_detection (s : State) : SameDetection s.fire (judgeHold s).fire := by
  unfold judgeHold
  split
  · exact .refl _
  · split
    · exact ⟨rfl, rfl, rfl, rfl, rfl⟩
    · split
      · have h := countdownAtOnce_detection
          (s.withFire { s.fire with held := false, countdown := some s.now })
        exact ⟨h.lines, h.h2, h.co, h.gas, h.gasFault⟩
      · exact .refl _

theorem feedbackHeard_detection (s : State) : SameDetection s.fire (feedbackHeard s).fire := by
  unfold feedbackHeard
  split
  · exact ⟨rfl, rfl, rfl, rfl, rfl⟩
  · exact .refl _

/-! ### Lines (R104 to R108) -/

theorem post_fire (e : Event) (s : State) : (post e s).fire = s.fire :=
  sameBut_fire (post_sameBut e s) (by simp)

theorem SameDetection.ite {c : Prop} [Decidable c] {x : Fire} {a b : State}
    (ha : SameDetection x a.fire) (hb : SameDetection x b.fire) :
    SameDetection x (if c then a else b).fire := by split <;> assumption

/-- A class taken on a line changes that line alone. -/
theorem takeClass_lines (l : Line) (c : LineClass) (s : State) :
    (takeClass l c s).fire.lines =
      s.fire.lines.set l ((s.fire.lines.get l).take (s.lineSettings l) c) := by
  have h1 : SameDetection (s.setLine l ((s.fire.lines.get l).take (s.lineSettings l) c)).fire
      (takeClass l c s).fire := by
    unfold takeClass
    dsimp only
    have step {f : State → State} (hf : ∀ x, SameDetection x.fire (f x).fire) {c : Prop}
        [Decidable c] {x : Fire} {y : State} (hy : SameDetection x y.fire) :
        SameDetection x (if c then f y else y).fire := (hy.trans (hf y)).ite hy
    refine step judgeStage_detection (step feedbackHeard_detection (step judgeHold_detection ?_))
    refine SameDetection.ite (.refl _) ?_
    rw [post_fire]
    exact .refl _
  exact h1.lines

theorem LineState.read_eq (now : PartTime) (x : LineState) (reading : LineClass) :
    x.read now reading = { x with
      reading := reading
      candidate := if reading = x.taken then none
        else if x.candidate.map (·.reading) = some reading then x.candidate
        else some ⟨reading, now⟩ } := by
  unfold LineState.read
  cases hc : x.candidate with
  | none => simp
  | some c => by_cases h : c.reading = reading <;> simp [h]

theorem LineState.take_eq (x : LineState) (cfg : LineSettings) (c : LineClass) :
    let sets : Bool := decide (c = .active ∧
      (cfg.kind = .smoke ∨ cfg.kind = .heat ∨ cfg.kind = .manual))
    let clears : Bool := decide (c = .normal ∧ cfg.pulseMode = false ∧ x.latch = true ∧
      x.acknowledged = true)
    x.take cfg c =
      { reading := x.reading
        taken := c
        candidate := none
        faulted := decide (cfg.kind ≠ .unused ∧ (c = .opened ∨ c = .short))
        latch := sets || (x.latch && !clears)
        acknowledged := x.acknowledged && !sets && !clears } := by
  intro sets clears
  have hsets : (cfg.kind.latching && decide (c = .active)) = sets := by
    rw [Bool.eq_iff_iff, decide_eq_true_iff, Bool.and_eq_true, decide_eq_true_iff, and_comm]
    refine and_congr_right fun _ => ?_
    unfold LineKind.latching
    cases cfg.kind <;> simp
  have hclears : (x.latch && x.acknowledged && !cfg.pulseMode && decide (c = .normal)) = clears := by
    rw [Bool.eq_iff_iff, decide_eq_true_iff]
    simp only [Bool.and_eq_true, Bool.not_eq_true', decide_eq_true_iff]
    tauto
  have hfaulted : classFaults cfg.kind c =
      decide (cfg.kind ≠ .unused ∧ (c = .opened ∨ c = .short)) := by
    rw [Bool.eq_iff_iff, decide_eq_true_iff]
    simp [classFaults]
  unfold LineState.take
  simp only [hsets, hclears, hfaulted]
  cases sets <;> cases clears <;> simp

theorem exec_lineReadingChange (l : Line) (reading : LineClass) (s : State) :
    exec (.lineReadingChange l reading) s = .next (arbitrate (changeReading l reading s)) := rfl

theorem exec_lineDebounceExpiry (l : Line) (s : State) :
    exec (.lineDebounceExpiry l) s = moveWhen (s.debounceIsDue l) (debounceDue l) s := rfl

/-- Settles O44. -/
theorem linesAreDebounced : Obligations.LinesAreDebounced := by
  unfold Obligations.LinesAreDebounced
  refine ⟨fun s l reading => ?_, fun s l c hc hdue => ?_⟩
  · dsimp only
    rw [exec_lineReadingChange, changeReading, LineState.read_eq]
    rfl
  · have hdebounce : s.debounceIsDue l = true := by
      simp only [State.debounceIsDue, hc]
      exact (reached_iff _ _ _).2 hdue
    have hact : debounceDue l s = takeClass l c.reading s := by
      simp only [debounceDue, hc, hdebounce, if_true]
    refine ⟨_, (exec_lineDebounceExpiry l s).trans (moveWhen_of hdebounce), ?_, fun k hk => ?_⟩ <;>
      rw [arbitrate_fire, settle_fire, hact, takeClass_lines]
    · rw [PerLine.get_set_self, LineState.take_eq]
    · rw [PerLine.get_set_ne _ _ hk]

/-! ### The timers of the fire unit (R113 to R115) -/

theorem refreshAllowance_cooling (s : State) :
    (refreshAllowance s).cooling = { s.cooling with allowance := s.allowanceNow } := by
  unfold refreshAllowance
  dsimp only
  split
  next h => rw [h]
  next =>
    exact sameBut_cooling (A := [.ring, .balance])
      (s := s.withCooling { s.cooling with allowance := s.allowanceNow })
      (by simp [sameBut_refl]) (by simp)

theorem resolveVentilation_ventilation (s : State) :
    (resolveVentilation s).cooling.ventilation = ventilationFor s.fire.stage s.fire.gas := by
  unfold resolveVentilation
  dsimp only
  split
  next h => exact h
  next =>
    rw [sameBut_cooling (A := [.site]) (s := refreshAllowance (composeCommands (s.withCooling
      { s.cooling with ventilation := ventilationFor s.fire.stage s.fire.gas })))
      (by simp [sameBut_refl]) (by simp), refreshAllowance_cooling]
    rfl

/-- Where the ventilation has been resolved for the stage and the gas state that stand (R99). -/
def State.Ventilated (f : Fire) (s : State) : Prop :=
  s.fire = f ∧ s.cooling.ventilation = ventilationFor f.stage f.gas

theorem Ventilated.of_same {f : Fire} (h : s.Ventilated f) (hf : t.fire = s.fire)
    (hc : t.cooling = s.cooling) : t.Ventilated f := by
  unfold State.Ventilated at h ⊢
  rw [hf, hc]
  exact h

theorem steady_cooling (h : t.steady = s.steady) : t.cooling = s.cooling := congrArg (·.2.2) h

/-- Whatever the order of the seven blocks, the ventilation is resolved for the stage entered. -/
theorem handStage_ventilation (before after : FireStage) (cause : StageCause) (s : State) :
    (handStage before after cause s).cooling.ventilation =
      ventilationFor s.fire.stage s.fire.gas := by
  have same {A : List Block} {x y : State} (h : x.sameBut y A) (hf : Block.fire ∉ A)
      (hc : Block.cooling ∉ A) (hx : x.Ventilated s.fire) : y.Ventilated s.fire :=
    Ventilated.of_same hx (sameBut_fire h hf) (sameBut_cooling h hc)
  have hallow : ∀ x : State, x.Ventilated s.fire → (refreshAllowance x).Ventilated s.fire := by
    intro x hx
    have hf : (refreshAllowance x).fire = x.fire :=
      sameBut_fire (A := [.ring, .balance, .cooling]) (by simp [sameBut_refl]) (by simp)
    exact ⟨hf.trans hx.1, by rw [refreshAllowance_cooling]; exact hx.2⟩
  have hresolve : ∀ x : State, x.fire = s.fire →
      (refreshAllowance (resolveVentilation x)).Ventilated s.fire := by
    intro x hx
    have hf : (resolveVentilation x).fire = x.fire :=
      sameBut_fire (A := [.ring, .balance, .cooling, .site]) (by simp [sameBut_refl]) (by simp)
    exact hallow _ ⟨hf.trans hx, by rw [resolveVentilation_ventilation, hx]⟩
  suffices h : (handStage before after cause s).Ventilated s.fire from h.2
  refine inAnyOrder_reaches (P := State.Ventilated s.fire) (Q := fun x => x.fire = s.fire)
    (fun _ _ h => h) (fun _ _ h => h) (List.mem_cons_self ..) (fun act ha x hx => ?_)
    (fun act ha x hx => ?_) hresolve rfl
  · refine (sameBut_fire (A := [.ring, .limits, .balance, .cooling, .sequencer, .trips, .converter,
      .site, .choices]) (s := x) ?_ (by simp)).trans hx
    simp only [List.mem_cons, List.not_mem_nil, or_false] at ha
    rcases ha with rfl | rfl | rfl | rfl | rfl | rfl | rfl <;> simp [sameBut_refl, sameBut_ite]
  · simp only [List.mem_cons, List.not_mem_nil, or_false] at ha
    rcases ha with rfl | rfl | rfl | rfl | rfl | rfl | rfl
    · exact hresolve x hx.1
    · exact same (A := [.ring, .balance]) (by simp [sameBut_refl, sameBut_ite]) (by simp) (by simp)
        hx
    · exact same (A := [.limits, .converter]) (by simp [sameBut_refl]) (by simp) (by simp) hx
    · exact same (A := [.limits, .sequencer, .trips, .converter, .site, .choices])
        (by simp [sameBut_refl, sameBut_ite]) (by simp) (by simp) hx
    · exact same (A := [.limits, .sequencer, .trips, .converter, .site, .choices])
        (by simp [sameBut_refl]) (by simp) (by simp) hx
    · exact same (A := [.converter]) (by simp [sameBut_refl]) (by simp) (by simp) hx
    · unfold siteAtStage
      have hpost : (produceContainerSummary (post (.fireStage before after cause) x)).Ventilated
          s.fire := same (A := [.site]) (by simp [sameBut_refl]) (by simp) (by simp) hx
      dsimp only
      split
      · refine Ventilated.of_same hpost (sameBut_fire (A := [.ring, .balance, .cooling, .site,
          .choices]) (by simp [sameBut_refl]) (by simp)) (steady_cooling (leaveStandby_steady _ _))
      · exact hpost

theorem dueOption_iff (now since : PartTime) (limit : Nat) :
    dueOption now (some since) limit = true ↔ limit ≤ (now - since).toNat := reached_iff _ _ _

/-- Settles O46. -/
theorem fireTimersAct : Obligations.FireTimersAct := by
  unfold Obligations.FireTimersAct
  intro s
  refine ⟨fun hs hdue => ?_, fun p hp hdue => ?_, fun w hw hs hdue => ?_, fun c hs hc hdue => ?_⟩
  · exact actWhen_of (act := toggleHorn)
      (by simp only [State.hornIsDue, hs, decide_true, Bool.true_and]; exact (reached_iff _ _ _).2 hdue)
  · exact actWhen_of (act := endRelease)
      (by simp only [State.releaseIsDue, hp]; exact (dueOption_iff _ _ _).2 hdue)
  · exact actWhen_of (act := expireWatch)
      (by simp only [State.feedbackIsDue, hw, hs, decide_true, Bool.true_and]
          exact (dueOption_iff _ _ _).2 hdue)
  · have hexec : exec .countdownExpiry s = .next (arbitrate (settle (expireCountdown s))) :=
      moveWhen_of (by simp only [State.countdownIsDue, hs, hc, decide_true, Bool.true_and]
                      exact (dueOption_iff _ _ _).2 hdue)
    have hfire : (expireCountdown s).fire = (enterStage .released s).fire := by
      rw [expireCountdown, moveStage_fire, hs]
      rfl
    have hventilation : (expireCountdown s).cooling.ventilation = .sealedMode := by
      have hmove : expireCountdown s =
          handStage .countdown .released .countdownExpiry (enterStage .released s) := by
        rw [expireCountdown, moveStage, hs]
        rfl
      rw [hmove, handStage_ventilation]
      rfl
    refine ⟨_, hexec, ?_⟩
    rw [arbitrate_fire, settle_fire, arbitrate_cooling, settle_cooling, hfire, hventilation]
    exact ⟨rfl, rfl, rfl, rfl, rfl, rfl, rfl, rfl, rfl⟩

end Sys2Proof.Machine

namespace Sys2Proof.Machine

variable {may : Liberty → Prop} {u s t : State}

/-! ## The stage that is judged (R110, R114) -/

theorem moveStageFor_picked {causes : List StageCause} (hne : causes ≠ []) (after : FireStage)
    (s : State) : ∃ c n, moveStageFor after causes s = moveStage after c (s.withChoices n) := by
  obtain ⟨-, hsome, hstate⟩ := pickFree_spec causes s
  obtain ⟨c, hc⟩ := Option.isSome_iff_exists.1 (hsome hne)
  have hx : ∃ n, (pickFree causes s).2 = s.withChoices n :=
    hstate.elim (fun h => ⟨s.choices, h⟩) fun h => ⟨_, h⟩
  obtain ⟨n, hn⟩ := hx
  refine ⟨c, n, ?_⟩
  have hp : pickFree causes s = (some c, s.withChoices n) := Prod.ext hc hn
  simp only [moveStageFor, hp]

theorem moveStageFor_fire {causes : List StageCause} (hne : causes ≠ []) (after : FireStage)
    (s : State) : (moveStageFor after causes s).fire =
      if s.fire.stage = after then s.fire else (enterStage after s).fire := by
  obtain ⟨c, n, h⟩ := moveStageFor_picked hne after s
  rw [h, moveStage_fire]
  rfl

theorem moveStageFor_tables {causes : List StageCause} (hne : causes ≠ []) (after : FireStage)
    (s : State) : (moveStageFor after causes s).tables = s.tables := by
  obtain ⟨c, n, h⟩ := moveStageFor_picked hne after s
  rw [h, moveStage_tables]
  rfl

theorem enterStage_stage (after : FireStage) (s : State) :
    (enterStage after s).fire.stage = after := by
  unfold enterStage
  rw [State.withFire_fire]
  split <;> rfl

theorem enterStage_countdown (s : State) :
    (enterStage .countdown s).fire.held = s.abortActive ∧
      (enterStage .countdown s).fire.countdown =
        if s.abortActive = true then none else some s.now := by
  unfold enterStage
  cases s.abortActive <;> exact ⟨rfl, rfl⟩

/-- A countdown that runs with a time of 0 has expired. -/
theorem countdownAtOnce_fire (s : State) : (countdownAtOnce s).fire =
    if s.fire.stage = .countdown ∧ s.fire.countdown.isSome = true ∧ s.fireRecord.countdown = 0 then
      (enterStage .released s).fire else s.fire := by
  unfold countdownAtOnce
  by_cases hs : s.fire.stage = .countdown
  · by_cases hr : s.fire.countdown.isSome = true ∧ s.fireRecord.countdown = 0
    · obtain ⟨hc, hz⟩ := hr
      rw [if_pos (by simp [hs, hc, hz]), if_pos ⟨hs, hc, hz⟩, expireCountdown, moveStage_fire, hs]
      rfl
    · rw [if_neg (by simpa [hs] using hr), if_neg fun h => hr h.2]
  · rw [if_neg (by simp [hs]), if_neg fun h => hs h.1]

/-- The fire unit once a confirmation has moved a quiet stage. -/
theorem judgeStage_confirmed (hq : s.fire.stage = .normal ∨ s.fire.stage = .preAlarm)
    (hc : s.confirmed = true) :
    ∃ x, judgeStage s = countdownAtOnce x ∧ x.tables = s.tables ∧
      x.fire = (enterStage s.confirmedStage s).fire := by
  have hne : s.confirmations ≠ [] := by
    simpa [State.confirmed] using hc
  have hstage : s.fire.stage ≠ s.confirmedStage := by
    unfold State.confirmedStage
    rcases hq with h | h <;> rw [h] <;> split <;> simp
  refine ⟨_, ?_, moveStageFor_tables hne _ _, (moveStageFor_fire hne _ _).trans (if_neg hstage)⟩
  rcases hq with h | h <;> simp only [judgeStage, h, hc, if_true]

theorem judgeStage_countdown (hq : s.fire.stage = .normal ∨ s.fire.stage = .preAlarm)
    (hc : s.confirmed = true) (he : s.fireRecord.releaseEnabled = true)
    (hz : 0 < s.fireRecord.countdown ∨ s.abortActive = true) :
    (judgeStage s).fire = (enterStage .countdown s).fire := by
  obtain ⟨x, hj, ht, hf⟩ := judgeStage_confirmed hq hc
  have hstage : s.confirmedStage = .countdown := by simp [State.confirmedStage, he]
  rw [hstage] at hf
  rw [hj, countdownAtOnce_fire, hf, if_neg, ]
  rintro ⟨-, hr, h0⟩
  rw [fireRecord_congr ht] at h0
  rcases hz with hz | hz
  · omega
  · rw [(enterStage_countdown s).2, hz] at hr
    cases hr

theorem preAlarmCauses_isEmpty_iff (s : State) : s.preAlarmCauses = [] ↔
    ¬ ((∃ l ∈ Line.all, (s.lineSettings l).kind = .smoke ∧ (s.fire.lines.get l).latch = true) ∨
      s.fire.gas ≠ .clear) := by
  have hgas : s.fire.gas.raised = true ↔ s.fire.gas ≠ .clear := by
    cases s.fire.gas <;> simp [GasState.raised]
  simp only [State.preAlarmCauses, List.append_eq_nil_iff, List.map_eq_nil_iff,
    State.latchedOfKind, List.filter_eq_nil_iff, Bool.and_eq_true, decide_eq_true_eq,
    ite_eq_right_iff, not_or, not_exists, not_and, ← hgas]
  simp

/-- The stage judged in each quiet stage (R110). -/
theorem judgeStage_stage (s : State) (hq : s.fire.stage = .normal ∨ s.fire.stage = .preAlarm) :
    (s.confirmed = true → s.fireRecord.releaseEnabled = false →
      (judgeStage s).fire.stage = .alarm) ∧
    (s.confirmed = true → s.fireRecord.releaseEnabled = true → 0 < s.fireRecord.countdown →
      (judgeStage s).fire.stage = .countdown ∧ (judgeStage s).fire.held = s.abortActive) ∧
    (s.confirmed = true → s.fireRecord.releaseEnabled = true → s.fireRecord.countdown = 0 →
      (s.abortActive = true →
        (judgeStage s).fire.stage = .countdown ∧ (judgeStage s).fire.held = true) ∧
      (s.abortActive = false →
        (judgeStage s).fire.stage = .released ∧ (judgeStage s).fire.release = true)) := by
  refine ⟨fun hc he => ?_, fun hc he hz => ?_, fun hc he hz => ⟨fun ha => ?_, fun ha => ?_⟩⟩
  · obtain ⟨x, hj, -, hf⟩ := judgeStage_confirmed hq hc
    have hstage : s.confirmedStage = .alarm := by simp [State.confirmedStage, he]
    rw [hstage] at hf
    rw [hj, countdownAtOnce_fire, hf, enterStage_stage, if_neg (by simp), enterStage_stage]
  · rw [judgeStage_countdown hq hc he (.inl hz)]
    exact ⟨enterStage_stage _ _, (enterStage_countdown s).1⟩
  · rw [judgeStage_countdown hq hc he (.inr ha)]
    exact ⟨enterStage_stage _ _, (enterStage_countdown s).1.trans ha⟩
  · obtain ⟨x, hj, ht, hf⟩ := judgeStage_confirmed hq hc
    have hstage : s.confirmedStage = .countdown := by simp [State.confirmedStage, he]
    rw [hstage] at hf
    rw [hj, countdownAtOnce_fire, if_pos]
    · exact ⟨enterStage_stage _ _, rfl⟩
    · rw [hf, enterStage_stage, (enterStage_countdown s).2, ha, fireRecord_congr ht]
      exact ⟨rfl, rfl, hz⟩

theorem judgeStage_quiet_normal (s : State) (hc : s.confirmed = false) (hs : s.fire.stage = .normal) :
    (judgeStage s).fire.stage =
      if (∃ l ∈ Line.all, (s.lineSettings l).kind = .smoke ∧ (s.fire.lines.get l).latch = true) ∨
        s.fire.gas ≠ .clear then .preAlarm else .normal := by
  by_cases h : s.preAlarmCauses = []
  · rw [if_neg ((preAlarmCauses_isEmpty_iff s).1 h)]
    simp [judgeStage, hs, hc, h]
  · have hj : judgeStage s = moveStageFor .preAlarm s.preAlarmCauses s := by
      simp [judgeStage, hs, hc, h]
    rw [if_pos (not_not.1 fun hn => h ((preAlarmCauses_isEmpty_iff s).2 hn)), hj,
      moveStageFor_fire h, hs]
    exact enterStage_stage _ _

theorem judgeStage_quiet_preAlarm (s : State) (hc : s.confirmed = false)
    (hs : s.fire.stage = .preAlarm) :
    (judgeStage s).fire.stage =
      if (∀ l ∈ Line.all, (s.fire.lines.get l).latch = false) ∧ s.fire.gas = .clear then .normal
      else .preAlarm := by
  have hempty : (s.latchedLines.isEmpty && decide (s.fire.gas = .clear)) = true ↔
      (∀ l ∈ Line.all, (s.fire.lines.get l).latch = false) ∧ s.fire.gas = .clear := by
    simp [State.latchedLines, List.filter_eq_nil_iff]
  by_cases h : (∀ l ∈ Line.all, (s.fire.lines.get l).latch = false) ∧ s.fire.gas = .clear
  · have hj : judgeStage s = moveStage .normal .quiet s := by
      simp only [judgeStage, hs, hc]
      exact if_pos (hempty.2 h)
    rw [if_pos h, hj, moveStage_fire, hs]
    exact enterStage_stage _ _
  · have hj : judgeStage s = s := by
      simp only [judgeStage, hs, hc]
      exact if_neg (mt hempty.1 h)
    rw [if_neg h, hj, hs]

/-! ## FIRE_ACK (R108) -/

theorem mem_latchedLines (s : State) (l : Line) :
    l ∈ s.latchedLines ↔ (s.fire.lines.get l).latch = true := by
  simp [State.latchedLines]

/-- Lines changed one after the other, each by the same function. -/
theorem foldl_lines {act : State → Line → State} {f : LineState → LineState} (hf : ∀ x, f (f x) = f x)
    (hact : ∀ s l, (act s l).fire.lines = s.fire.lines.set l (f (s.fire.lines.get l)))
    (ls : List Line) (s : State) (k : Line) :
    (ls.foldl act s).fire.lines.get k =
      if k ∈ ls then f (s.fire.lines.get k) else s.fire.lines.get k := by
  induction ls generalizing s with
  | nil => simp
  | cons l ls ih =>
    rw [List.foldl_cons, ih, hact]
    by_cases hk : k = l
    · subst hk
      simp [hf]
    · simp [hk]

theorem clearLineLatch_lines (l : Line) (s : State) : (clearLineLatch l s).fire.lines =
    s.fire.lines.set l { s.fire.lines.get l with latch := false, acknowledged := false } := by
  unfold clearLineLatch
  rw [(judgeStage_detection _).lines, post_fire]
  rfl

theorem answerFireAck_none (h : ∀ l, (s.fire.lines.get l).latch = false) :
    answerFireAck s = ⟨s, .already, .nothing⟩ := by
  have : s.latchedLines = [] := List.filter_eq_nil_iff.2 fun l _ => by simp [h l]
  simp [answerFireAck, this]

theorem answerFireAck_lines (h : ∃ l, (s.fire.lines.get l).latch = true) (l : Line) :
    (answerFireAck s).state.fire.lines.get l =
      if (s.fire.lines.get l).latch = false then s.fire.lines.get l
      else if (s.lineSettings l).pulseMode = true ∨ (s.fire.lines.get l).taken = .normal then
        { s.fire.lines.get l with latch := false, acknowledged := false }
      else { s.fire.lines.get l with acknowledged := true } := by
  have hne : s.latchedLines.isEmpty = false := by
    obtain ⟨l, hl⟩ := h
    rw [List.isEmpty_eq_false_iff]
    exact List.ne_nil_of_mem ((mem_latchedLines s l).2 hl)
  have hcleared : l ∈ s.latchedLines.filter s.clearsAtAck ↔
      (s.fire.lines.get l).latch = true ∧
        ((s.lineSettings l).pulseMode = true ∨ (s.fire.lines.get l).taken = .normal) := by
    rw [List.mem_filter, mem_latchedLines]
    simp [State.clearsAtAck]
  unfold answerFireAck
  dsimp only
  rw [hne]
  simp only [Bool.false_eq_true, if_false]
  rw [foldl_lines (act := fun acc l => clearLineLatch l acc)
      (f := ({ · with latch := false, acknowledged := false })) (fun _ => rfl)
      (fun s l => clearLineLatch_lines l s),
    foldl_lines (act := fun acc l =>
      acc.setLine l { acc.fire.lines.get l with acknowledged := true })
      (f := ({ · with acknowledged := true })) (fun _ => rfl) (fun _ _ => rfl)]
  simp only [hcleared, mem_latchedLines]
  cases hl : (s.fire.lines.get l).latch
  · simp
  · by_cases hc : (s.lineSettings l).pulseMode = true ∨ (s.fire.lines.get l).taken = .normal <;>
      simp [hc]

/-! ## FIRE_RESET (R111) -/

theorem exec_fireAck (tag : Byte) (s : State) :
    exec (.fireAck tag) s = serveMoving tag .fireAck answerFireAck s := rfl

theorem exec_fireReset (tag : Byte) (s : State) :
    exec (.fireReset tag) s = serveMoving tag .fireReset answerFireReset s := rfl

theorem answerFireReset_already (h : s.fire.stage = .normal ∨ s.fire.stage = .preAlarm) :
    answerFireReset s = ⟨s, .already, .nothing⟩ := by
  rcases h with h | h <;> simp only [answerFireReset, h]

theorem answerFireReset_latched (h : s.fire.stage = .alarm ∨ s.fire.stage = .countdown)
    (hl : s.latchedLines ≠ []) :
    answerFireReset s = ⟨s, .fireActive, .fireActive s.latchedLines false⟩ := by
  rcases h with h | h <;> simp [answerFireReset, h, hl]

theorem answerFireReset_released (h : s.fire.stage = .released)
    (hl : s.latchedLines ≠ [] ∨ s.fire.pulse ≠ none) :
    answerFireReset s = ⟨s, .fireActive, .fireActive s.latchedLines s.fire.pulse.isSome⟩ := by
  have : (s.latchedLines.isEmpty && s.fire.pulse.isNone) = false := by
    rw [Bool.and_eq_false_iff]
    rcases hl with hl | hl
    · exact .inl (by simpa using hl)
    · exact .inr (by cases hp : s.fire.pulse <;> simp_all)
  simp [answerFireReset, h, this]

theorem answerFireReset_free (hl : s.latchedLines = [])
    (h : s.fire.stage = .alarm ∨ s.fire.stage = .countdown ∨
      (s.fire.stage = .released ∧ s.fire.pulse = none)) :
    answerFireReset s =
      ⟨moveStage (if s.fire.gas.raised then .preAlarm else .normal) .fireReset s, .ok, .nothing⟩ := by
  rcases h with h | h | ⟨h, hp⟩
  · simp [answerFireReset, h, hl]
  · simp [answerFireReset, h, hl]
  · simp [answerFireReset, h, hl, hp]

/-- The stage after a FIRE_RESET that is taken. -/
theorem moveStage_reset (cause : StageCause) (h : s.fire.stage ≠ .normal ∧ s.fire.stage ≠ .preAlarm) :
    (moveStage (if s.fire.gas.raised then .preAlarm else .normal) cause s).fire =
      { s.fire with
        stage := if s.fire.gas = .clear then .normal else .preAlarm
        horn := !decide (s.fire.gas = .clear)
        hornSince := s.now
        held := false
        countdown := none } := by
  obtain ⟨hn, hp⟩ := h
  rw [moveStage_fire]
  cases hg : s.fire.gas <;> simp [GasState.raised, hn, hp, enterStage, hornAt]


end Sys2Proof.Machine

namespace Sys2Proof.Machine

variable {may : Liberty → Prop} {u s t : State}

/-! ## The gas state (R117) -/

theorem handGas_sameBut (before after : GasState) (channel : GasChannel) (v : Int)
    (stamp : PartTime) (s : State) : s.sameBut (handGas before after channel v stamp s)
      [.ring, .limits, .balance, .cooling, .sequencer, .trips, .converter, .site, .choices] := by
  simp [sameBut_refl]

theorem handGas_fire (before after : GasState) (channel : GasChannel) (v : Int) (stamp : PartTime)
    (s : State) : (handGas before after channel v stamp s).fire = s.fire :=
  sameBut_fire (handGas_sameBut before after channel v stamp s) (by simp)

theorem gasChanged_gas (channel : GasChannel) (v : Int) (stamp : PartTime) (s : State) :
    (gasChanged channel v stamp s).fire.gas = gasStateOf s.fire.h2.level s.fire.co.level := by
  unfold gasChanged
  dsimp only
  split
  next h => exact h
  next => rw [handGas_fire, (judgeStage_detection _).gas, post_fire]; rfl

/-- A change of the gas state leaves the lines, the channels and GAS_FAULT. -/
theorem gasChanged_detection (channel : GasChannel) (v : Int) (stamp : PartTime) (s : State) :
    (gasChanged channel v stamp s).fire.h2 = s.fire.h2 ∧
      (gasChanged channel v stamp s).fire.co = s.fire.co ∧
      (gasChanged channel v stamp s).fire.gasFault = s.fire.gasFault := by
  unfold gasChanged
  dsimp only
  split
  · exact ⟨rfl, rfl, rfl⟩
  · have h := judgeStage_detection (post (.gasState s.fire.gas
      (gasStateOf s.fire.h2.level s.fire.co.level) channel v stamp)
      (s.withFire { s.fire with gas := gasStateOf s.fire.h2.level s.fire.co.level }))
    rw [post_fire] at h
    rw [handGas_fire]
    exact ⟨h.h2, h.co, h.gasFault⟩

/-- A GAS latch is not judged away while the gas state stands. -/
theorem judgeGas_raised (h : s.fire.gas ≠ .clear) : judgeContainerLatch .gas s = s := by
  have hgone : s.containerGone .gas = false := by simp [State.containerGone, h]
  simp [judgeContainerLatch, hgone]

/-- An entry to GAS_ALARM sets the GAS latch, whatever the order of the blocks. -/
theorem handGas_alarm (before : GasState) (channel : GasChannel) (v : Int) (stamp : PartTime)
    (hs : s.fire.gas = .gasAlarm) :
    (handGas before .gasAlarm channel v stamp s).trips.container.gas = ⟨true, false⟩ := by
  have fire {A : List Block} {x y : State} (h : x.sameBut y A) (hf : Block.fire ∉ A)
      (hx : x.fire = s.fire) : y.fire = s.fire := (sameBut_fire h hf).trans hx
  have hcause : ∀ x : State, (takeCause .gas none (.gas channel v stamp) x).fire = x.fire := fun x =>
    sameBut_fire (A := [.limits, .sequencer, .trips, .converter, .site, .choices])
      (by simp [sameBut_refl]) (by simp)
  have hact : ∀ x : State, x.fire = s.fire →
      judgeContainerLatch .gas (takeCause .gas none (.gas channel v stamp) x) =
        takeCause .gas none (.gas channel v stamp) x := fun x hx =>
    judgeGas_raised (by rw [hcause, hx, hs]; simp)
  have htaken : ∀ x : State,
      (takeCause .gas none (.gas channel v stamp) x).trips.container.gas = ⟨true, false⟩ := fun x =>
    takeCause_container (kind := .gas) rfl _ x
  suffices h : (handGas before .gasAlarm channel v stamp s).fire = s.fire ∧
      (handGas before .gasAlarm channel v stamp s).trips.container.gas = ⟨true, false⟩ from h.2
  refine inAnyOrder_reaches
    (P := fun x => x.fire = s.fire ∧ x.trips.container.gas = ⟨true, false⟩)
    (Q := fun x => x.fire = s.fire) (fun _ _ h => h) (fun _ _ h => h)
    (a := fun x => judgeContainerLatch .gas
      (if GasState.gasAlarm = .gasAlarm then takeCause .gas none (.gas channel v stamp) x else x))
    (by simp) (fun act ha x hx => ?_) (fun act ha x hx => ?_) (fun x hx => ?_) rfl
  · refine (sameBut_fire (A := [.ring, .limits, .balance, .cooling, .sequencer, .trips, .converter,
      .site, .choices]) (s := x) ?_ (by simp)).trans hx
    simp only [List.mem_cons, List.not_mem_nil, or_false] at ha
    rcases ha with rfl | rfl | rfl | rfl | rfl <;> simp [sameBut_refl, sameBut_ite]
  · obtain ⟨hf, hl⟩ := hx
    have kept {y : State} (h : Moves nothing x y) (hy : y.fire = x.fire) :
        y.fire = s.fire ∧ y.trips.container.gas = ⟨true, false⟩ :=
      ⟨hy.trans hf, h.container_taken (k := .gas) id hl⟩
    simp only [List.mem_cons, List.not_mem_nil, or_false] at ha
    rcases ha with rfl | rfl | rfl | rfl | rfl
    · exact kept (resolveVentilation_moves (.refl x)) (sameBut_fire (A := [.ring, .balance, .cooling,
        .site]) (by simp [sameBut_refl]) (by simp))
    · exact kept ((endActive_moves (.refl x) _).ite (.refl x)) (sameBut_fire (A := [.ring, .balance])
        (by simp [sameBut_refl, sameBut_ite]) (by simp))
    · exact kept ((withdrawConnects_moves (.refl x)).ite (.refl x)) (sameBut_fire (A := [.limits,
        .sequencer, .trips, .converter, .site, .choices]) (by simp [sameBut_refl, sameBut_ite])
        (by simp))
    · simp only [if_true]
      rw [hact x hf]
      exact ⟨(hcause x).trans hf, htaken x⟩
    · refine kept ?_ (sameBut_fire (A := [.ring, .balance, .cooling, .site, .choices])
        (by simp [sameBut_refl, sameBut_ite]) (by simp))
      exact (leaveStandby_moves (produceContainerSummary_moves (.refl x)) _).ite
        (produceContainerSummary_moves (.refl x))
  · rw [if_pos rfl, hact x hx]
    exact ⟨(hcause x).trans hx, htaken x⟩

theorem gasChanged_alarm (channel : GasChannel) (v : Int) (stamp : PartTime)
    (h : gasStateOf s.fire.h2.level s.fire.co.level = .gasAlarm) (hs : s.fire.gas ≠ .gasAlarm) :
    (gasChanged channel v stamp s).trips.container.gas = ⟨true, false⟩ := by
  unfold gasChanged
  dsimp only
  rw [h, if_neg hs]
  refine handGas_alarm _ _ _ _ ?_
  rw [(judgeStage_detection _).gas, post_fire]
  rfl

/-! ### Plant notices (R116, R117) -/

theorem record_congr (h : t.samples = s.samples) : t.record = s.record := by
  funext node channel
  simp only [State.record, h]

theorem sampleNode_congr (h : t.samples = s.samples) : t.sampleNode = s.sampleNode := by
  funext node
  simp only [State.sampleNode, h]

theorem nodeStale_congr (h : t.samples = s.samples) : t.nodeStale = s.nodeStale := by
  funext node
  unfold State.nodeStale
  rw [sampleNode_congr h]

theorem gasRecordBad_iff (s : State) (node channel : Nat) :
    gasRecordBad (s.record node channel) = true ↔ ∀ r, s.record node channel = some r →
      r.quality = .stale ∨ r.quality = .invalid ∨ r.value = none := by
  cases hr : s.record node channel with
  | none => simp [gasRecordBad]
  | some r =>
    simp only [gasRecordBad, Option.some.injEq, forall_eq']
    cases hq : r.quality <;> simp [Quality.isFresh]

/-- A record that gives no fresh value gives no sample to judge. -/
theorem gasSample_dead {node channel : Nat} (h : s.nodeStale node = true ∨
    ∀ r, s.record node channel = some r →
      r.quality = .stale ∨ r.quality = .invalid ∨ r.value = none) (last : Option PartTime) :
    s.gasSample node channel last = none := by
  unfold State.gasSample
  by_cases hstale : s.nodeStale node = true
  · rw [if_pos hstale]
  · rw [if_neg hstale]
    replace h := h.resolve_left hstale
    cases hr : s.record node channel with
    | none => rfl
    | some r =>
      have hnone : r.freshValue = none := by
        rcases h r hr with hq | hq | hv
        · simp [Record.freshValue, hq, Quality.isFresh]
        · simp [Record.freshValue, hq, Quality.isFresh]
        · simp [Record.freshValue, hv]
      simp only [hnone]

theorem gasChanged_samples (channel : GasChannel) (v : Int) (stamp : PartTime) (s : State) :
    (gasChanged channel v stamp s).samples = s.samples :=
  sameBut_samples (A := [.ring, .limits, .balance, .cooling, .fire, .sequencer, .trips, .converter,
    .site, .choices]) (by simp [sameBut_refl]) (by simp)

theorem judgeH2_keeps (node : Nat) (s : State) : (judgeH2 node s).fire.co = s.fire.co ∧
    (judgeH2 node s).fire.gasFault = s.fire.gasFault ∧ (judgeH2 node s).samples = s.samples := by
  unfold judgeH2
  split
  next v stamp _ =>
    obtain ⟨-, hco, hfault⟩ := gasChanged_detection .h2 v stamp
      (s.withFire { s.fire with h2 := s.fire.h2.judge s.fireRecord.h2 v stamp })
    exact ⟨hco, hfault, gasChanged_samples _ _ _ _⟩
  next => exact ⟨rfl, rfl, rfl⟩

theorem judgeCo_keeps (node : Nat) (s : State) : (judgeCo node s).fire.h2 = s.fire.h2 ∧
    (judgeCo node s).fire.gasFault = s.fire.gasFault ∧ (judgeCo node s).samples = s.samples := by
  unfold judgeCo
  split
  next v stamp _ =>
    obtain ⟨hh2, -, hfault⟩ := gasChanged_detection .co v stamp
      (s.withFire { s.fire with co := s.fire.co.judge s.fireRecord.co v stamp })
    exact ⟨hh2, hfault, gasChanged_samples _ _ _ _⟩
  next => exact ⟨rfl, rfl, rfl⟩

theorem plantNotice_gasFault (node : Nat) (s : State) :
    (plantNotice node s).fire.gasFault = s.gasFaultCondition := by
  unfold plantNotice
  refine inAnyOrder_keeps (P := fun x => x.fire.gasFault = s.gasFaultCondition) (fun _ _ h => h)
    (fun act ha x hx => ?_) rfl
  simp only [List.mem_cons, List.not_mem_nil, or_false] at ha
  rcases ha with rfl | rfl
  · exact (judgeH2_keeps node x).2.1.trans hx
  · exact (judgeCo_keeps node x).2.1.trans hx

theorem gasSample_congr (h : t.samples = s.samples) (node channel : Nat) (last : Option PartTime) :
    t.gasSample node channel last = s.gasSample node channel last := by
  unfold State.gasSample
  rw [nodeStale_congr h, record_congr h]

theorem judgeH2_dead {node : Nat} (h : ∀ last, s.gasSample node 3 last = none) :
    judgeH2 node s = s := by
  simp only [judgeH2, h]

theorem judgeCo_dead {node : Nat} (h : ∀ last, s.gasSample node 4 last = none) :
    judgeCo node s = s := by
  simp only [judgeCo, h]

/-- A channel without a fresh value is left as it is. -/
theorem plantNotice_h2 {node : Nat} (h : ∀ last, s.gasSample node 3 last = none) :
    (plantNotice node s).fire.h2 = s.fire.h2 := by
  suffices h : (plantNotice node s).fire.h2 = s.fire.h2 ∧ (plantNotice node s).samples = s.samples
    from h.1
  refine inAnyOrder_keeps (P := fun x => x.fire.h2 = s.fire.h2 ∧ x.samples = s.samples)
    (fun _ _ h => h) (fun act ha x hx => ?_) ⟨rfl, rfl⟩
  simp only [List.mem_cons, List.not_mem_nil, or_false] at ha
  rcases ha with rfl | rfl
  · rw [judgeH2_dead fun last => (gasSample_congr hx.2 _ _ _).trans (h last)]
    exact hx
  · obtain ⟨hh2, -, hsamples⟩ := judgeCo_keeps node x
    exact ⟨hh2.trans hx.1, hsamples.trans hx.2⟩

theorem plantNotice_co {node : Nat} (h : ∀ last, s.gasSample node 4 last = none) :
    (plantNotice node s).fire.co = s.fire.co := by
  suffices h : (plantNotice node s).fire.co = s.fire.co ∧ (plantNotice node s).samples = s.samples
    from h.1
  refine inAnyOrder_keeps (P := fun x => x.fire.co = s.fire.co ∧ x.samples = s.samples)
    (fun _ _ h => h) (fun act ha x hx => ?_) ⟨rfl, rfl⟩
  simp only [List.mem_cons, List.not_mem_nil, or_false] at ha
  rcases ha with rfl | rfl
  · obtain ⟨hco, -, hsamples⟩ := judgeH2_keeps node x
    exact ⟨hco.trans hx.1, hsamples.trans hx.2⟩
  · rw [judgeCo_dead fun last => (gasSample_congr hx.2 _ _ _).trans (h last)]
    exact hx

theorem gasFaultCondition_iff (s : State) : s.gasFaultCondition = true ↔
    s.entriesOfKind .plant = [] ∨ ∃ e, (s.entriesOfKind .plant).head? = some e ∧
      (s.nodeStale e.node = true ∨
        (∀ r, s.record e.node 3 = some r →
          r.quality = .stale ∨ r.quality = .invalid ∨ r.value = none) ∨
        ∀ r, s.record e.node 4 = some r →
          r.quality = .stale ∨ r.quality = .invalid ∨ r.value = none) := by
  simp only [← gasRecordBad_iff]
  unfold State.gasFaultCondition
  cases hl : s.entriesOfKind .plant <;> simp [or_assoc]

/-! ### Runs of gas samples (R116) -/

theorem judge_atClear {g : GasLimits} {x : GasChannelState} (h : x.level = .clear) (v : Int)
    (stamp : PartTime) : x.judge g v stamp = gasAtClear g v { x with lastStamp := some stamp } := by
  simp only [GasChannelState.judge, h]

theorem judge_atAlarm {g : GasLimits} {x : GasChannelState} (h : x.level = .alarm) (v : Int)
    (stamp : PartTime) : x.judge g v stamp = gasAtAlarm g v { x with lastStamp := some stamp } := by
  simp only [GasChannelState.judge, h]

/-- The target of a run at CLEAR after its next sample: ALARM while every sample of it reached the alarm
threshold. -/
theorem gasTarget_run {g : GasLimits} {y : GasChannelState} {xs : List (Int × PartTime)}
    (hn : y.setCount = xs.length)
    (ht : xs ≠ [] → (y.target = .alarm ↔ ∀ v ∈ xs, g.alarmSet ≤ v.1)) (v : Int × PartTime) :
    (if g.alarmSet ≤ v.1 then (if y.setCount = 0 then GasTarget.alarm else y.target) else .pre) =
      .alarm ↔ ∀ w ∈ xs ++ [v], g.alarmSet ≤ w.1 := by
  rw [List.forall_mem_append, List.forall_mem_singleton, hn]
  by_cases ha : g.alarmSet ≤ v.1
  · rw [if_pos ha]
    by_cases hxs : xs = []
    · subst hxs
      exact ⟨fun _ => ⟨fun _ h => (List.not_mem_nil h).elim, ha⟩, fun _ => rfl⟩
    · rw [if_neg (by simpa using hxs), ht hxs]
      exact (and_iff_left ha).symm
  · rw [if_neg ha]
    exact ⟨fun h => (by cases h), fun h => absurd h.2 ha⟩

/-- A run at CLEAR shorter than the persistence. -/
theorem gasRun_clear {g : GasLimits} {x : GasChannelState} (hx : x.level = .clear)
    (hc : x.setCount = 0) {samples : List (Int × PartTime)} (hset : ∀ v ∈ samples, g.preSet ≤ v.1)
    (hlen : samples.length < g.setPersistence) :
    let y := samples.foldl (fun acc v => acc.judge g v.1 v.2) x
    y.level = .clear ∧ y.setCount = samples.length ∧
      (samples ≠ [] → (y.target = .alarm ↔ ∀ v ∈ samples, g.alarmSet ≤ v.1)) := by
  induction samples using List.reverseRecOn with
  | nil => exact ⟨hx, hc, fun h => absurd rfl h⟩
  | append_singleton xs v ih =>
    rw [List.length_append, List.length_singleton] at hlen
    obtain ⟨hl, hn, ht⟩ := ih (fun w hw => hset w (List.mem_append_left _ hw)) (by omega)
    have hv : ¬ v.1 < g.preSet := not_lt.2 (hset v (by simp))
    have htarget := gasTarget_run hn ht v
    dsimp only at hl hn htarget ⊢
    simp only [List.foldl_append, List.foldl_cons, List.foldl_nil]
    rw [judge_atClear hl]
    unfold gasAtClear
    dsimp only
    rw [if_neg hv, if_neg (by omega)]
    exact ⟨hl, by rw [List.length_append, hn]; rfl, fun _ => htarget⟩

/-- The sample that completes the persistence of a run at CLEAR. -/
theorem gasRun_completes {g : GasLimits} {x : GasChannelState} (hx : x.level = .clear)
    (hc : x.setCount = 0) (hp : 1 ≤ g.setPersistence) {samples : List (Int × PartTime)}
    (hset : ∀ v ∈ samples, g.preSet ≤ v.1) (hlen : samples.length = g.setPersistence) :
    let y := samples.foldl (fun acc v => acc.judge g v.1 v.2) x
    y.setCount = 0 ∧ y.releaseCount = 0 ∧
      ((∀ v ∈ samples, g.alarmSet ≤ v.1) → y.level = .alarm) ∧
      ((∃ v ∈ samples, v.1 < g.alarmSet) → y.level = .pre) := by
  induction samples using List.reverseRecOn with
  | nil => rw [List.length_nil] at hlen; omega
  | append_singleton xs v _ =>
    rw [List.length_append, List.length_singleton] at hlen
    obtain ⟨hl, hn, ht⟩ := gasRun_clear hx hc
      (fun w hw => hset w (List.mem_append_left _ hw)) (by omega : xs.length < g.setPersistence)
    have hv : ¬ v.1 < g.preSet := not_lt.2 (hset v (by simp))
    have htarget := gasTarget_run hn ht v
    dsimp only at hl hn htarget ⊢
    simp only [List.foldl_append, List.foldl_cons, List.foldl_nil]
    rw [judge_atClear hl]
    unfold gasAtClear
    dsimp only
    rw [if_neg hv, if_pos (by omega)]
    refine ⟨rfl, rfl, fun h => ?_, fun ⟨w, hw, hlt⟩ => ?_⟩
    · rw [htarget.2 h]; rfl
    · have hne := mt htarget.1 fun h => absurd (h w hw) (not_le.2 hlt)
      generalize (if g.alarmSet ≤ v.1 then _ else GasTarget.pre) = target at hne
      cases target
      · rfl
      · exact absurd rfl hne

/-- A run at ALARM inside the alarm release threshold. -/
theorem gasRun_alarm {g : GasLimits} {x : GasChannelState} (hx : x.level = .alarm)
    (hc : x.releaseCount = 0) {samples : List (Int × PartTime)}
    (hrel : ∀ v ∈ samples, v.1 ≤ g.alarmRelease) (hlen : samples.length < g.releasePersistence) :
    let y := samples.foldl (fun acc v => acc.judge g v.1 v.2) x
    y.level = .alarm ∧ y.releaseCount = samples.length := by
  induction samples using List.reverseRecOn with
  | nil => exact ⟨hx, hc⟩
  | append_singleton xs v ih =>
    rw [List.length_append, List.length_singleton] at hlen
    obtain ⟨hl, hn⟩ := ih (fun w hw => hrel w (List.mem_append_left _ hw)) (by omega)
    dsimp only at hl hn ⊢
    simp only [List.foldl_append, List.foldl_cons, List.foldl_nil]
    rw [judge_atAlarm hl]
    unfold gasAtAlarm
    dsimp only
    rw [if_pos (hrel v (by simp)), if_neg (by omega)]
    exact ⟨hl, by rw [List.length_append, hn]; rfl⟩

theorem gasRun_leaves {g : GasLimits} {x : GasChannelState} (hx : x.level = .alarm)
    (hc : x.releaseCount = 0) {samples : List (Int × PartTime)} {last : Int × PartTime}
    (hrel : ∀ v ∈ samples, v.1 ≤ g.alarmRelease) (hlen : samples.length = g.releasePersistence)
    (hlast : samples.getLast? = some last) :
    (samples.foldl (fun acc v => acc.judge g v.1 v.2) x).level =
      if last.1 ≤ g.preRelease then .clear else .pre := by
  induction samples using List.reverseRecOn with
  | nil => cases hlast
  | append_singleton xs v _ =>
    rw [List.length_append, List.length_singleton] at hlen
    rw [List.getLast?_append_of_ne_nil _ (by simp)] at hlast
    cases hlast
    obtain ⟨hl, hn⟩ := gasRun_alarm hx hc
      (fun w hw => hrel w (List.mem_append_left _ hw)) (by omega : xs.length < g.releasePersistence)
    simp only [List.foldl_append, List.foldl_cons, List.foldl_nil]
    rw [judge_atAlarm hl]
    unfold gasAtAlarm
    dsimp only
    rw [if_pos (hrel v (by simp)), if_pos (by omega)]
    rfl

/-! ### The statement -/

theorem gasStateOf_cases (h2 co : GasLevel) :
    (h2 = .alarm ∨ co = .alarm → gasStateOf h2 co = .gasAlarm) ∧
    (¬ (h2 = .alarm ∨ co = .alarm) → h2 = .pre ∨ co = .pre → gasStateOf h2 co = .gasPre) ∧
    (¬ (h2 = .alarm ∨ co = .alarm) → ¬ (h2 = .pre ∨ co = .pre) → gasStateOf h2 co = .clear) := by
  refine ⟨fun h => ?_, fun h k => ?_, fun h k => ?_⟩
  · simp [gasStateOf, h]
  · simp [gasStateOf, h, k]
  · simp [gasStateOf, h, k]

/-- Settles O47. -/
theorem fireStageAndRequests : Obligations.FireStageAndRequests := by
  unfold Obligations.FireStageAndRequests
  refine ⟨fun s hq => ?stage, fun tag rest s ho => ⟨fun h => ?ackAlready, fun h => ?ack⟩,
    fun tag rest s ho => ?reset, fun g samples x => ⟨fun hx hc hp hset => ⟨fun hlen => ?_,
      fun hlen => gasRun_completes hx hc hp hset hlen⟩, fun hx hc hp hrel => ⟨fun hlen => ?_,
      fun last hlen hlast => gasRun_leaves hx hc hrel hlen hlast⟩⟩,
    fun channel v stamp s => ?gas, fun node s => ?plant⟩
  case stage =>
    obtain ⟨h1, h2, h3⟩ := judgeStage_stage s hq
    exact ⟨h1, h2, h3, judgeStage_quiet_normal s, judgeStage_quiet_preAlarm s⟩
  case ackAlready => exact serveMoving_answered ho (answerFireAck_none (s := s.taking rest) h)
  case ack =>
    refine ⟨_, (exec_fireAck tag s).trans (serveMoving_offered ho _), fun l => ?_⟩
    rw [arbitrate_fire, settle_fire, takeRequest_offered ho]
    exact answerFireAck_lines (s := s.taking rest) h l
  case reset =>
    intro latched x
    refine ⟨fun h => serveMoving_answered ho (answerFireReset_already (s := s.taking rest) h),
      fun h hl => serveMoving_answered ho (answerFireReset_latched (s := s.taking rest) h hl),
      fun h hl => serveMoving_answered ho (answerFireReset_released (s := s.taking rest) h hl),
      fun hl h => ?_⟩
    refine ⟨_, (exec_fireReset tag s).trans (serveMoving_offered ho _), ?_⟩
    have hquiet : (s.taking rest).fire.stage ≠ .normal ∧ (s.taking rest).fire.stage ≠ .preAlarm := by
      have hs : (s.taking rest).fire.stage = s.fire.stage := rfl
      rw [hs]
      rcases h with h | h | ⟨h, -⟩ <;> rw [h] <;> exact ⟨by simp, by simp⟩
    have hfire := moveStage_reset .fireReset hquiet
    rw [arbitrate_fire, settle_fire, takeRequest_offered ho,
      answerFireReset_free (s := s.taking rest) hl h]
    have hreply : ∀ y : State, (reply tag .fireReset .ok .nothing y).fire = y.fire := fun _ => rfl
    rw [hreply, hfire]
    exact ⟨rfl, rfl, rfl, rfl, rfl, rfl⟩
  case _ => exact ⟨(gasRun_clear hx hc hset hlen).1, (gasRun_clear hx hc hset hlen).2.1⟩
  case _ => exact (gasRun_alarm hx hc hrel hlen).1
  case gas =>
    intro t either
    obtain ⟨h1, h2, h3⟩ := gasStateOf_cases s.fire.h2.level s.fire.co.level
    exact ⟨fun h => ⟨(gasChanged_gas channel v stamp s).trans (h1 h),
        fun hn => gasChanged_alarm channel v stamp (h1 h) hn⟩,
      fun h k => (gasChanged_gas channel v stamp s).trans (h2 h k),
      fun h k => (gasChanged_gas channel v stamp s).trans (h3 h k)⟩
  case plant =>
    intro t dead
    refine ⟨?_, fun e he h => plantNotice_h2 (gasSample_dead (he ▸ h)),
      fun e he h => plantNotice_co (gasSample_dead (he ▸ h))⟩
    rw [show t.fire.gasFault = s.gasFaultCondition from plantNotice_gasFault node s]
    exact gasFaultCondition_iff s

end Sys2Proof.Machine

namespace Sys2Proof.Machine

variable {may : Liberty → Prop} {u s t : State}

/-! ## Runs of samples on a side (R34 to R36) -/

theorem sideJudge_normal {x : SideState} (h : x.level = .normal) (set : LimitSet) (side : LevelSide)
    (v : Int) : x.judge set side v = sideAtNormal set side v x := by
  simp only [SideState.judge, h]

theorem sideJudge_warn {x : SideState} (h : x.level = .warn) (set : LimitSet) (side : LevelSide)
    (v : Int) : x.judge set side v = sideAtWarn set side v x := by
  simp only [SideState.judge, h]

theorem sideJudge_trip {x : SideState} (h : x.level = .trip) (set : LimitSet) (side : LevelSide)
    (v : Int) : x.judge set side v = sideAtTripLevel set side v x := by
  simp only [SideState.judge, h]

/-- The target of a run at NORMAL after its next sample: TRIP while every sample of it was beyond the
trip threshold. -/
theorem sideTarget_run {l : SideLimits} {side : LevelSide} {y : SideState} {vs : List Int}
    (hn : y.setCount = vs.length)
    (ht : vs ≠ [] → (y.target = .trip ↔ ∀ v ∈ vs, l.tripsAt side v = true)) (v : Int) :
    (if l.tripsAt side v then (if y.setCount = 0 then RunTarget.trip else y.target) else .warn) =
      .trip ↔ ∀ w ∈ vs ++ [v], l.tripsAt side w = true := by
  rw [List.forall_mem_append, List.forall_mem_singleton, hn]
  by_cases ha : l.tripsAt side v = true
  · rw [if_pos ha]
    by_cases hvs : vs = []
    · subst hvs
      exact ⟨fun _ => ⟨fun _ h => (List.not_mem_nil h).elim, ha⟩, fun _ => rfl⟩
    · rw [if_neg (by simpa using hvs), ht hvs]
      exact (and_iff_left ha).symm
  · rw [if_neg ha]
    exact ⟨fun h => (by cases h), fun h => absurd h.2 ha⟩

/-- A run at NORMAL shorter than the set persistence. -/
theorem sideRun_normal {set : LimitSet} {side : LevelSide} {x : SideState} (hx : x.level = .normal)
    (hc : x.setCount = 0) {vs : List Int}
    (hb : ∀ v ∈ vs, beyond side v (set.side side).warnSet = true)
    (hlen : vs.length < set.setPersistence) :
    let y := vs.foldl (fun acc v => acc.judge set side v) x
    y.level = .normal ∧ y.setCount = vs.length ∧
      (vs ≠ [] → (y.target = .trip ↔ ∀ v ∈ vs, (set.side side).tripsAt side v = true)) := by
  induction vs using List.reverseRecOn with
  | nil => exact ⟨hx, hc, fun h => absurd rfl h⟩
  | append_singleton vs v ih =>
    rw [List.length_append, List.length_singleton] at hlen
    obtain ⟨hl, hn, ht⟩ := ih (fun w hw => hb w (List.mem_append_left _ hw)) (by omega)
    have htarget := sideTarget_run hn ht v
    dsimp only at hl hn htarget ⊢
    simp only [List.foldl_append, List.foldl_cons, List.foldl_nil]
    rw [sideJudge_normal hl]
    unfold sideAtNormal
    dsimp only
    rw [if_pos (hb v (by simp)), if_neg (by omega)]
    exact ⟨hl, by rw [List.length_append, hn]; rfl, fun _ => htarget⟩

/-- The sample that completes the set persistence of a run at NORMAL. -/
theorem sideRun_completes {set : LimitSet} {side : LevelSide} {x : SideState}
    (hx : x.level = .normal) (hc : x.setCount = 0) (hp : 1 ≤ set.setPersistence) {vs : List Int}
    (hb : ∀ v ∈ vs, beyond side v (set.side side).warnSet = true)
    (hlen : vs.length = set.setPersistence) :
    let y := vs.foldl (fun acc v => acc.judge set side v) x
    ((∀ v ∈ vs, (set.side side).tripsAt side v = true) → y.level = .trip) ∧
      ((∃ v ∈ vs, (set.side side).tripsAt side v = false) → y.level = .warn) ∧
      y.setCount = 0 ∧ y.releaseCount = 0 := by
  induction vs using List.reverseRecOn with
  | nil => rw [List.length_nil] at hlen; omega
  | append_singleton vs v _ =>
    rw [List.length_append, List.length_singleton] at hlen
    obtain ⟨hl, hn, ht⟩ := sideRun_normal hx hc
      (fun w hw => hb w (List.mem_append_left _ hw)) (by omega : vs.length < set.setPersistence)
    have htarget := sideTarget_run hn ht v
    dsimp only at hl hn htarget ⊢
    simp only [List.foldl_append, List.foldl_cons, List.foldl_nil]
    rw [sideJudge_normal hl]
    unfold sideAtNormal
    dsimp only
    rw [if_pos (hb v (by simp)), if_pos (by omega)]
    refine ⟨fun h => ?_, fun ⟨w, hw, hf⟩ => ?_, rfl, rfl⟩
    · rw [htarget.2 h]; rfl
    · have hne := mt htarget.1 fun h => by rw [h w hw] at hf; cases hf
      generalize (if (set.side side).tripsAt side v = true then _ else RunTarget.warn) = target at hne
      cases target
      · rfl
      · exact absurd rfl hne

/-- A side at TRIP that has not been acknowledged stays there. -/
theorem sideJudge_unacknowledged {set : LimitSet} {side : LevelSide} {x : SideState}
    (hx : x.level = .trip) (ha : x.acknowledged = false) (v : Int) :
    (x.judge set side v).level = .trip ∧ (x.judge set side v).acknowledged = false := by
  rw [sideJudge_trip hx]
  unfold sideAtTripLevel
  dsimp only
  split
  · rw [if_neg (by simp [ha])]
    exact ⟨hx, ha⟩
  · exact ⟨hx, ha⟩

theorem sideRun_unacknowledged {set : LimitSet} {side : LevelSide} (vs : List Int) {x : SideState}
    (hx : x.level = .trip) (ha : x.acknowledged = false) :
    (vs.foldl (fun acc v => acc.judge set side v) x).level = .trip := by
  induction vs generalizing x with
  | nil => exact hx
  | cons v vs ih =>
    obtain ⟨hl, hk⟩ := sideJudge_unacknowledged (set := set) (side := side) hx ha v
    exact ih hl hk

/-- A run of samples inside the trip release threshold, shorter than the release persistence. -/
theorem sideRun_trip {set : LimitSet} {side : LevelSide} {x : SideState} (hx : x.level = .trip)
    (ha : x.acknowledged = true) (hc : x.releaseCount = 0) {vs : List Int}
    (hr : ∀ v ∈ vs, (set.side side).tripReleasesAt side v = true)
    (hlen : vs.length < set.releasePersistence) :
    let y := vs.foldl (fun acc v => acc.judge set side v) x
    y.level = .trip ∧ y.acknowledged = true ∧ y.releaseCount = vs.length := by
  induction vs using List.reverseRecOn with
  | nil => exact ⟨hx, ha, hc⟩
  | append_singleton vs v ih =>
    rw [List.length_append, List.length_singleton] at hlen
    obtain ⟨hl, hk, hn⟩ := ih (fun w hw => hr w (List.mem_append_left _ hw)) (by omega)
    dsimp only at hl hk hn ⊢
    simp only [List.foldl_append, List.foldl_cons, List.foldl_nil]
    rw [sideJudge_trip hl]
    unfold sideAtTripLevel
    dsimp only
    rw [if_pos (hr v (by simp)), hk, hn, countUp_eq_min, if_neg (by simp; omega)]
    refine ⟨hl, rfl, ?_⟩
    rw [List.length_append, List.length_singleton]
    exact min_eq_right (by omega)

theorem sideRun_leaves {set : LimitSet} {side : LevelSide} {x : SideState} (hx : x.level = .trip)
    (ha : x.acknowledged = true) (hc : x.releaseCount = 0) (hp : 1 ≤ set.releasePersistence)
    {vs : List Int} (hr : ∀ v ∈ vs, (set.side side).tripReleasesAt side v = true)
    (hlen : vs.length = set.releasePersistence) :
    (vs.foldl (fun acc v => acc.judge set side v) x).level ≠ .trip := by
  induction vs using List.reverseRecOn with
  | nil => rw [List.length_nil] at hlen; omega
  | append_singleton vs v _ =>
    rw [List.length_append, List.length_singleton] at hlen
    obtain ⟨hl, hk, hn⟩ := sideRun_trip hx ha hc
      (fun w hw => hr w (List.mem_append_left _ hw)) (by omega : vs.length < set.releasePersistence)
    simp only [List.foldl_append, List.foldl_cons, List.foldl_nil]
    rw [sideJudge_trip hl]
    unfold sideAtTripLevel
    dsimp only
    rw [if_pos (hr v (by simp)), hk, hn, countUp_eq_min, if_pos (by simp; omega)]
    unfold SideLimits.fallLevel
    split <;> simp [SideState.settleAt]

/-- What a side leaves TRIP with (R36). -/
theorem sideJudge_falls {set : LimitSet} {side : LevelSide} {v : Int} {x : SideState}
    (hx : x.level = .trip) (h : (x.judge set side v).level ≠ .trip) :
    x.judge set side v = { x with
      level := if inside side v (set.side side).warnRelease then .normal else .warn
      setCount := 0, releaseCount := 0, acknowledged := false } := by
  rw [sideJudge_trip hx] at h ⊢
  unfold sideAtTripLevel at h ⊢
  dsimp only at h ⊢
  split at h
  next hr =>
    rw [if_pos hr]
    split at h
    next hn => rw [if_pos hn]; rfl
    next => exact absurd hx h
  next => exact absurd hx h

/-! ## The acknowledgement by CLEAR_TRIP (R36, R156) -/

/-- A record with every side at TRIP acknowledged. -/
def Record.acknowledged (set : Option LimitSet) (x : Record) : Record :=
  { x with
    high := x.high.map (SideState.acknowledge set x.kind.highSide x.value)
    low := x.low.map (SideState.acknowledge set x.kind.lowSide x.value) }

theorem announceSides_samples (before after : Record) (s : State) :
    (announceSides before after s).samples = s.samples :=
  sameBut_samples (A := [.ring, .limits, .balance, .cooling, .sequencer, .trips, .converter, .site,
    .choices]) (by simp [sameBut_refl]) (by simp)

theorem announceSides_tables (before after : Record) (s : State) :
    (announceSides before after s).tables = s.tables :=
  sameBut_tables (A := [.ring, .limits, .balance, .cooling, .sequencer, .trips, .converter, .site,
    .choices]) (by simp [sameBut_refl]) (by simp)

theorem acknowledgeRecord_records (x : Record) (s : State) :
    (acknowledgeRecord x s).samples.records = s.samples.records.map fun y =>
      if y.node = x.node ∧ y.channel = x.channel then x.acknowledged (s.limitSetOf x) else y := by
  unfold acknowledgeRecord
  dsimp only
  rw [announceSides_samples]
  simp only [mapRecord, State.withSamples_samples, Bool.and_eq_true, decide_eq_true_eq]
  rfl

theorem acknowledgeRecord_tables (x : Record) (s : State) :
    (acknowledgeRecord x s).tables = s.tables := announceSides_tables _ _ _

theorem limitSetOf_congr (h : t.tables = s.tables) : t.limitSetOf = s.limitSetOf := by
  funext x
  have : t.limitSet = s.limitSet := by
    funext r
    simp only [State.limitSet, State.rackConfig, State.rackEntry, State.table, h]
  rw [State.limitSetOf, State.limitSetOf, this]

/-- Records of different cells, each replaced by its own successor. -/
theorem foldl_acknowledge {xs : List Record} {s : State}
    (hkeys : (s.samples.records.map fun x => (x.node, x.channel)).Nodup)
    (hsub : ∀ x ∈ xs, x ∈ s.samples.records) :
    (xs.foldl (fun acc x => acknowledgeRecord x acc) s).samples.records =
        s.samples.records.map (fun x =>
          if x ∈ xs then x.acknowledged (s.limitSetOf x) else x) ∧
      (xs.foldl (fun acc x => acknowledgeRecord x acc) s).tables = s.tables := by
  induction xs using List.reverseRecOn with
  | nil => simp
  | append_singleton xs x ih =>
    obtain ⟨hrecords, htables⟩ := ih fun y hy => hsub y (List.mem_append_left _ hy)
    simp only [List.foldl_append, List.foldl_cons, List.foldl_nil]
    refine ⟨?_, (acknowledgeRecord_tables _ _).trans htables⟩
    rw [acknowledgeRecord_records, hrecords, limitSetOf_congr htables, List.map_map]
    refine List.map_congr_left fun y hy => ?_
    have hx : x ∈ s.samples.records := hsub x (by simp)
    have hkey : y.node = x.node ∧ y.channel = x.channel ↔ y = x := by
      refine ⟨fun h => ?_, fun h => by rw [h]; exact ⟨rfl, rfl⟩⟩
      exact List.inj_on_of_nodup_map hkeys hy hx (Prod.ext h.1 h.2)
    have hsame : ∀ z : Record, (if z ∈ xs then z.acknowledged (s.limitSetOf z) else z).node = z.node ∧
        (if z ∈ xs then z.acknowledged (s.limitSetOf z) else z).channel = z.channel := fun z => by
      split <;> exact ⟨rfl, rfl⟩
    simp only [Function.comp_apply, (hsame y).1, (hsame y).2, hkey, List.mem_append,
      List.mem_singleton]
    by_cases hyx : y = x
    · simp [hyx]
    · simp [hyx]

theorem acknowledgeSides_records {r : Rack} {s : State}
    (hkeys : (s.samples.records.map fun x => (x.node, x.channel)).Nodup) :
    (acknowledgeSides r s).samples.records = s.samples.records.map (fun x =>
        if x.rack = some r then x.acknowledged (s.limitSetOf x) else x) ∧
      (acknowledgeSides r s).tables = s.tables := by
  obtain ⟨hrecords, htables⟩ := foldl_acknowledge (xs := s.rackRecords r) hkeys fun x hx =>
    List.mem_of_mem_filter hx
  refine ⟨hrecords.trans (List.map_congr_left fun x hx => ?_), htables⟩
  have : x ∈ s.rackRecords r ↔ x.rack = some r := by
    simp [State.rackRecords, List.mem_filter, hx]
  simp only [this]

theorem acknowledge_keys (f : Record → Prop) [DecidablePred f] (g : Record → Option LimitSet)
    (xs : List Record) :
    (xs.map fun x => if f x then x.acknowledged (g x) else x).map (fun x => (x.node, x.channel)) =
      xs.map fun x => (x.node, x.channel) := by
  rw [List.map_map]
  refine List.map_congr_left fun x _ => ?_
  simp only [Function.comp_apply]
  split <;> rfl

theorem forRacks_acknowledge {racks : List Rack} (hnodup : racks.Nodup) {s : State}
    (hkeys : (s.samples.records.map fun x => (x.node, x.channel)).Nodup) :
    (forRacks racks acknowledgeSides s).samples.records = s.samples.records.map (fun x =>
        if ∃ r ∈ racks, x.rack = some r then x.acknowledged (s.limitSetOf x) else x) ∧
      (forRacks racks acknowledgeSides s).tables = s.tables := by
  induction racks generalizing s with
  | nil => simp [forRacks]
  | cons r racks ih =>
    rw [List.nodup_cons] at hnodup
    obtain ⟨hr, ht⟩ := acknowledgeSides_records (r := r) hkeys
    have hkeys' : ((acknowledgeSides r s).samples.records.map fun x => (x.node, x.channel)).Nodup := by
      rw [hr, acknowledge_keys (fun x => x.rack = some r) s.limitSetOf]
      exact hkeys
    obtain ⟨hrest, htrest⟩ := ih hnodup.2 hkeys'
    rw [show forRacks (r :: racks) acknowledgeSides s =
      forRacks racks acknowledgeSides (acknowledgeSides r s) from rfl]
    refine ⟨?_, htrest.trans ht⟩
    rw [hrest, hr, limitSetOf_congr ht, List.map_map]
    refine List.map_congr_left fun x _ => ?_
    simp only [Function.comp_apply, List.mem_cons, exists_eq_or_imp]
    by_cases hx : x.rack = some r
    · have hnot : ¬ ∃ k ∈ racks, x.rack = some k := by
        rintro ⟨k, hk, he⟩
        rw [hx, Option.some.injEq] at he
        exact hnodup.1 (he ▸ hk)
      have hrack : (x.acknowledged (s.limitSetOf x)).rack = x.rack := rfl
      rw [if_pos hx, if_pos (Or.inl hx : x.rack = some r ∨ ∃ k ∈ racks, x.rack = some k)]
      exact if_neg (by rw [hrack]; exact hnot)
    · simp [hx]

theorem racksOf_nodup (mask : RackMask) : (racksOf mask).Nodup :=
  List.Nodup.filter _ (by decide)

theorem ackLatch_sameBut (n : LatchName) (s : State) : s.sameBut (ackLatch n s) [.trips] := by
  obtain ⟨r, k⟩ := n
  cases r <;> simp [ackLatch, sameBut_refl]

/-- The records after a CLEAR_TRIP that is served. -/
theorem clearTrips_records {racks : List Rack} (hnodup : racks.Nodup) (names : List LatchName)
    {s : State} (hkeys : (s.samples.records.map fun x => (x.node, x.channel)).Nodup) :
    (clearTrips racks names s).samples.records = s.samples.records.map (fun x =>
      if ∃ r ∈ racks, x.rack = some r then x.acknowledged (s.limitSetOf x) else x) := by
  have hack : ∀ (names : List LatchName) (x : State),
      x.sameBut (names.foldl (fun acc n => ackLatch n acc) x) [.trips] := by
    intro names
    induction names with
    | nil => exact fun x => sameBut_refl x _
    | cons n names ih => exact fun x => sameBut_trans (ackLatch_sameBut n x) (ih _)
  have hsamples := sameBut_samples (hack names s) (by simp)
  have htables := sameBut_tables (hack names s) (by simp)
  obtain ⟨hrecords, -⟩ := forRacks_acknowledge hnodup
    (s := names.foldl (fun acc n => ackLatch n acc) s) (by rw [hsamples]; exact hkeys)
  have hlater : ∀ x : State, (TripKind.ackableKinds.foldl (fun acc k => judgeContainerLatch k acc)
      (forRacks racks judgeRackLatches x)).samples = x.samples := fun x =>
    sameBut_samples (A := [.limits, .sequencer, .trips, .converter, .site, .choices])
      (by simp [sameBut_refl, TripKind.ackableKinds, forRacks_frame]) (by simp)
  unfold clearTrips
  dsimp only
  rw [hlater, hrecords, hsamples, limitSetOf_congr htables]

theorem acknowledge_idle {set : Option LimitSet} {side : LevelSide} {v : Option Int} {x : SideState}
    (h : x.level ≠ .trip) : x.acknowledge set side v = x := by
  simp [SideState.acknowledge, h]

theorem exec_clearTrip (tag : Byte) (mask : RackMask) (s : State) :
    exec (.clearTrip tag mask) s = serveMoving tag (.clearTrip mask) (answerClearTrip mask) s := rfl

/-- A CLEAR_TRIP that finds nothing has no side to acknowledge either. -/
theorem acknowledged_idle {mask : RackMask} {s : State}
    (h : (racksOf mask).any s.rackTripSide = false) {x : Record} (hx : x ∈ s.samples.records)
    {r : Rack} (hr : r ∈ racksOf mask) (hxr : x.rack = some r) (set : Option LimitSet) :
    x.acknowledged set = x := by
  have hside : s.rackTripSide r = false := by
    rw [List.any_eq_false] at h
    simpa using h r hr
  have hmem : x ∈ s.rackRecords r := by simp [State.rackRecords, hx, hxr]
  have hnone := (List.any_eq_false.1 hside) x hmem
  have idle : ∀ y : Option SideState, sideTrips y = false → ∀ side,
      y.map (SideState.acknowledge set side x.value) = y := fun y hy side => by
    cases y with
    | none => rfl
    | some z =>
      have hz : z.level ≠ .trip := by simpa [sideTrips] using hy
      rw [Option.map_some, acknowledge_idle hz]
  simp only [Bool.or_eq_true, not_or, Bool.not_eq_true] at hnone
  unfold Record.acknowledged
  rw [idle _ hnone.1, idle _ hnone.2]

/-- The records after a CLEAR_TRIP, whatever it answers. -/
theorem answerClearTrip_records {mask : RackMask} {s : State}
    (hkeys : (s.samples.records.map fun x => (x.node, x.channel)).Nodup) :
    (answerClearTrip mask s).state.samples.records = s.samples.records.map (fun x =>
      if ∃ r ∈ racksOf mask, x.rack = some r then x.acknowledged (s.limitSetOf x) else x) := by
  unfold answerClearTrip
  dsimp only
  split
  next h =>
    simp only [Bool.and_eq_true, Bool.not_eq_true'] at h
    refine ((List.map_congr_left fun x hx => ?_).trans (List.map_id _)).symm
    split
    next hr =>
      obtain ⟨r, hr, hxr⟩ := hr
      exact acknowledged_idle h.2 hx hr hxr _
    next => rfl
  next => exact clearTrips_records (racksOf_nodup mask) _ hkeys

/-- Settles O27. -/
theorem levelsMoveByPersistence : Obligations.LevelsMoveByPersistence := by
  unfold Obligations.LevelsMoveByPersistence
  refine ⟨fun set side vs x hx hc hp hb => ⟨fun hlen => ?_, fun hlen =>
      sideRun_completes hx hc hp hb hlen⟩,
    fun set side vs x hx => ⟨sideRun_unacknowledged vs hx, fun ha hc hp hr => ⟨fun hlen =>
      (sideRun_trip hx ha hc hr hlen).1, fun hlen => sideRun_leaves hx ha hc hp hr hlen⟩⟩,
    fun set side v x hx => sideJudge_warn hx set side v,
    fun set side v x hx h => sideJudge_falls hx h,
    fun tag mask rest s ho hkeys => ?_⟩
  · obtain ⟨hl, hn, -⟩ := sideRun_normal hx hc hb hlen
    exact ⟨hl, hn⟩
  · refine ⟨_, (exec_clearTrip tag mask s).trans (serveMoving_offered ho _), ?_⟩
    rw [arbitrate_samples, settle_samples, takeRequest_offered ho]
    refine (answerClearTrip_records (s := s.taking rest) hkeys).trans
      (List.map_congr_left fun x _ => ?_)
    have hacked : ∀ (set : Option LimitSet) (side : LevelSide),
        SideState.acknowledge set side x.value = fun y =>
          if y.level = .trip then
            match set, x.value with
            | some l, some value =>
              if l.releasePersistence ≤ y.releaseCount then
                { y with
                  level := if inside side value (l.side side).warnRelease then .normal else .warn
                  setCount := 0, releaseCount := 0, acknowledged := false }
              else { y with acknowledged := true }
            | _, _ => { y with acknowledged := true }
          else y := fun set side => by
      funext y
      cases set <;> cases x.value <;> rfl
    cases hr : x.rack with
    | none => simp
    | some r =>
      simp only [Option.some.injEq, exists_eq_right']
      by_cases hm : r ∈ racksOf mask
      · rw [if_pos hm, if_pos hm]
        unfold Record.acknowledged
        rw [hacked, hacked]
        have hset : (s.taking rest).limitSetOf x = s.limitSet r := by
          rw [State.limitSetOf, hr]; rfl
        rw [hset]
        rw [← hr] <;> rfl
      · rw [if_neg hm, if_neg hm]

end Sys2Proof.Machine

namespace Sys2Proof.Machine

variable {may : Liberty → Prop} {u s t : State}

/-! ## Container limits (R66) -/

theorem workOutContainer_container (s : State) :
    (workOutContainer s).limits.container =
      ⟨s.containerLimit (·.charge), s.containerLimit (·.discharge)⟩ := by
  unfold workOutContainer
  dsimp only
  rw [sameBut_limits (t := judgeFlags _ _) (A := [.converter])
    ((judgeFlags_frame _ _ _ (by decide)).2 (sameBut_refl _ _)) (by decide)]
  rfl

theorem containerLimit_zero {s : State} (h : s.zeroConditions.any = true)
    (dir : PerDirection Nat → Nat) : s.containerLimit dir = 0 := by
  rw [State.containerLimit, if_pos h]

theorem mem_connectedRacks {s : State} {r : Rack} :
    r ∈ s.connectedRacks ↔ s.rackState r = .connected := by
  simp [State.connectedRacks, Rack.mem_all]

/-- The weakest CONNECTED rack bounds the container limit, and gives it below the cap. -/
theorem containerLimit_weakest {s : State} {g : GridRecord} (hz : s.zeroConditions.any = false)
    (hg : s.grid = some g) (hn : s.connectedRacks ≠ []) (dir : PerDirection Nat → Nat) :
    (∀ r, s.rackState r = .connected →
        s.containerLimit dir ≤ s.connectedRacks.length * dir (s.limits.racks.get r).limit) ∧
      ∃ r, s.rackState r = .connected ∧ s.containerLimit dir =
        min g.containerCap (s.connectedRacks.length * dir (s.limits.racks.get r).limit) := by
  obtain ⟨least, hleast⟩ : ∃ n,
      (s.connectedRacks.map fun r => dir (s.limits.racks.get r).limit).min? = some n :=
    Option.isSome_iff_exists.1 (by simpa using hn)
  obtain ⟨hmem, hle⟩ := List.min?_eq_some_iff.1 hleast
  have hlimit : s.containerLimit dir = min g.containerCap (s.connectedRacks.length * least) := by
    rw [State.containerLimit, if_neg (by simp [hz])]
    simp only [hg, hleast]
  obtain ⟨r, hr, rfl⟩ := List.mem_map.1 hmem
  refine ⟨fun k hk => ?_, r, mem_connectedRacks.1 hr, hlimit⟩
  have := hle _ (List.mem_map_of_mem (mem_connectedRacks.2 hk))
  calc s.containerLimit dir ≤ s.connectedRacks.length * dir (s.limits.racks.get r).limit :=
        hlimit.le.trans (Nat.min_le_right _ _)
    _ ≤ _ := Nat.mul_le_mul_left _ this

theorem burning_iff (x : FireStage) :
    x.burning = true ↔ x = .alarm ∨ x = .countdown ∨ x = .released := by
  cases x <;> simp [FireStage.burning]

theorem isActive_grid (s : State) : s.isActive .grid = s.grid.isSome := by
  simp [State.isActive, State.grid]

/-- Settles O35. -/
theorem containerLimitsAreBounded : Obligations.ContainerLimitsAreBounded := by
  unfold Obligations.ContainerLimitsAreBounded
  intro s t n
  have hcontainer : t.limits.container =
      ⟨s.containerLimit (·.charge), s.containerLimit (·.discharge)⟩ := workOutContainer_container s
  have hn : s.connectedRacks.length = n := rfl
  have hany : s.zeroConditions.any = true ↔ s.grid = none ∨ n = 0 ∨ s.sequencer.hold = true ∨
      s.fire.stage.burning = true ∨ s.converter.silent = true := by
    rw [← hn]
    simp [ZeroConditions.any, State.zeroConditions, isActive_grid, or_assoc]
  refine ⟨fun h => ?_, fun g hg h1 hh hf hs => ?_⟩
  · have hz : s.zeroConditions.any = true := by
      rw [hany, burning_iff]
      tauto
    rw [hcontainer, containerLimit_zero hz, containerLimit_zero hz]
  · have hz : s.zeroConditions.any = false := by
      rw [Bool.eq_false_iff, ne_eq, hany, burning_iff, hg, hh, hs]
      rcases hf with hf | hf <;> simp [hf] <;> omega
    have hne : s.connectedRacks ≠ [] := fun h => by rw [h] at hn; simp at hn; omega
    obtain ⟨hc, rc, hrc, hec⟩ := containerLimit_weakest hz hg hne (·.charge)
    obtain ⟨hd, rd, hrd, hed⟩ := containerLimit_weakest hz hg hne (·.discharge)
    rw [hcontainer]
    exact ⟨hec.le.trans (Nat.min_le_left _ _), hed.le.trans (Nat.min_le_left _ _),
      fun r hr => ⟨hc r hr, hd r hr⟩, ⟨rc, hrc, hec⟩, ⟨rd, hrd, hed⟩⟩

/-! ## Published limits (R64, R65) -/

/-- No move but those at a rack set complete raises a published limit. -/
theorem Moves.limits_fall (hm : ¬ may .start) (h : Moves may s t) :
    LimitsFall s.limits t.limits := by
  induction h with
  | trans _ _ h k => exact fun r => ⟨(k r).1.trans (h r).1, (k r).2.trans (h r).2⟩
  | limits s x h => exact h.resolve_left hm
  | compose s =>
    exact .of_racks (congrArg Limits.racks (sameBut_limits (A := [.cooling])
      (by simp [sameBut_refl]) (by simp)))
  | @take kind named data s t _ _ ih =>
    have hl : (writeRecord (recordOf kind named data s) (setLatch kind named data s)).limits =
        s.limits := sameBut_limits (A := [.trips, .site]) (by simp [sameBut_refl]) (by simp)
    rw [← hl]
    exact ih
  | leaves s r e x _ _ _ =>
    exact .of_racks (congrArg Limits.racks (sameBut_limits (A := [.sequencer, .site])
      (by simp [sameBut_refl]) (by simp)))
  | queues => exact .of_racks rfl
  | starts => exact .of_racks rfl
  | _ => exact .of_racks rfl

theorem slewed_le (limit target ramp de : Nat) : slewed limit target ramp de ≤ target := by
  unfold slewed
  split
  · exact le_rfl
  · exact Nat.min_le_left _ _

theorem makeFactors_target_le (temperature voltage soc cooling : Nat)
    (alert blind autonomous : Option Nat) (zero : Bool) (base : Nat) :
    (makeFactors temperature voltage soc cooling alert blind autonomous zero base).target ≤ base := by
  have hf : (makeFactors temperature voltage soc cooling alert blind autonomous zero base).f ≤ 1024 :=
    Nat.min_le_left _ _
  exact Nat.div_le_of_le_mul (by rw [Nat.mul_comm]; exact Nat.mul_le_mul_right _ hf)

/-- A publication stays within the targets. -/
theorem publishedNow_le (s : State) (r : Rack) (e : RackEntry) (f : PerDirection Factors) :
    (s.publishedNow r e f).charge ≤ f.charge.target ∧
      (s.publishedNow r e f).discharge ≤ f.discharge.target := by
  unfold State.publishedNow
  split
  · exact ⟨slewed_le _ _ _ _, slewed_le _ _ _ _⟩
  · exact ⟨Nat.zero_le _, Nat.zero_le _⟩

theorem evaluationInterval_eq {s : State} {r : Rack} {h : SlotHeader} (hh : s.slotHeader = some h) :
    s.evaluationInterval r = (s.limits.racks.get r).lastEvaluation.elim h.cycleLength
      fun t => max 1 (min 2000 (s.now - t).toNat) := by
  unfold State.evaluationInterval
  rw [hh]
  cases (s.limits.racks.get r).lastEvaluation with
  | none => rfl
  | some t =>
    simp only [saturate, elapsed, Option.elim_some]
    omega

/-- The published limits of every rack are within the base currents of its entry. -/
def State.LimitsCapped (s : State) : Prop :=
  ∀ r e, s.rackEntry r = some e → (s.limits.racks.get r).limit.charge ≤ e.baseCharge ∧
    (s.limits.racks.get r).limit.discharge ≤ e.baseDischarge

theorem rackEntry_of_table (h : t.table .rack = s.table .rack) (r : Rack) :
    t.rackEntry r = s.rackEntry r := by
  simp only [State.rackEntry, h]

/-- What raises no limit and leaves the RACK table keeps the limits capped. -/
theorem State.LimitsCapped.falls (h : s.LimitsCapped) (ht : t.table .rack = s.table .rack)
    (hf : LimitsFall s.limits t.limits) : t.LimitsCapped := fun r e he => by
  rw [rackEntry_of_table ht] at he
  exact ⟨(hf r).1.trans (h r e he).1, (hf r).2.trans (h r e he).2⟩

theorem table_congr (h : t.tables = s.tables) (n : TableName) : t.table n = s.table n := by
  simp only [State.table, h]

theorem limitsAtRackSwap_capped (before : Rack → Option RackEntry) (s : State) :
    (limitsAtRackSwap before s).LimitsCapped := fun r e he => by
  have htables : (limitsAtRackSwap before s).tables = s.tables :=
    sameBut_tables (A := [.limits, .converter]) (by simp [sameBut_refl]) (by simp)
  rw [rackEntry_congr htables] at he
  rw [limitsAtRackSwap_rack, he]
  exact ⟨Nat.min_le_right _ _, Nat.min_le_right _ _⟩

/-! ### The tables over a swap -/

theorem swapBank_table_self (n : TableName) (s : State) :
    (swapBank n s).table n = (s.table n).swap := by
  simp [swapBank, State.table, State.setTable]

theorem swapBank_table_ne {n k : TableName} (h : k ≠ n) (s : State) :
    (swapBank n s).table k = s.table k := by
  simp [swapBank, State.table, State.setTable, h]

theorem judgeRequiredSet_table (s : State) (n : TableName) :
    (judgeRequiredSet s).table n = s.table n := by
  unfold judgeRequiredSet
  split
  · exact table_congr (sameBut_tables (A := [.ring, .balance, .cooling, .site, .choices])
      (s := s.withTables { s.tables with requiredSet := true })
      (by simp [sameBut_refl]) (by simp)) n
  · rfl

theorem swapGrid_table_ne {n : TableName} (h : n ≠ .grid) (s : State) :
    (swapGrid s).table n = s.table n := by
  unfold swapGrid
  dsimp only
  rw [judgeRequiredSet_table]
  refine (table_congr (sameBut_tables (A := [.limits, .sequencer, .trips, .converter, .site, .choices,
    .ring, .balance, .cooling]) (s := swapBank .grid s) (by simp [sameBut_refl]) (by simp)) n).trans ?_
  exact swapBank_table_ne h s

theorem endHold_table_ne {n : TableName} (h : n ≠ .grid) (s : State) :
    (endHold s).table n = s.table n := by
  have hw : (workOutContainer (s.withSequencer { s.sequencer with hold := false })).table n =
      s.table n := table_congr (sameBut_tables (A := [.limits, .converter, .sequencer])
    (by simp [sameBut_refl]) (by simp)) n
  unfold endHold
  split
  · dsimp only
    split
    · rw [swapGrid_table_ne h, hw]
    · exact hw
  · rfl

theorem settle_table_ne {n : TableName} (h : n ≠ .grid) (s : State) :
    (settle s).table n = s.table n := by
  have hg : ∀ x : State, (grantDisconnects 4 (judgeContainerLatch .welded x)).table n = x.table n :=
    fun x => table_congr (sameBut_tables (A := [.limits, .sequencer, .trips, .converter, .site,
      .choices]) (by simp [sameBut_refl]) (by simp)) n
  unfold settle
  rw [endHold_table_ne h, hg, endHold_table_ne h, hg]

theorem swapBanks_table {n : TableName} {names : List TableName} (hmem : n ∈ names)
    (hnodup : names.Nodup) (s : State) :
    (names.foldl (fun acc t => swapBank t acc) s).table n = (s.table n).swap := by
  have others : ∀ (names : List TableName) (s : State), n ∉ names →
      (names.foldl (fun acc t => swapBank t acc) s).table n = s.table n := by
    intro names
    induction names with
    | nil => exact fun s _ => rfl
    | cons k names ih =>
      intro s hn
      rw [List.mem_cons, not_or] at hn
      exact (ih _ hn.2).trans (swapBank_table_ne hn.1 s)
  induction names generalizing s with
  | nil => cases hmem
  | cons k names ih =>
    rw [List.nodup_cons] at hnodup
    rcases List.mem_cons.1 hmem with rfl | hm
    · exact (others names _ hnodup.1).trans (swapBank_table_self _ s)
    · have hk : n ≠ k := fun h => hnodup.1 (h ▸ hm)
      exact (ih hm hnodup.2 _).trans (by rw [swapBank_table_ne hk])

/-- A RACK table that swaps leaves the published limits within its base currents. -/
theorem swapRingPath_capped {names : List TableName} (hr : .rack ∈ names) (s : State) :
    (swapRingPath names s).LimitsCapped := by
  have hne : names ≠ [] := fun h => by rw [h] at hr; cases hr
  unfold swapRingPath
  rw [if_neg (by simpa using hne)]
  dsimp only
  generalize inAnyOrder (names.map postSwapped) _ = s1
  have howners : (inAnyOrder (names.map (ownerAtSwap s.before)) s1).LimitsCapped := by
    have htables : ∀ (n : TableName) (x : State), (ownerAtSwap s.before n x).tables = x.tables :=
      fun n x => sameBut_tables (A := [.ring, .samples, .limits, .balance, .cooling, .fire,
        .sequencer, .trips, .converter, .site, .choices]) (by simp [sameBut_refl]) (by simp)
    refine inAnyOrder_reaches (P := State.LimitsCapped) (Q := fun _ => True) (fun _ _ h => h)
      (fun _ _ _ => trivial) (List.mem_map_of_mem hr) (fun _ _ _ _ => trivial)
      (fun act ha x hx => ?_) (fun x _ => ?_) trivial
    · obtain ⟨n, -, rfl⟩ := List.mem_map.1 ha
      exact hx.falls (table_congr (htables n x) _)
        (Moves.limits_fall (may := nothing) id (ownerAtSwap_moves (.refl x) _ n))
    · show (rackSwapped s.before x).LimitsCapped
      unfold rackSwapped
      refine (limitsAtRackSwap_capped s.before.inForce.get
        (clearSides (limitSetChanged s.before x) x)).falls ?_ ?_
      · exact table_congr (sameBut_tables (A := [.samples, .trips, .site, .sequencer, .limits,
          .converter, .choices]) (by simp [sameBut_refl, forRacks_frame]) (by simp)) _
      · refine Moves.limits_fall (may := nothing) id ?_
        exact ((Moves.refl _).trans (.samples _ _ (by rfl))).onRacks fun r _ k =>
          blindTimerSwapped_moves k _ r
  refine howners.falls ?_ ?_
  · have hstart : ∀ x : State, (startRing x).table .rack = x.table .rack := fun x =>
      table_congr (sameBut_tables (A := [.ring]) (by simp [sameBut_refl]) (by simp)) _
    rw [hstart, judgeRequiredSet_table]
    exact table_congr (sameBut_tables (A := [.ring, .balance, .site, .limits, .sequencer, .trips,
      .converter, .choices]) (by simp [sameBut_refl, forRacks_frame]) (by simp)) _
  · exact Moves.limits_fall (may := nothing) id (startRing_moves (judgeRequiredSet_moves
      (powerOnReload_moves ((Moves.refl _).onRacks fun r _ k => withdrawRack_moves k r))))

/-- Settles O34. -/
theorem publishedLimitsSlew : Obligations.PublishedLimitsSlew := by
  unfold Obligations.PublishedLimitsSlew
  refine ⟨?slew, ?base, ?swap, fun s _ hdue hrack => ?cycle⟩
  case slew =>
    intro s r e f h hh l p de
    have hde : s.evaluationInterval r = de := by
      rw [evaluationInterval_eq hh]
      show _ = match (s.limits.racks.get r).lastEvaluation with
        | some t => max 1 (min 2000 (s.now - t).toNat)
        | none => h.cycleLength
      cases (s.limits.racks.get r).lastEvaluation <;> rfl
    have hslew : ∀ limit target : Nat, (target ≤ limit → slewed limit target e.ramp de = target) ∧
        (limit < target → slewed limit target e.ramp de = min target (limit + e.ramp * de / 1000)) :=
      fun limit target => ⟨fun hle => if_pos hle, fun hlt => if_neg (by omega)⟩
    refine ⟨fun hz => ?_, fun hc hh => ?_⟩
    · have hp : p = ⟨0, 0⟩ := if_neg (by
        rw [Bool.and_eq_true, decide_eq_true_eq, Bool.not_eq_true', not_and]
        rcases hz with hz | hz
        · exact fun h => absurd h hz
        · exact fun _ => by rw [hz]; decide)
      rw [hp]
      exact ⟨rfl, rfl⟩
    · have hp : p = ⟨slewed l.charge f.charge.target e.ramp de,
          slewed l.discharge f.discharge.target e.ramp de⟩ := by
        rw [← hde]
        exact if_pos (by simp [hc, hh])
      rw [hp]
      exact ⟨(hslew _ _).1, (hslew _ _).2, (hslew _ _).1, (hslew _ _).2⟩
  case base =>
    intro s r e d p
    obtain ⟨hc, hd⟩ := publishedNow_le s r e (s.factorsNow r e d)
    exact ⟨hc.trans (makeFactors_target_le ..), hd.trans (makeFactors_target_le ..)⟩
  case swap =>
    intro before s r e he l p
    show _ = _ ∧ _ = _
    simp only [p, limitsAtRackSwap_rack, RackCharge.capped, he, RackCharge.swap_limit]
    exact ⟨rfl, rfl⟩
  case cycle =>
    refine ⟨_, (exec_cycleStart s).trans (moveWhen_of hdue), ?_⟩
    have hmem : TableName.rack ∈
        (s.withRing { s.ring with cycle := s.nextCycle }).committedRingPath := by
      refine List.mem_filter.2 ⟨by decide, ?_⟩
      exact decide_eq_true hrack
    have hcapped := (swapRingPath_capped hmem (s.withRing { s.ring with cycle := s.nextCycle }))
    refine hcapped.falls ?_ ?_
    · rw [table_congr (arbitrate_tables _), settle_table_ne (by decide)]
      exact table_congr (sameBut_tables (A := [.ring, .samples]) (by simp [startCycle, sameBut_refl])
        (by simp)) _
    · rw [arbitrate_limits]
      exact Moves.limits_fall (may := fun l => l = .clear .welded) (by simp)
        (settle_moves (beginCycle_moves (.refl _)) rfl)

end Sys2Proof.Machine

namespace Sys2Proof.Machine

variable {may : Liberty → Prop} {u s t : State}

/-! ## The course of the cooling controller (R87 to R92) -/

/-- What the control interval decides: everything of the cooling controller but its outputs and the
values it publishes. -/
structure CoolingCourse where
  interval : Option PartTime
  blind : BlindState
  blindHold : Option PartTime
  level : Nat
  levelSince : PartTime
  heaterDemand : Bool

def State.course (s : State) : CoolingCourse :=
  ⟨s.cooling.interval, s.cooling.blind, s.cooling.blindHold, s.cooling.level, s.cooling.levelSince,
    s.cooling.heaterDemand⟩

theorem course_of_cooling (h : t.cooling = s.cooling) : t.course = s.course := by
  rw [State.course, h]
  rfl

theorem refreshAllowance_course (s : State) : (refreshAllowance s).course = s.course := by
  rw [State.course, refreshAllowance_cooling]
  rfl

theorem setLevel_course (k : Nat) (s : State) :
    (setLevel k s).course = { s.course with level := k, levelSince := s.now } := by
  unfold setLevel
  rw [refreshAllowance_course]
  rfl

theorem setHeaterDemand_course (on : Bool) (s : State) :
    (setHeaterDemand on s).course = { s.course with heaterDemand := on } := by
  unfold setHeaterDemand
  split
  next h => rw [← h]; rfl
  next => rfl

theorem takeCause_cooling (kind : TripKind) (named : Option Rack) (data : CauseData) (s : State) :
    (takeCause kind named data s).cooling = s.cooling :=
  sameBut_cooling (A := [.limits, .sequencer, .trips, .converter, .site, .choices])
    (by simp [sameBut_refl]) (by simp)

/-- The cooling-loss condition moves nothing but its mark. -/
theorem judgeCoolingLoss_cooling (s : State) :
    ∃ mark, (judgeCoolingLoss s).cooling = { s.cooling with lossMark := mark } := by
  unfold judgeCoolingLoss
  split
  · exact ⟨false, rfl⟩
  · split
    · split
      · exact ⟨true, by rw [takeCause_cooling]; rfl⟩
      · exact ⟨_, rfl⟩
    · exact ⟨_, rfl⟩

theorem judgeCoolingLoss_course (s : State) : (judgeCoolingLoss s).course = s.course := by
  obtain ⟨mark, h⟩ := judgeCoolingLoss_cooling s
  rw [State.course, h]
  rfl

theorem post_course (e : Event) (s : State) : (post e s).course = s.course :=
  course_of_cooling (sameBut_cooling (post_sameBut e s) (by simp))

theorem post_mode (e : Event) (s : State) : (post e s).site.mode = s.site.mode := by
  obtain ⟨-, -, -, -, -, -, hmode, -⟩ := post_spec e s
  exact hmode

/-- The blind state once judged (R91). -/
theorem judgeBlindState_blind (s : State) (hold : BlindState)
    (h : hold = match s.hottest with
      | some _ => .clear
      | none => if s.cooling.blind = .clear then .holding else s.cooling.blind) :
    ∃ since, (judgeBlindState s).course = { s.course with blind := hold, blindHold := since } ∧
      (s.hottest = none → s.cooling.blind = .clear → since = some s.now) := by
  subst h
  unfold judgeBlindState
  rcases hh : s.hottest with _ | v
  · rcases hb : s.cooling.blind with _ | _ | _
    · exact ⟨some s.now, rfl, fun _ _ => rfl⟩
    all_goals exact ⟨s.cooling.blindHold, by simp [State.course, hb], fun _ h => by cases h⟩
  · rcases hb : s.cooling.blind with _ | _ | _
    · exact ⟨s.cooling.blindHold, by simp [State.course, hb], fun h => by cases h⟩
    · exact ⟨none, rfl, fun h => by cases h⟩
    · exact ⟨s.cooling.blindHold, post_course _ _, fun h => by cases h⟩

theorem judgeBlindState_mode (s : State) : (judgeBlindState s).site.mode = s.site.mode := by
  unfold judgeBlindState
  split <;> first | rfl | exact post_mode _ _

theorem judgeBlindState_kept (s : State) : s.sameBut (judgeBlindState s) [.cooling, .site] := by
  simp [sameBut_refl]

theorem stepLadder_unseen (h : s.hottest = none) : stepLadder s = s := by
  unfold stepLadder
  rw [h]
  split
  next h => cases h
  next => rfl

/-- A step of the ladder (R89). -/
theorem stepLadder_course {bank : Bank} {v : Int} (hb : (s.table .cool).active = some bank)
    (hv : s.hottest = some v) :
    (stepLadder s).course =
      if s.site.mode ≠ .standby ∧ s.cooling.blind ≠ .fallback ∧
          ladderStep (coolHeaderOf bank) (coolLevelAt bank) s.cooling.level v ≠ s.cooling.level ∧
          s.dwell ≤ elapsed s.now s.cooling.levelSince then
        { s.course with
          level := ladderStep (coolHeaderOf bank) (coolLevelAt bank) s.cooling.level v
          levelSince := s.now }
      else s.course := by
  unfold stepLadder
  simp only [hb, hv]
  split
  · exact setLevel_course _ _
  · rfl

theorem stepLadder_kept (s : State) : s.sameBut (stepLadder s) [.cooling, .balance, .ring] := by
  simp [sameBut_refl]

/-- The heater demand (R92), where the coldest temperature is seen or the blind state keeps it. -/
theorem judgeHeater_course {h : CoolHeader} (hc : s.cool = some h)
    (hb : s.coldest ≠ none → s.cooling.blind ≠ .fallback) (on : Bool)
    (hon : on = match s.coldest with
      | some v =>
        if v < h.heaterOn then true
        else if h.heaterOff ≤ v then false
        else s.cooling.heaterDemand
      | none => s.cooling.heaterDemand) :
    (judgeHeater s).course = { s.course with heaterDemand := on } := by
  subst hon
  unfold judgeHeater
  rcases hk : s.coldest with _ | v
  · rw [hc]
    rfl
  · simp only [hc, if_neg (hb (by simp [hk]))]
    split
    · exact setHeaterDemand_course true s
    · split
      · exact setHeaterDemand_course false s
      · rfl

theorem hottest_congr (h : t.samples = s.samples) : t.hottest = s.hottest := by
  rw [State.hottest, h]
  rfl

theorem coldest_congr (h : t.samples = s.samples) : t.coldest = s.coldest := by
  rw [State.coldest, h]
  rfl

theorem coldest_unseen (h : s.hottest = none) : s.coldest = none := by
  simp only [State.hottest, State.coldest, List.max?_eq_none_iff, List.min?_eq_none_iff] at h ⊢
  exact h

theorem exec_controlIntervalExpiry (s : State) :
    exec .controlIntervalExpiry s = moveWhen s.intervalIsDue controlStep s := rfl

/-- An expiry begins the interval anew. -/
def State.intervalBegun (s : State) : State :=
  s.withCooling { s.cooling with interval := some s.now }

theorem controlStep_unswapped (h : (s.table .cool).state ≠ .committed) :
    (controlStep s).course =
      (judgeHeater (stepLadder (judgeBlindState s.intervalBegun))).course := by
  unfold controlStep swapCoolIfCommitted
  rw [if_neg h]
  exact judgeCoolingLoss_course _

/-- The control step without a fresh cell temperature. -/
theorem controlStep_unseen {h : CoolHeader} (hstate : (s.table .cool).state ≠ .committed)
    (hc : s.cool = some h) (hhot : s.hottest = none) :
    ∃ since, (controlStep s).course = { s.course with
        interval := some s.now
        blind := if s.cooling.blind = .clear then .holding else s.cooling.blind
        blindHold := since } ∧
      (s.cooling.blind = .clear → since = some s.now) := by
  obtain ⟨since, hblind, hholding⟩ := judgeBlindState_blind s.intervalBegun
    (if s.cooling.blind = .clear then .holding else s.cooling.blind)
    (by rw [show s.intervalBegun.hottest = none from hhot]; rfl)
  have hkept := judgeBlindState_kept s.intervalBegun
  rw [controlStep_unswapped hstate]
  generalize judgeBlindState s.intervalBegun = b at hblind hkept
  have hsamples : b.samples = s.intervalBegun.samples := sameBut_samples hkept (by simp)
  have hcold : b.coldest = none := (coldest_congr hsamples).trans (coldest_unseen hhot)
  have hcb : b.cool = some h := by
    rw [State.cool, table_congr (sameBut_tables hkept (by simp))]; exact hc
  refine ⟨since, ?_, hholding hhot⟩
  rw [stepLadder_unseen ((hottest_congr hsamples).trans hhot),
    judgeHeater_course hcb (fun hne => absurd hcold hne) b.cooling.heaterDemand (by rw [hcold])]
  exact hblind

/-- The control step with one. -/
theorem controlStep_seen {bank : Bank} {v : Int} (hstate : (s.table .cool).state ≠ .committed)
    (hb : (s.table .cool).active = some bank) (hhot : s.hottest = some v) (next : Nat) (on : Bool)
    (hnext : next = ladderStep (coolHeaderOf bank) (coolLevelAt bank) s.cooling.level v)
    (hon : on = match s.coldest with
      | some v =>
        if v < (coolHeaderOf bank).heaterOn then true
        else if (coolHeaderOf bank).heaterOff ≤ v then false
        else s.cooling.heaterDemand
      | none => s.cooling.heaterDemand) :
    ∃ since, (controlStep s).course =
      if s.site.mode ≠ .standby ∧ next ≠ s.cooling.level ∧
          s.dwell ≤ elapsed s.now s.cooling.levelSince then
        ⟨some s.now, .clear, since, next, s.now, on⟩
      else ⟨some s.now, .clear, since, s.cooling.level, s.cooling.levelSince, on⟩ := by
  obtain ⟨since, hblind, -⟩ := judgeBlindState_blind s.intervalBegun .clear
    (by rw [show s.intervalBegun.hottest = some v from hhot])
  have hkept := judgeBlindState_kept s.intervalBegun
  have hmode : (judgeBlindState s.intervalBegun).site.mode = s.site.mode := judgeBlindState_mode _
  rw [controlStep_unswapped hstate]
  generalize judgeBlindState s.intervalBegun = b at hblind hkept hmode
  have hsamples : b.samples = s.intervalBegun.samples := sameBut_samples hkept (by simp)
  have htable : b.table .cool = s.table .cool := table_congr (sameBut_tables hkept (by simp)) _
  have hnow : b.now = s.now := hkept .now (by simp)
  have hclear : b.cooling.blind = .clear := congrArg CoolingCourse.blind hblind
  have hlevel : b.cooling.level = s.cooling.level := congrArg CoolingCourse.level hblind
  have hsince : b.cooling.levelSince = s.cooling.levelSince :=
    congrArg CoolingCourse.levelSince hblind
  have hdwell : b.dwell = s.dwell := by rw [State.dwell, hlevel, htable]; rfl
  have hladder := stepLadder_course (by rw [htable]; exact hb) ((hottest_congr hsamples).trans hhot)
  rw [hclear, hlevel, hdwell, hnow, hmode, hsince, hblind, ← hnext] at hladder
  have hl := stepLadder_kept b
  generalize stepLadder b = l at hladder hl
  have hcold : l.coldest = s.coldest :=
    (coldest_congr (sameBut_samples hl (by simp))).trans (coldest_congr hsamples)
  have hheader : l.cool = some (coolHeaderOf bank) := by
    rw [State.cool, table_congr (sameBut_tables hl (by simp)), htable, hb]; rfl
  have hlblind : l.cooling.blind = .clear := by
    have := congrArg CoolingCourse.blind hladder
    split at this <;> exact this
  have hdemand : l.cooling.heaterDemand = s.cooling.heaterDemand := by
    have := congrArg CoolingCourse.heaterDemand hladder
    split at this <;> exact this
  refine ⟨since, ?_⟩
  rw [judgeHeater_course hheader (fun _ => by rw [hlblind]; decide) on (by rw [hcold, hdemand, hon]),
    hladder]
  simp only [ne_eq, reduceCtorEq, not_false_eq_true, true_and]
  split <;> rfl

/-- Settles O41. -/
theorem controlIntervalStepsLadder : Obligations.ControlIntervalStepsLadder := by
  unfold Obligations.ControlIntervalStepsLadder
  intro s bank since hb hstate hi hdue h k up dwell
  have hcool : s.cool = some h := by rw [State.cool, hb]; rfl
  have hdwell : s.dwell = dwell := by
    unfold State.dwell
    rw [hb]
  have hduenow : s.intervalIsDue = true := by
    simp only [State.intervalIsDue, hcool, hi, dueOption]
    exact (reached_iff _ _ _).2 hdue
  refine ⟨_, (exec_controlIntervalExpiry s).trans (moveWhen_of hduenow), ?_⟩
  have hcourse : (arbitrate (settle (controlStep s))).course = (controlStep s).course :=
    (course_of_cooling (arbitrate_cooling _)).trans (course_of_cooling (settle_cooling _))
  generalize arbitrate (settle (controlStep s)) = t at hcourse ⊢
  rcases hhot : s.hottest with _ | v
  · obtain ⟨hold, hstep, hholding⟩ := controlStep_unseen hstate hcool hhot
    rw [hstep] at hcourse
    simp only [State.course, CoolingCourse.mk.injEq] at hcourse
    obtain ⟨h1, h2, h3, h4, h5, h6⟩ := hcourse
    rw [coldest_unseen hhot]
    exact ⟨h1, h2, fun _ hc => h3.trans (hholding hc), h4, h5.trans (if_pos h4).symm, h6⟩
  · obtain ⟨hold, hstep⟩ := controlStep_seen hstate hb hhot _ _ rfl rfl
    rw [hstep, hdwell] at hcourse
    have hnext : ladderStep (coolHeaderOf bank) (coolLevelAt bank) s.cooling.level v =
        if k < h.levels ∧ up ≤ v then k + 1
        else if 0 < k ∧ v < (coolLevelAt bank k).down then k - 1 else k := rfl
    generalize ladderStep _ _ _ _ = next at hcourse hnext
    dsimp only
    rw [← hnext]
    split at hcourse
    next hgo =>
      obtain ⟨hmode, hk, hd⟩ := hgo
      simp only [State.course, CoolingCourse.mk.injEq] at hcourse
      obtain ⟨h1, h2, h3, h4, h5, h6⟩ := hcourse
      refine ⟨h1, h2, fun hn => (by cases hn), ?_, ?_, h6⟩
      · rw [h4, if_pos ⟨hmode, hd⟩]
      · rw [h4, h5, if_neg hk]
    next hstay =>
      simp only [State.course, CoolingCourse.mk.injEq] at hcourse
      obtain ⟨h1, h2, h3, h4, h5, h6⟩ := hcourse
      refine ⟨h1, h2, fun hn => (by cases hn), ?_, ?_, h6⟩
      · rw [h4]
        split
        next hgo =>
          by_contra hne
          exact hstay ⟨hgo.1, fun he => hne he.symm, hgo.2⟩
        next => rfl
      · rw [h4, h5, if_pos rfl]

end Sys2Proof.Machine

namespace Sys2Proof.Machine

variable {may : Liberty → Prop} {u s t : State}

/-! ## Composed commands and proofs (R86, R93 to R97) -/

/-- What a composed command rests on. -/
structure SameInputs (s t : State) : Prop where
  table : t.table .cool = s.table .cool
  level : t.cooling.level = s.cooling.level
  ventilation : t.cooling.ventilation = s.cooling.ventilation
  demand : t.cooling.heaterDemand = s.cooling.heaterDemand
  status : ∀ o, (t.cooling.outputs.get o).status = (s.cooling.outputs.get o).status
  feedback : ∀ o, (t.cooling.outputs.get o).feedback = (s.cooling.outputs.get o).feedback

theorem SameInputs.composedCommand (h : SameInputs s t) (o : Output) :
    t.composedCommand o = s.composedCommand o := by
  have hnames : ∀ p, t.levelNames p = s.levelNames p := fun p => by
    simp only [State.levelNames, h.level, h.table]
  simp only [State.composedCommand, hnames, h.ventilation, h.demand, h.status, h.feedback]

theorem composeCommands_output (s : State) (o : Output) :
    (composeCommands s).cooling.outputs.get o =
      (s.cooling.outputs.get o).settle s.now (s.composedCommand o)
        (s.cooling.outputs.get o).feedback := by
  rw [composeCommands, State.withCooling_cooling, PerOutput.get_mapWith]

theorem composeCommands_inputs (s : State) : SameInputs s (composeCommands s) where
  table := rfl
  level := rfl
  ventilation := rfl
  demand := rfl
  status o := by rw [composeCommands_output]; rfl
  feedback o := by rw [composeCommands_output]; rfl

theorem composeCommands_command (s : State) (o : Output) :
    ((composeCommands s).cooling.outputs.get o).command = s.composedCommand o := by
  rw [composeCommands_output]
  rfl

/-- The cooling controller but for the values it publishes and the loss mark. -/
def Cooling.published (x : Cooling) (factor allowance : Nat) (mark : Bool) : Cooling :=
  { x with factor := factor, allowance := allowance, lossMark := mark }

theorem pumpChanged_cooling (s : State) :
    ∃ mark, (pumpChanged s).cooling = { s.cooling with lossMark := mark } := by
  obtain ⟨mark, h⟩ := judgeCoolingLoss_cooling s
  exact ⟨mark, (sameBut_cooling (A := [.trips, .converter, .limits, .sequencer, .site, .choices])
    (s := judgeCoolingLoss s) (by simp [pumpChanged, sameBut_refl]) (by simp)).trans h⟩

/-- After a change of statuses the commands stand as composed, and the factor as worked out. -/
theorem statusesChanged_cooling (pump : Bool) (s : State) :
    ∃ allowance mark, (statusesChanged pump s).cooling =
      (composeCommands s).cooling.published (composeCommands s).coolingFactorNow allowance mark := by
  have h1 : (refreshAllowance (refreshFactor (composeCommands s))).cooling =
      (composeCommands s).cooling.published (composeCommands s).coolingFactorNow
        (refreshFactor (composeCommands s)).allowanceNow (composeCommands s).cooling.lossMark := by
    rw [refreshAllowance_cooling]
    rfl
  unfold statusesChanged
  dsimp only
  split
  · obtain ⟨mark, h⟩ := pumpChanged_cooling (refreshAllowance (refreshFactor (composeCommands s)))
    exact ⟨_, mark, by rw [h, h1]; rfl⟩
  · exact ⟨_, _, h1⟩

theorem statusesChanged_tables (pump : Bool) (s : State) :
    (statusesChanged pump s).tables = s.tables :=
  sameBut_tables (A := [.ring, .balance, .cooling, .limits, .sequencer, .trips, .converter, .site,
    .choices]) (by simp [sameBut_refl]) (by simp)

/-- The outputs at the close of a step that changed statuses and then left the controller alone. -/
theorem statusesChanged_settled {pump : Bool} {x : State}
    (hx : x.cooling = (statusesChanged pump s).cooling)
    (ht : x.tables = (statusesChanged pump s).tables) :
    (∀ o, (arbitrate (settle x)).cooling.outputs.get o =
        (composeCommands s).cooling.outputs.get o) ∧
      (∀ o, (arbitrate (settle x)).composedCommand o = s.composedCommand o) ∧
      (arbitrate (settle x)).cooling.factor = (composeCommands s).coolingFactorNow := by
  obtain ⟨allowance, mark, hc⟩ := statusesChanged_cooling pump s
  have hcooling : (arbitrate (settle x)).cooling =
      (composeCommands s).cooling.published (composeCommands s).coolingFactorNow allowance mark := by
    rw [arbitrate_cooling, settle_cooling, hx, hc]
  have htable : (arbitrate (settle x)).table .cool = s.table .cool := by
    rw [table_congr (arbitrate_tables _), settle_table_ne (by decide), table_congr ht,
      table_congr (statusesChanged_tables pump s)]
  generalize arbitrate (settle x) = t at hcooling htable ⊢
  have hin : SameInputs (composeCommands s) t :=
    ⟨htable, by rw [hcooling]; rfl, by rw [hcooling]; rfl, by rw [hcooling]; rfl,
      fun _ => by rw [hcooling]; rfl, fun _ => by rw [hcooling]; rfl⟩
  refine ⟨fun o => by rw [hcooling]; rfl, fun o => ?_, by rw [hcooling]; rfl⟩
  rw [hin.composedCommand, (composeCommands_inputs s).composedCommand]

theorem exec_coolingFaultClear (tag : Byte) (s : State) :
    exec (.coolingFaultClear tag) s =
      serveMoving tag .coolingFaultClear answerCoolingFaultClear s := rfl

theorem faultyOutputs_eq_nil (s : State) :
    s.faultyOutputs = [] ↔ ∀ o, (s.cooling.outputs.get o).status = .normal := by
  rw [State.faultyOutputs, List.filter_eq_nil_iff]
  refine ⟨fun h o => ?_, fun h o _ => by simp [h o]⟩
  have := h o (by cases o <;> decide)
  simpa using this

/-- An output cleared whose command and feedback differ starts its proof timer. -/
theorem OutputState.settle_starts {x : OutputState} {now : PartTime} {command : Bool}
    (hs : x.status = .normal) (hp : x.proof = none) (hd : command ≠ x.feedback) :
    (x.settle now command x.feedback).proof = some now := by
  unfold OutputState.settle
  simp only [hs, hp]
  rw [if_neg (by simpa using hd)]
  split <;> rfl

/-- With every status NORMAL no loss cap applies. -/
theorem coolingFactorNow_normal (h : ∀ o, (s.cooling.outputs.get o).status = .normal) :
    s.coolingFactorNow = 1024 := by
  have hcaps : s.coolingCaps = [] := by
    simp [State.coolingCaps, h]
  unfold State.coolingFactorNow
  split
  · rfl
  · simp [hcaps]

/-- Settles O43. -/
theorem coolingFaultClearRestores : Obligations.CoolingFaultClearRestores := by
  unfold Obligations.CoolingFaultClearRestores
  intro tag rest s ho
  refine ⟨fun h => ?_, fun ⟨p, hp⟩ => ?_⟩
  · have hnone : (s.taking rest).faultyOutputs = [] := (faultyOutputs_eq_nil _).2 h
    refine (exec_coolingFaultClear tag s).trans (serveMoving_answered ho ?_)
    rw [answerCoolingFaultClear, hnone]
    rfl
  · have hsome : (s.taking rest).faultyOutputs ≠ [] := fun h => hp ((faultyOutputs_eq_nil _).1 h p)
    refine ⟨_, (exec_coolingFaultClear tag s).trans (serveMoving_offered ho _), ?_⟩
    rw [takeRequest_offered ho]
    have hanswer : answerCoolingFaultClear (s.taking rest) =
        ⟨statusesChanged ((s.taking rest).faultyOutputs.contains .pump)
          (clearStatuses (s.taking rest)), .ok, .outputs (s.taking rest).faultyOutputs⟩ := by
      unfold answerCoolingFaultClear
      dsimp only
      rw [if_neg (by simpa using hsome)]
    rw [hanswer]
    generalize (s.taking rest).faultyOutputs.contains .pump = pump
    obtain ⟨hout, hcomposed, hfactor⟩ := statusesChanged_settled (pump := pump)
      (s := clearStatuses (s.taking rest)) (x := reply tag .coolingFaultClear .ok
        (.outputs (s.taking rest).faultyOutputs)
        (statusesChanged pump (clearStatuses (s.taking rest)))) rfl rfl
    dsimp only
    generalize arbitrate (settle (reply _ _ _ _ _)) = t at hout hcomposed hfactor ⊢
    have hcleared : ∀ o, (clearStatuses (s.taking rest)).cooling.outputs.get o =
        { s.cooling.outputs.get o with status := .normal } := fun o => by
      rw [clearStatuses, State.withCooling_cooling, PerOutput.get_mapWith]
      rfl
    refine ⟨fun o => ?_, fun _ => ?_⟩
    · rw [hcomposed, hout, composeCommands_output]
      refine ⟨?_, rfl, ?_, fun _ hproof hd => ?_⟩
      · show ((clearStatuses (s.taking rest)).cooling.outputs.get o).status = .normal
        rw [hcleared]
      · show ((clearStatuses (s.taking rest)).cooling.outputs.get o).feedback = _
        rw [hcleared]
      · exact OutputState.settle_starts (by rw [hcleared]) (by rw [hcleared]; exact hproof) hd
    · rw [hfactor]
      refine coolingFactorNow_normal fun o => ?_
      rw [composeCommands_output]
      show ((clearStatuses (s.taking rest)).cooling.outputs.get o).status = .normal
      rw [hcleared]

/-! ### The outputs (O42) -/

theorem OutputState.settle_eq (x : OutputState) (now : PartTime) (command feedback : Bool) :
    x.settle now command feedback =
      { x with
        command := command, feedback := feedback
        proof := if x.status ≠ .normal ∨ command = feedback then none
          else if x.command = command ∧ x.feedback = feedback then some (x.proof.getD now)
          else some now } := by
  simp [OutputState.settle]

/-- A reading taken, and then the command composed anew (R86, R93). -/
theorem OutputState.settle_twice (x : OutputState) (now : PartTime) (on command : Bool) :
    (x.settle now x.command on).settle now command on =
      { x with
        command := command, feedback := on
        proof := if x.status ≠ .normal ∨ command = on then none
          else if x.command = command ∧ x.feedback = on then some (x.proof.getD now)
          else some now } := by
  by_cases hs : x.status = .normal
  · cases hc : x.command <;> cases hf : x.feedback <;> cases on <;> cases command <;>
      simp [OutputState.settle, hs, hc, hf]
  · simp [OutputState.settle, hs]

theorem changeOutputFeedback_output (o : Output) (on : Bool) (s : State) (p : Output) :
    let x := s.cooling.outputs.get p
    let on' := if p = o then on else x.feedback
    ∃ command, (changeOutputFeedback o on s).cooling.outputs.get p =
        { x with
          command := command, feedback := on'
          proof := if x.status ≠ .normal ∨ command = on' then none
            else if x.command = command ∧ x.feedback = on' then some (x.proof.getD s.now)
            else some s.now } ∧
      command = (changeOutputFeedback o on s).composedCommand p := by
  intro x on'
  let read := s.setOutput o ((s.cooling.outputs.get o).settle s.now
    (s.cooling.outputs.get o).command on)
  refine ⟨read.composedCommand p, ?_, ((composeCommands_inputs read).composedCommand p).symm⟩
  show (composeCommands read).cooling.outputs.get p = _
  rw [composeCommands_output]
  by_cases hp : p = o
  · subst hp
    have hread : read.cooling.outputs.get p = x.settle s.now x.command on :=
      PerOutput.get_set_self _ _ _
    have hon : on' = on := if_pos rfl
    rw [hread, hon]
    exact OutputState.settle_twice x s.now on _
  · have hread : read.cooling.outputs.get p = x := PerOutput.get_set_ne _ _ hp
    have hon : on' = x.feedback := if_neg hp
    rw [hread, hon]
    exact OutputState.settle_eq x s.now _ _

theorem exec_proofTimerExpiry (o : Output) (s : State) :
    exec (.proofTimerExpiry o) s = moveWhen (s.proofIsDue o) (expireProof o) s := rfl

theorem exec_blindHoldTimerExpiry (s : State) :
    exec .blindHoldTimerExpiry s = actWhen s.blindHoldIsDue expireBlindHold s := rfl

theorem post_counter (e : Event) (s : State) :
    (post e s).site.postCounter = s.site.postCounter + 1 := (post_spec e s).1

/-- An output whose proof time has run is FAILED or STUCK_ON, and runs no timer (R93). -/
theorem expireProof_settled (o : Output) (s : State) :
    let t := arbitrate (settle (expireProof o s))
    (t.cooling.outputs.get o).status =
        (if (s.cooling.outputs.get o).command then .failed else .stuckOn) ∧
      (t.cooling.outputs.get o).proof = none ∧
      ∀ p, (p ≠ o → (t.cooling.outputs.get p).status = (s.cooling.outputs.get p).status) ∧
        (t.cooling.outputs.get p).command = t.composedCommand p := by
  intro t
  let status : OutputStatus := if (s.cooling.outputs.get o).command then .failed else .stuckOn
  let marked := post (.coolingOutput o status (s.cooling.outputs.get o).command
      (s.cooling.outputs.get o).feedback)
    (s.setOutput o { s.cooling.outputs.get o with status := status, proof := none })
  obtain ⟨hout, hcomposed, -⟩ := statusesChanged_settled (pump := decide (o = .pump)) (s := marked)
    (x := expireProof o s) rfl rfl
  have hmarked : ∀ p, marked.cooling.outputs.get p = if p = o then
      { s.cooling.outputs.get o with status := status, proof := none }
      else s.cooling.outputs.get p := fun p => by
    rw [show marked.cooling = _ from sameBut_cooling (post_sameBut _ _) (by simp)]
    exact PerOutput.get_set _ _ _ _
  have hstatus : status ≠ .normal := by
    show (if _ then OutputStatus.failed else .stuckOn) ≠ _
    split <;> decide
  refine ⟨?_, ?_, fun p => ⟨fun hp => ?_, ?_⟩⟩
  · rw [hout, composeCommands_output, hmarked, if_pos rfl]
    rfl
  · rw [hout, composeCommands_output, hmarked, if_pos rfl, OutputState.settle_eq]
    exact if_pos (.inl hstatus)
  · rw [hout, composeCommands_output, hmarked, if_neg hp]
    rfl
  · rw [hout, hcomposed, composeCommands_command]

/-- The blind hold that ends (R91, R92). -/
theorem expireBlindHold_course {h : CoolHeader} (hc : s.cool = some h) :
    ∃ since, (expireBlindHold s).course = { s.course with
      blind := .fallback, blindHold := none, levelSince := since, heaterDemand := false
      level := if s.site.mode = .standby then s.cooling.level else h.fallback } := by
  unfold expireBlindHold
  dsimp only
  rw [post_course, setHeaterDemand_course, hc]
  split
  next hm =>
    have hmode : s.site.mode = .standby := hm
    exact ⟨s.cooling.levelSince, by rw [if_pos hmode]; rfl⟩
  next hm =>
    have hmode : s.site.mode ≠ .standby := hm
    exact ⟨s.now, by rw [setLevel_course, if_neg hmode]; rfl⟩

theorem expireBlindHold_counter (s : State) :
    (expireBlindHold s).site.postCounter = s.site.postCounter + 1 := by
  unfold expireBlindHold
  dsimp only
  rw [post_counter]
  refine congrArg (· + 1) (congrArg Site.postCounter (sameBut_site (s := s)
    (A := [.cooling, .balance, .ring]) ?_ (by simp)))
  split <;> simp [sameBut_refl]

/-- Settles O42. -/
theorem outputsAreComposedAndProved : Obligations.OutputsAreComposedAndProved := by
  unfold Obligations.OutputsAreComposedAndProved
  refine ⟨?composed, ?feedback, ?proof, ?hold⟩
  case composed =>
    intro s failed named open_
    refine ⟨?_, ?_, ?_, ?_, ?_⟩
    · simp [State.composedCommand, named, failed]
    · rintro o (rfl | rfl | rfl) <;> simp [State.composedCommand, named, failed, open_]
    · rintro o (rfl | rfl) <;> simp [State.composedCommand, named, failed, open_, and_assoc]
    · have hcompressor : s.composedCommand .heater = (s.cooling.heaterDemand &&
          decide ((s.cooling.outputs.get .heater).status ≠ .failed) &&
          decide (s.cooling.ventilation ≠ .sealedMode) && !s.composedCommand .compressor1 &&
          !s.composedCommand .compressor2 && !(s.cooling.outputs.get .compressor1).feedback &&
          !(s.cooling.outputs.get .compressor2).feedback) := rfl
      rw [hcompressor]
      simp only [failed, open_, Bool.and_eq_true, Bool.not_eq_true', decide_eq_true_eq,
        forall_eq_or_imp, forall_eq]
      tauto
    · simp [State.composedCommand, failed]
  case feedback =>
    intro s o on
    refine ⟨arbitrate (changeOutputFeedback o on s), rfl, ?_, ?_⟩
    · simp [sameBut_refl]
    · intro p x y
      obtain ⟨command, hout, hcommand⟩ := changeOutputFeedback_output o on s p
      have hy : y = (changeOutputFeedback o on s).cooling.outputs.get p := by
        rw [← arbitrate_cooling]
      have hcomposed : (arbitrate (changeOutputFeedback o on s)).composedCommand p = command := by
        rw [hcommand]
        exact SameInputs.composedCommand ⟨table_congr (arbitrate_tables _) _,
          by rw [arbitrate_cooling], by rw [arbitrate_cooling], by rw [arbitrate_cooling],
          fun _ => by rw [arbitrate_cooling], fun _ => by rw [arbitrate_cooling]⟩ p
      rw [hcomposed, hy, hout]
      exact ⟨rfl, rfl, rfl, rfl⟩
  case proof =>
    intro s o since hp hdue
    have hnow : s.proofIsDue o = true := by
      simp only [State.proofIsDue, hp, dueOption]
      exact (reached_iff _ _ _).2 hdue
    exact ⟨_, (exec_proofTimerExpiry o s).trans (moveWhen_of hnow), expireProof_settled o s⟩
  case hold =>
    intro s h since hc hs hdue
    have hnow : s.blindHoldIsDue = true := by
      simp only [State.blindHoldIsDue, hc, hs, dueOption]
      exact (reached_iff _ _ _).2 hdue
    obtain ⟨began, hcourse⟩ := expireBlindHold_course hc
    rw [← course_of_cooling (arbitrate_cooling _)] at hcourse
    refine ⟨_, (exec_blindHoldTimerExpiry s).trans (actWhen_of hnow),
      congrArg CoolingCourse.blind hcourse, congrArg CoolingCourse.blindHold hcourse,
      congrArg CoolingCourse.heaterDemand hcourse, congrArg CoolingCourse.level hcourse, ?_, ?_⟩
    · rw [arbitrate_postCounter, expireBlindHold_counter]
    · simp [sameBut_refl]

end Sys2Proof.Machine

namespace Sys2Proof.Machine

variable {may : Liberty → Prop} {u s t : State}

/-! ## What the resets of the blocks leave -/

theorem entries_congr (h : t.tables = s.tables) : t.entries = s.entries := by
  simp only [State.entries, State.table, h]

theorem startRing_idle (h : s.ring.phase = .idle) : (startRing s).ring =
    { s.ring with phase := if s.isActive .slot then .due else .idle } := by
  unfold startRing
  by_cases ha : s.isActive .slot = true
  · rw [if_pos (by simp [h, ha]), if_pos ha]
    rfl
  · rw [if_neg (by simp [ha]), if_neg ha, ← h]

/-- The ring after a reset (R22). -/
theorem blocksReset_ring (s : State) : (blocksReset s).ring =
    { Ring.initial with
      nodes := s.entries.map .fresh
      phase := if s.isActive .slot then .due else .idle } := by
  let y := converterReset (switchReset (siteReset (s.withNow 0)))
  have hring : (blocksReset s).ring = (ringReset y).ring :=
    sameBut_ring (s := ringReset y) (A := [.samples, .cooling, .fire, .limits])
      (by unfold blocksReset; simp [sameBut_refl, y]) (by simp)
  rw [hring, ringReset, startRing_idle rfl]
  rfl

theorem blocksReset_balance (s : State) : (blocksReset s).balance = s.balance :=
  (sameBut_balance (blocksReset_sameBut s) (by simp)).trans rfl

theorem blocksReset_now (s : State) : (blocksReset s).now = 0 :=
  (blocksReset_sameBut s .now (by simp)).trans rfl

theorem blocksReset_choices (s : State) : (blocksReset s).choices = s.choices :=
  (blocksReset_sameBut s .choices (by simp)).trans rfl

theorem blocksReset_pending (s : State) : (blocksReset s).pending = s.pending :=
  (blocksReset_sameBut s .pending (by simp)).trans rfl

theorem blocksReset_converter (s : State) : (blocksReset s).converter =
    .afterReset 0 (s.isActive .grid) s.converter.breakerClosed :=
  (sameBut_converter (blocksReset_sameBut s) (by simp)).trans rfl

/-- The blocks reset before the cooling controller leave it, the fire unit and the limits. -/
theorem samplesReset_sameBut (s : State) :
    (s.withNow 0).sameBut
      (samplesReset (ringReset (converterReset (switchReset (siteReset (s.withNow 0))))))
      [.ring, .samples, .sequencer, .converter, .site] := by
  unfold converterReset switchReset siteReset
  simp [sameBut_refl]

/-- The last three blocks to be reset. -/
theorem blocksReset_staged (s : State) : ∃ y, (s.withNow 0).sameBut y
    [.ring, .samples, .sequencer, .converter, .site] ∧
      blocksReset s = limitsReset (fireReset (coolingReset y)) :=
  ⟨_, samplesReset_sameBut s, rfl⟩

theorem blocksReset_cooling (s : State) : (blocksReset s).cooling =
    { Cooling.initial with
      levelSince := 0
      interval := if s.isActive .cool then some 0 else none
      outputs := s.cooling.outputs.mapWith fun _ x =>
        { OutputState.initial with
          feedback := x.feedback
          proof := if x.feedback then some 0 else none }
      allowance := match s.cool with
        | some h => h.normalAllowance
        | none => 0 } := by
  obtain ⟨y, h, hy⟩ := blocksReset_staged s
  have ht : y.tables = s.tables := h .tables (by simp)
  have hc : y.cooling = s.cooling := h .cooling (by simp)
  have hnow : y.now = 0 := h .now (by simp)
  have hcool : y.cool = s.cool := by rw [State.cool, table_congr ht]; rfl
  rw [hy]
  show (coolingReset y).cooling = _
  rw [coolingReset, State.withCooling_cooling, hnow, isActive_congr ht, hc, hcool] <;> rfl

theorem blocksReset_fire (s : State) : ∃ fault, (blocksReset s).fire =
    { s.fire.afterReset 0 with gasFault := fault } ∧
      (s.entriesOfKind .plant = [] → fault = true) := by
  obtain ⟨y, h, hy⟩ := blocksReset_staged s
  have ht : (coolingReset y).tables = s.tables := h .tables (by simp)
  have hf : (coolingReset y).fire = s.fire := h .fire (by simp)
  have hnow : (coolingReset y).now = 0 := h .now (by simp)
  rw [hy]
  generalize coolingReset y = z at ht hf hnow
  refine ⟨(z.withFire (z.fire.afterReset z.now)).gasFaultCondition, ?_, fun hnone => ?_⟩
  · rw [limitsReset, State.withLimits_fire, fireReset, refreshGasFault, State.withFire_fire,
      State.withFire_fire, hf, hnow]
  · have hplant : (z.withFire (z.fire.afterReset z.now)).entriesOfKind .plant = [] := by
      have he : (z.withFire (z.fire.afterReset z.now)).entries = s.entries := entries_congr ht
      rw [State.entriesOfKind, he]
      exact hnone
    rw [State.gasFaultCondition, hplant]
    rfl

/-- The limit computer after a reset: the zero conditions are those that stand then. -/
theorem blocksReset_limits (s : State) : (blocksReset s).limits =
    { s.limits with
      container := ⟨0, 0⟩
      zeros := ⟨!s.isActive .grid, true, false, false, false⟩ } := by
  have hseq := blocksReset_sequencer s
  have hconv := blocksReset_converter s
  have hrests := blocksReset_rackState s
  obtain ⟨fault, hfire, -⟩ := blocksReset_fire s
  obtain ⟨y, h, hy⟩ := blocksReset_staged s
  have ht : (fireReset (coolingReset y)).tables = s.tables := h .tables (by simp)
  have hl : (fireReset (coolingReset y)).limits = s.limits := h .limits (by simp)
  rw [hy] at hseq hconv hfire hrests ⊢
  generalize fireReset (coolingReset y) = z at *
  have hracks : z.connectedRacks = [] := by
    rw [State.connectedRacks, List.filter_eq_nil_iff]
    intro r _
    have hr : (z.rackState r).rests = true := hrests r
    simp only [decide_eq_true_eq]
    intro hc
    rw [hc] at hr
    cases hr
  have hhold : z.sequencer.hold = false := congrArg (·.hold) hseq
  have hsilent : z.converter.silent = false := congrArg (·.silent) hconv
  have hburning : z.fire.stage.burning = false := congrArg (·.stage.burning) hfire
  rw [limitsReset, State.withLimits_limits, hl]
  unfold State.zeroConditions
  rw [isActive_congr ht, hracks, hhold, hsilent, hburning]
  rfl

theorem refreshBlind_unloaded {r : Rack} (ht : s.tables = .initial)
    (hs : s.samples = .initial) : refreshBlind r s = s := by
  have hj : s.junctionOf r = none := by
    simp [State.junctionOf, State.entries, State.table, ht, Tables.initial, TableState.empty,
      PerTable.fill, PerTable.get]
  have hc : s.blindCondition r = false := by
    rw [State.blindCondition, hj, State.rackRecords, hs]
    cases r <;> rfl
  have hb : (s.samples.racks.get r).blind = false := by
    rw [hs]
    cases r <;> rfl
  unfold refreshBlind
  dsimp only
  rw [hc, hb, if_pos rfl]

theorem blocksReset_samples_unloaded (ht : s.tables = .initial) :
    (blocksReset s).samples = .initial := by
  obtain ⟨y, hy, hsamples⟩ : ∃ y : State, y.tables = .initial ∧
      (blocksReset s).samples = (samplesReset y).samples := by
    refine ⟨ringReset (converterReset (switchReset (siteReset (s.withNow 0)))), ?_, ?_⟩
    · rw [← ht]
      exact sameBut_tables (s := converterReset (switchReset (siteReset (s.withNow 0))))
        (A := [.ring]) (by simp [sameBut_refl]) (by simp)
    · exact sameBut_samples (A := [.cooling, .fire, .limits])
        (by unfold blocksReset coolingReset; simp [sameBut_refl]) (by simp)
  have hentries : y.entries = [] := by
    simp [State.entries, State.table, hy, Tables.initial, TableState.empty, PerTable.fill,
      PerTable.get]
  rw [hsamples, samplesReset]
  dsimp only
  rw [hentries, List.map_nil]
  suffices h : ∀ x : State, x.tables = .initial → x.samples = .initial →
      forRacks Rack.all refreshBlind x = x by
    rw [h (y.withSamples { Samples.initial with records := recordsOf [], nodes := [] }) hy rfl]
    rfl
  intro x hx hxs
  exact forRacks_keeps (P := fun z => z = x) (fun r _ z hz => by
    rw [hz]
    exact refreshBlind_unloaded hx hxs) rfl

/-! ## POWER_ON_RESET with inputs at rest (O14) -/

theorem exec_powerOnReset (s : State) :
    exec .powerOnReset s = .next (arbitrate (settle (resetBlocks (losePower s)))) := rfl

theorem exec_pinReset (s : State) :
    exec .pinReset s = .next (arbitrate (settle (resetBlocks (keepTables s)))) := rfl

theorem exec_commandReset (s : State) : exec .commandReset s =
    moveWhen (s.site.reset = .due) (fun x => resetBlocks (keepTables x)) s := rfl

/-- A rack whose contactors read open stands OPEN after a reset (R145). -/
theorem afterReset_open (now : PartTime) (n : Nat) {x : RackSwitch} (hm : x.mainClosed = false)
    (hp : x.prechargeClosed = false) :
    x.afterReset now n = { RackSwitch.initial with hardBreaks := n } := by
  have hb : x.bothOpen = true := by simp [RackSwitch.bothOpen, hm, hp]
  simp only [RackSwitch.afterReset, hb, hm, hp, if_true]
  rfl

theorem weldedAtReset_none (h : ∀ r, (s.sequencer.racks.get r).faultKind = none) :
    weldedAtReset s = s := by
  have : (Rack.all.filter fun r => (s.sequencer.racks.get r).faultKind = some .welded) = [] := by
    rw [List.filter_eq_nil_iff]
    intro r _
    simp [h r]
  rw [weldedAtReset, this]
  rfl

/-- The power-on reset with every input at rest. -/
theorem blocksReset_powerOn
    (hr : ∀ r, (s.sequencer.racks.get r).mainClosed = false ∧
      (s.sequencer.racks.get r).prechargeClosed = false)
    (ho : ∀ o, (s.cooling.outputs.get o).feedback = false)
    (hl : ∀ l, (s.fire.lines.get l).reading = .normal) (hb : s.converter.breakerClosed = false) :
    blocksReset (losePower s) =
      { State.reset with choices := s.choices, pending := s.pending } := by
  have ht : (losePower s).tables = .initial := rfl
  have hinactive : ∀ n, (losePower s).isActive n = false := fun n => by cases n <;> rfl
  have hentries : (losePower s).entries = [] := rfl
  refine State.ext_parts fun b => ?_
  cases b
  case now => exact blocksReset_now _
  case ring =>
    refine (blocksReset_ring _).trans ?_
    rw [hentries, hinactive]
    rfl
  case samples => exact blocksReset_samples_unloaded ht
  case limits =>
    refine (blocksReset_limits _).trans ?_
    rw [hinactive]
    rfl
  case balance => exact blocksReset_balance _
  case cooling =>
    refine (blocksReset_cooling _).trans ?_
    have houtputs : ((losePower s).cooling.outputs.mapWith fun _ x =>
        ({ OutputState.initial with
          feedback := x.feedback
          proof := if x.feedback then some 0 else none } : OutputState)) = .fill .initial := by
      refine PerOutput.ext_get fun o => ?_
      rw [PerOutput.get_mapWith, PerOutput.get_fill, show (losePower s).cooling = s.cooling from rfl,
        ho o]
      rfl
    rw [hinactive, houtputs]
    rfl
  case fire =>
    obtain ⟨fault, hf, hfault⟩ := blocksReset_fire (losePower s)
    refine hf.trans ?_
    have hlines : ((losePower s).fire.lines.mapWith fun _ l =>
        ({ LineState.initial with } : LineState).read 0 l.reading) = .fill .initial := by
      refine PerLine.ext_get fun l => ?_
      rw [PerLine.get_mapWith, PerLine.get_fill, show (losePower s).fire = s.fire from rfl, hl l]
      rfl
    rw [Fire.afterReset, hlines, hfault rfl]
    rfl
  case sequencer =>
    refine (blocksReset_sequencer _).trans ?_
    have hracks : ((losePower s).sequencer.racks.mapWith fun _ x => x.afterReset 0 x.hardBreaks) =
        .fill .initial := by
      refine PerRack.ext_get fun r => ?_
      have hx : (losePower s).sequencer.racks.get r =
          { s.sequencer.racks.get r with hardBreaks := 0 } := by
        exact PerRack.get_mapWith _ _ _
      obtain ⟨hm, hp⟩ := hr r
      rw [PerRack.get_mapWith, PerRack.get_fill, hx]
      exact (afterReset_open 0 0 (x := { s.sequencer.racks.get r with hardBreaks := 0 }) hm hp).trans
        rfl
    have hreset : (switchReset ((losePower s).withNow 0)).sequencer =
        { Sequencer.initial with
          racks := (losePower s).sequencer.racks.mapWith
            (fun _ x => x.afterReset 0 x.hardBreaks) } := rfl
    rw [hreset, hracks]
    rfl
  case trips => exact blocksReset_trips _
  case converter =>
    refine (blocksReset_converter _).trans ?_
    rw [hinactive, show (losePower s).converter = s.converter from rfl, hb]
    rfl
  case tables => exact blocksReset_tables _
  case site =>
    refine (blocksReset_site _).trans ?_
    rfl
  case choices => exact blocksReset_choices _
  case pending => exact blocksReset_pending _

/-- Settles O14. -/
theorem powerOnResetGivesResetState : Obligations.PowerOnResetGivesResetState := by
  unfold Obligations.PowerOnResetGivesResetState
  intro s hr ho hl hb
  rw [exec_powerOnReset, resetBlocks_eq, blocksReset_powerOn hr ho hl hb]
  rw [weldedAtReset_none fun r => by cases r <;> rfl]
  have hsettled : State.Settled { State.reset with choices := s.choices, pending := s.pending } :=
    ⟨fun h => Bool.noConfusion (show false = true from h), rfl,
      fun h => Bool.noConfusion (show false = true from h)⟩
  rw [settle_stays hsettled]
  rfl

/-! ## The ring after any reset (O15) -/

theorem settle_ring (s : State) :
    (settle s).ring = { s.ring with cycleLength := (settle s).ring.cycleLength } := by
  have h : { (settle s).ring with cycleLength := 0 } = { s.ring with cycleLength := 0 } :=
    congrArg (·.1) (settle_steady s)
  simp only [Ring.mk.injEq] at h
  generalize (settle s).ring = x at h ⊢
  obtain ⟨h1, h2, h3, -, h5, h6, h7, h8, h9, h10, h11, h12⟩ := h
  cases x
  simp_all

theorem entries_of_table (h : t.table .slot = s.table .slot) : t.entries = s.entries := by
  simp only [State.entries, h]

/-- A step that ends a reset leaves the ring at its reset value, under the SLOT table in force. -/
theorem reset_ring (s : State) : ∃ n, (arbitrate (settle (resetBlocks s))).ring =
    { Ring.initial with
      nodes := (arbitrate (settle (resetBlocks s))).entries.map .fresh
      phase := if (arbitrate (settle (resetBlocks s))).isActive .slot then .due else .idle
      cycleLength := n } := by
  have hwelded : (blocksReset s).sameBut (resetBlocks s)
      [.limits, .sequencer, .trips, .converter, .site, .choices] := by
    rw [resetBlocks_eq]
    simp [sameBut_refl]
  have htable : (arbitrate (settle (resetBlocks s))).table .slot = s.table .slot := by
    rw [table_congr (arbitrate_tables _), settle_table_ne (by decide),
      table_congr (sameBut_tables hwelded (by simp)), table_congr (blocksReset_tables s)]
  have hactive : (arbitrate (settle (resetBlocks s))).isActive .slot = s.isActive .slot := by
    rw [State.isActive, htable, State.isActive]
  refine ⟨(settle (resetBlocks s)).ring.cycleLength, ?_⟩
  rw [arbitrate_ring, settle_ring, sameBut_ring hwelded (by simp), blocksReset_ring,
    entries_of_table htable, hactive]

/-- Settles O15. -/
theorem resetsClearTheRing : Obligations.ResetsClearTheRing := by
  unfold Obligations.ResetsClearTheRing
  intro s t h
  obtain ⟨x, hx⟩ : ∃ x, t = arbitrate (settle (resetBlocks x)) := by
    rw [exec_powerOnReset, exec_pinReset] at h
    refine h.elim (fun h => ⟨losePower s, (Host.Outcome.next.inj h).symm⟩) fun h =>
      h.elim (fun h => ⟨keepTables s, (Host.Outcome.next.inj h).symm⟩) fun ⟨hdue, h⟩ => ?_
    rw [exec_commandReset, moveWhen_of (by simp [hdue])] at h
    exact ⟨keepTables s, (Host.Outcome.next.inj h).symm⟩
  obtain ⟨n, hring⟩ := reset_ring x
  rw [← hx] at hring
  rw [hring]
  refine ⟨rfl, rfl, rfl, rfl, rfl, rfl, rfl, rfl, rfl, rfl, List.map_congr_left fun e _ => ?_⟩
  rfl

end Sys2Proof.Machine

namespace Sys2Proof.Machine

variable {may : Liberty → Prop} {u s t : State}

/-! ## The WELDED causes of a reset (R145) -/

/-- Every rack stands OPEN, LOCKED or in FAULT, and what a cause WELDED then leaves is as in `u`: the
limit computer, the mode, the hard breaks, and every rack that was in FAULT. -/
structure State.Resting (u s : State) : Prop where
  limits : s.limits = u.limits
  mode : s.site.mode = u.site.mode
  hold : s.sequencer.hold = false
  rests : ∀ r, (s.rackState r).rests = true
  hardBreaks : ∀ r, (s.sequencer.racks.get r).hardBreaks = (u.sequencer.racks.get r).hardBreaks
  faults : ∀ r, u.rackState r = .fault → s.sequencer.racks.get r = u.sequencer.racks.get r

theorem State.Resting.of_same (h : State.Resting u s) (hl : t.limits = s.limits)
    (hm : t.site.mode = s.site.mode) (hs : t.sequencer = s.sequencer) : State.Resting u t where
  limits := hl.trans h.limits
  mode := hm.trans h.mode
  hold := by rw [hs]; exact h.hold
  rests r := by rw [rackState_eq_of_sequencer hs]; exact h.rests r
  hardBreaks r := by rw [hs]; exact h.hardBreaks r
  faults r hr := by rw [hs]; exact h.faults r hr

theorem State.Resting.posted (h : State.Resting u s) (e : Event) :
    State.Resting u (judgePermit (post e s)) :=
  h.of_same (sameBut_limits (A := [.converter, .site]) (by simp [sameBut_refl]) (by simp))
    (by rw [sameBut_site (s := post e s) (A := [.converter]) (by simp [sameBut_refl]) (by simp),
      post_mode])
    (sameBut_sequencer (A := [.converter, .site]) (by simp [sameBut_refl]) (by simp))

theorem rests_switching {x : RackState} (h : x.rests = true) : x.switching = false := by
  cases x <;> first | rfl | cases h

/-- With every rack at rest a rack that turns LOCKED moves nothing else. -/
theorem lockOpen_calm {r : Rack} (kind : TripKind) (hr : s.rackState r = .opened)
    (hrests : ∀ k, (s.rackState k).rests = true) : ∃ e, lockOpen r kind s =
      judgePermit (post e (s.setRackSwitch r
        (({ s.sequencer.racks.get r with state := .locked } : RackSwitch).rewatch s.now))) := by
  unfold lockOpen changeRack
  dsimp only
  rw [hr, if_neg (by decide)]
  simp only [reduceCtorEq, if_false, decide_false, Bool.false_or]
  generalize hz : post _ (s.setRackSwitch r _) = z
  have hcalm : z.anySwitching = false := by
    rw [State.anySwitching, List.any_eq_false]
    intro k _
    have hk : (z.rackState k).rests = true := by
      rw [← hz, post_rackState, State.rackState, State.setRackSwitch_sequencer, PerRack.get_set]
      split
      · rfl
      · exact hrests k
    simp [rests_switching hk]
  have hstart : startHold z = z := by
    unfold startHold
    rw [hcalm]
    rfl
  rw [hstart, if_neg (by simp)]
  exact ⟨_, by rw [← hz]⟩

theorem lockOpen_resting {r : Rack} (kind : TripKind) (hr : s.rackState r = .opened)
    (h : State.Resting u s) : State.Resting u (lockOpen r kind s) := by
  obtain ⟨e, he⟩ := lockOpen_calm kind hr h.rests
  rw [he]
  have hracks : ∀ k, (s.setRackSwitch r (({ s.sequencer.racks.get r with
      state := .locked } : RackSwitch).rewatch s.now)).sequencer.racks.get k =
        if k = r then ({ s.sequencer.racks.get r with state := .locked } : RackSwitch).rewatch s.now
        else s.sequencer.racks.get k := fun k => by
    rw [State.setRackSwitch_sequencer, PerRack.get_set]
  have hlocked : State.Resting u (s.setRackSwitch r (({ s.sequencer.racks.get r with
      state := .locked } : RackSwitch).rewatch s.now)) := by
    refine ⟨h.limits, h.mode, h.hold, fun k => ?_, fun k => ?_, fun k hk => ?_⟩
    · rw [State.rackState, hracks]
      split
      · rfl
      · exact h.rests k
    · rw [hracks]
      split
      next hkr => rw [hkr]; exact h.hardBreaks r
      next => exact h.hardBreaks k
    · rw [hracks, if_neg]
      · exact h.faults k hk
      · rintro rfl
        have : s.rackState k = u.rackState k := congrArg RackSwitch.state (h.faults k hk)
        rw [hr, hk] at this
        cases this
  exact hlocked.posted e

theorem immediateOrder_resting (kind : TripKind) (r : Rack) (h : State.Resting u s) :
    State.Resting u (immediateOrder kind r s) := by
  have hr := h.rests r
  unfold immediateOrder
  split
  all_goals first
    | exact h
    | exact lockOpen_resting kind (by assumption) h
    | (rename_i hs; rw [hs] at hr; cases hr)

theorem takeCause_resting {kind : TripKind} (hk : kind.tripClass = .immediate) (named : Option Rack)
    (data : CauseData) (h : State.Resting u s) : State.Resting u (takeCause kind named data s) := by
  have h1 : State.Resting u (writeRecord (recordOf kind named data s) (setLatch kind named data s)) := by
    cases named <;> exact h.of_same rfl rfl rfl
  have h2 : State.Resting u (order kind (namedRacks named)
      (writeRecord (recordOf kind named data s) (setLatch kind named data s))) := by
    unfold order
    rw [hk]
    exact forRacks_keeps (P := State.Resting u) (fun r _ x hx => immediateOrder_resting kind r hx) h1
  unfold takeCause
  dsimp only
  have h3 : State.Resting u (if kind.tripsBreaker then requestPulse (order kind (namedRacks named)
      (writeRecord (recordOf kind named data s) (setLatch kind named data s)))
      else order kind (namedRacks named)
        (writeRecord (recordOf kind named data s) (setLatch kind named data s))) := by
    split
    · have hf : ∀ x : State, x.sameBut (requestPulse x) [.converter] := fun x => by
        simp [sameBut_refl]
      exact h2.of_same (sameBut_limits (hf _) (by simp))
        (congrArg Site.mode (sameBut_site (hf _) (by simp))) (sameBut_sequencer (hf _) (by simp))
    · exact h2
  generalize (if kind.tripsBreaker then _ else _) = x at h3 ⊢
  have h4 : ∀ e : Event, State.Resting u (judgeFlags false (post e x)) := fun e =>
    h3.of_same (sameBut_limits (A := [.converter, .site]) (by simp [sameBut_refl]) (by simp))
      (by rw [sameBut_site (s := post e x) (A := [.converter]) (by simp [sameBut_refl]) (by simp),
        post_mode])
      (sameBut_sequencer (A := [.converter, .site]) (by simp [sameBut_refl]) (by simp))
  unfold handLatch
  refine inAnyOrder_keeps (P := State.Resting u) (fun _ _ h => h.of_same rfl rfl rfl)
    (fun act ha y hy => ?_) (h4 _)
  simp only [List.mem_cons, List.not_mem_nil, or_false] at ha
  rcases ha with rfl | rfl
  · exact hy.of_same (sameBut_limits (A := [.converter]) (by simp [sameBut_refl]) (by simp))
      (congrArg Site.mode (sameBut_site (A := [.converter]) (by simp [sameBut_refl]) (by simp)))
      (sameBut_sequencer (A := [.converter]) (by simp [sameBut_refl]) (by simp))
  · exact hy.of_same rfl rfl rfl

theorem takeWeldedOf_resting (r : Rack) (h : State.Resting u s) :
    State.Resting u (takeWeldedOf r s) := by
  have hp := pickFree_sameBut (s.sequencer.racks.get r).closedContactors s
  have h1 : State.Resting u (pickFree (s.sequencer.racks.get r).closedContactors s).2 :=
    h.of_same (sameBut_limits hp (by simp)) (congrArg Site.mode (sameBut_site hp (by simp)))
      (sameBut_sequencer hp (by simp))
  unfold takeWeldedOf
  split
  next c s1 he => rw [he] at h1; exact takeCause_resting rfl none _ h1
  next s1 he => rw [he] at h1; exact h1

theorem weldedAtReset_resting (h : State.Resting u s) : State.Resting u (weldedAtReset s) := by
  refine inAnyOrder_keeps (P := State.Resting u) (fun _ _ h => h.of_same rfl rfl rfl)
    (fun act ha y hy => ?_) h
  obtain ⟨r, -, rfl⟩ := List.mem_map.1 ha
  exact takeWeldedOf_resting r hy

/-- A resting sequencer whose WELDED latch is not acknowledged is settled. -/
theorem State.Resting.settled (h : State.Resting u s)
    (hw : s.trips.container.welded.acknowledged = false) : s.Settled where
  welded _ := by simp [State.containerGone, ContainerLatches.latch, hw]
  granted := by
    unfold State.grantable
    split
    · rfl
    · rw [List.find?_eq_none]
      intro r _
      have hr := h.rests r
      intro hc
      simp only [Bool.and_eq_true, decide_eq_true_eq] at hc
      rw [hc.2] at hr
      cases hr
  hold hh := by rw [h.hold] at hh; cases hh

/-! ## PIN_RESET and COMMAND_RESET (O16) -/

theorem afterReset_hardBreaks (now : PartTime) (n : Nat) (x : RackSwitch) :
    (x.afterReset now n).hardBreaks = n := rfl

/-- The blocks at their reset values rest. -/
theorem blocksReset_resting (s : State) : State.Resting (blocksReset s) (blocksReset s) where
  limits := rfl
  mode := rfl
  hold := congrArg (·.hold) (blocksReset_sequencer s)
  rests := blocksReset_rackState s
  hardBreaks _ := rfl
  faults _ _ := rfl

/-- A rack whose contactor reads closed stands in FAULT WELDED after a reset (R145). -/
theorem afterReset_closed {now : PartTime} {n : Nat} {x : RackSwitch} (h : x.bothOpen = false) :
    (x.afterReset now n).state = .fault ∧ (x.afterReset now n).faultKind = some .welded ∧
      (x.afterReset now n).closedContactors = x.closedContactors := by
  unfold RackSwitch.afterReset
  rw [h]
  exact ⟨rfl, rfl, rfl⟩

theorem closedContactors_ne_nil {x : RackSwitch} (h : x.bothOpen = false) :
    x.closedContactors ≠ [] := by
  unfold RackSwitch.bothOpen at h
  unfold RackSwitch.closedContactors
  cases hm : x.mainClosed <;> cases hp : x.prechargeClosed <;> simp_all

/-- The cause WELDED of a rack that reads closed. -/
theorem takeWeldedOf_taken {r : Rack} (h : (s.sequencer.racks.get r).closedContactors ≠ [])
    (hp : s.converter.pulse ≠ .failed) :
    (takeWeldedOf r s).trips.container.welded = ⟨true, false⟩ ∧
      (takeWeldedOf r s).converter.pulse = .pulsing := by
  obtain ⟨-, hsome, -⟩ := pickFree_spec (s.sequencer.racks.get r).closedContactors s
  have hsame := pickFree_sameBut (s.sequencer.racks.get r).closedContactors s
  unfold takeWeldedOf
  split
  next c s1 he =>
    rw [he] at hsame
    have hp1 : s1.converter.pulse ≠ .failed := by
      rw [sameBut_converter hsame (by simp)]
      exact hp
    exact ⟨takeCause_container (kind := .welded) rfl _ s1,
      (takeCause_pulse (kind := .welded) rfl _ _ s1).trans (if_neg hp1)⟩
  next s1 he =>
    rw [he] at hsome
    cases hsome h

theorem weldedAtReset_taken {r : Rack} (h : State.Resting u s) (hu : u.rackState r = .fault)
    (hk : (s.sequencer.racks.get r).faultKind = some .welded)
    (hc : (u.sequencer.racks.get r).closedContactors ≠ []) (hp : s.converter.pulse ≠ .failed) :
    (weldedAtReset s).trips.container.welded = ⟨true, false⟩ ∧
      (weldedAtReset s).converter.pulse = .pulsing := by
  have hmem : takeWeldedOf r ∈ (Rack.all.filter fun r =>
      (s.sequencer.racks.get r).faultKind = some .welded).map takeWeldedOf :=
    List.mem_map_of_mem (List.mem_filter.2 ⟨Rack.mem_all r, by simp [hk]⟩)
  refine inAnyOrder_reaches
    (P := fun x => x.trips.container.welded = ⟨true, false⟩ ∧ x.converter.pulse = .pulsing)
    (Q := fun x => State.Resting u x ∧ x.converter.pulse ≠ .failed)
    (fun _ _ h => h) (fun _ _ h => ⟨h.1.of_same rfl rfl rfl, h.2⟩) hmem (fun act ha x hx => ?_)
    (fun act ha x hx => ?_) (fun x hx => ?_) ⟨h, hp⟩
  · obtain ⟨k, -, rfl⟩ := List.mem_map.1 ha
    refine ⟨takeWeldedOf_resting k hx.1, ?_⟩
    rcases (takeWeldedOf_moves (may := nothing) (.refl x) k).pulse with he | ⟨-, he⟩
    · rw [he]; exact hx.2
    · rw [he]; decide
  · obtain ⟨k, -, rfl⟩ := List.mem_map.1 ha
    have hm := takeWeldedOf_moves (may := nothing) (.refl x) k
    exact ⟨hm.container_taken (k := .welded) id hx.1, hm.pulse_pulsing hx.2⟩
  · exact takeWeldedOf_taken (by rw [hx.1.faults r hu]; exact hc) hx.2

theorem weldedAtReset_settled (h : State.Resting s s)
    (hw : s.trips.container.welded.acknowledged = false) :
    settle (weldedAtReset s) = weldedAtReset s := by
  have hm : Moves nothing s (weldedAtReset s) := weldedAtReset_moves (.refl s)
  have hrest := weldedAtReset_resting h
  generalize weldedAtReset s = t at hm hrest
  exact settle_stays (hrest.settled (hm.container_unacknowledged (k := .welded) hw))

theorem keepTables_unacknowledged (s : State) :
    (blocksReset (keepTables s)).trips.container.welded.acknowledged = false := by
  rw [blocksReset_trips]
  rfl

/-- Settles O16. -/
theorem resetsKeepTables : Obligations.ResetsKeepTables := by
  unfold Obligations.ResetsKeepTables
  intro c s hc
  have hexec : exec c s = .next (arbitrate (weldedAtReset (blocksReset (keepTables s)))) := by
    rw [← weldedAtReset_settled (blocksReset_resting _) (keepTables_unacknowledged s),
      ← resetBlocks_eq]
    rcases hc with rfl | ⟨rfl, hdue⟩
    · exact exec_pinReset s
    · rw [exec_commandReset, moveWhen_of (by simp [hdue])]
  refine ⟨_, hexec, ?_⟩
  have hrest := weldedAtReset_resting (blocksReset_resting (keepTables s))
  have hframe : (blocksReset (keepTables s)).sameBut (weldedAtReset (blocksReset (keepTables s)))
      [.limits, .sequencer, .trips, .converter, .site, .choices] := by simp [sameBut_refl]
  have htraffic := (weldedAtReset_moves (may := nothing) (.refl (blocksReset (keepTables s)))).traffic
  have hnone := weldedAtReset_none (s := blocksReset (keepTables s))
  have htaken := fun r => weldedAtReset_taken (r := r) (blocksReset_resting (keepTables s))
  have htables : (blocksReset (keepTables s)).tables = s.tables.afterReset := blocksReset_tables _
  have hsite : (blocksReset (keepTables s)).site = (siteReset ((keepTables s).withNow 0)).site :=
    blocksReset_site _
  have hkept : ∀ r, (blocksReset (keepTables s)).limits.racks.get r =
      (s.limits.racks.get r).kept := fun r => by
    rw [blocksReset_limits]
    exact PerRack.get_mapWith _ _ _
  have hbalance : (blocksReset (keepTables s)).balance = s.balance.afterReset 0 :=
    blocksReset_balance _
  have hracks : ∀ r, (blocksReset (keepTables s)).sequencer.racks.get r =
      (s.sequencer.racks.get r).afterReset 0 (s.sequencer.racks.get r).hardBreaks := fun r => by
    rw [blocksReset_sequencer, switchReset, State.withSequencer_sequencer]
    exact PerRack.get_mapWith _ _ _
  have htrips : (blocksReset (keepTables s)).trips = s.trips.afterReset := blocksReset_trips _
  have hpulse : (blocksReset (keepTables s)).converter.pulse = .idle := by
    rw [blocksReset_converter]
    rfl
  generalize blocksReset (keepTables s) = b at *
  refine ⟨fun n => ?_, ?_, ?_, ?_, ?_, fun r => ⟨?_, ?_, ?_, ?_, ?_⟩, ?_, fun hopen => ?_, fun r hr => ?_⟩
  · rw [table_congr (arbitrate_tables _), table_congr (sameBut_tables hframe (by simp)), State.table,
      htables]
    exact PerTable.get_mapWith _ _ _
  · rw [arbitrate_tables, sameBut_tables hframe (by simp), htables]
    rfl
  · rw [arbitrate_mode, hrest.mode, hsite]
    rfl
  · obtain ⟨hfifo, -⟩ := arbitrate_keeps (weldedAtReset b)
    rw [hfifo, htraffic.fifo, hsite]
    rfl
  · have hunsent := (arbitrate_unsentReplies (weldedAtReset b)).trans htraffic.unsentReplies
    rw [hsite] at hunsent
    exact (List.append_eq_nil_iff.1 hunsent).2
  · rw [arbitrate_limits, hrest.limits, hkept]
    rfl
  · rw [arbitrate_limits, hrest.limits, hkept]
    rfl
  · rw [arbitrate_limits, hrest.limits, hkept]
    rfl
  · rw [arbitrate_balance, sameBut_balance hframe (by simp), hbalance, Balance.afterReset,
      PerRack.get_mapWith]
  · rw [arbitrate_sequencer, hrest.hardBreaks, hracks, afterReset_hardBreaks]
  · rw [arbitrate_balance, sameBut_balance hframe (by simp), hbalance, Balance.afterReset,
      List.map_map]
    rfl
  · have hy : weldedAtReset b = b := hnone fun r => by
      obtain ⟨hm, hp⟩ := hopen r
      rw [hracks, afterReset_open _ _ hm hp]
      rfl
    rw [arbitrate_trips, arbitrate_converter, hy, htrips]
    exact ⟨rfl, rfl, rfl, hpulse, (by rw [Converter.tripOutput, hpulse]), rfl⟩
  · have hboth : (s.sequencer.racks.get r).bothOpen = false := by
      rcases hr with hr | hr <;> simp [RackSwitch.bothOpen, hr]
    obtain ⟨hstate, hkind, hclosed⟩ := afterReset_closed (now := 0)
      (n := (s.sequencer.racks.get r).hardBreaks) hboth
    rw [← hracks] at hstate hkind hclosed
    obtain ⟨hlatch, hpulsing⟩ := htaken r hstate hkind
      (by rw [hclosed]; exact closedContactors_ne_nil hboth) (by rw [hpulse]; decide)
    have hfault : (weldedAtReset b).sequencer.racks.get r = b.sequencer.racks.get r :=
      hrest.faults r hstate
    rw [State.rackState, arbitrate_sequencer, arbitrate_trips, arbitrate_converter, hfault]
    exact ⟨hstate, hkind, hlatch, hpulsing, by rw [Converter.tripOutput, hpulsing]⟩

end Sys2Proof.Machine

namespace Sys2Proof.Machine

variable {may : Liberty → Prop} {u s t : State}

/-! ## Changes of the part mode (R183) -/

theorem exec_setMode (tag : Byte) (arg : ModeArg) (s : State) :
    exec (.setMode tag arg) s = serve tag (.setMode arg) (answerSetMode arg) s := rfl

theorem exec_resetPart (tag : Byte) (s : State) :
    exec (.resetPart tag) s = serve tag .resetPart answerResetPart s := rfl

theorem exec_readStatus (tag : Byte) (s : State) :
    exec (.readStatus tag) s = serve tag .readStatus answerReadStatus s := rfl

/-- The five actions of a change of mode. -/
def modeActs (before after : Mode) (autonomous : Bool) (cause : ModeCause) : List (State → State) :=
  [post (.modeChange before after autonomous cause), produceContainerSummary,
    ringModeChange before after, balanceModeChange before after, coolingModeChange after]

theorem changeMode_acts {after : Mode} (h : s.site.mode ≠ after) (cause : ModeCause) :
    changeMode after cause s = inAnyOrder
      (modeActs s.site.mode after s.site.autonomous cause)
      (s.withSite { s.site with mode := after }) := by
  unfold changeMode
  exact if_neg h

/-- A property that each of the five actions keeps. -/
theorem modeActs_keep {P : State → Prop} {before after : Mode} {autonomous : Bool}
    {cause : ModeCause} (hsite : ∀ x y : State, x.sameBut y [.site] →
      y.site.mode = x.site.mode → P x → P y)
    (hring : ∀ x, P x → P (ringModeChange before after x))
    (hbalance : ∀ x, P x → P (balanceModeChange before after x))
    (hcooling : ∀ x, P x → P (coolingModeChange after x)) :
    ∀ act ∈ modeActs before after autonomous cause, ∀ x, P x → P (act x) := by
  intro act ha x hx
  simp only [modeActs, List.mem_cons, List.not_mem_nil, or_false] at ha
  rcases ha with rfl | rfl | rfl | rfl | rfl
  · exact hsite x _ (post_sameBut _ x) (post_mode _ x) hx
  · exact hsite x _ (by simp [sameBut_refl]) rfl hx
  · exact hring x hx
  · exact hbalance x hx
  · exact hcooling x hx

theorem changeMode_mode (after : Mode) (cause : ModeCause) (s : State) :
    (changeMode after cause s).site.mode = after := by
  by_cases h : s.site.mode = after
  · rw [changeMode, if_pos h, h]
  · rw [changeMode_acts h]
    refine inAnyOrder_keeps (P := fun x => x.site.mode = after) (fun _ _ h => h)
      (modeActs_keep (fun x y _ hm hx => hm.trans hx) (fun x hx => ?_) (fun x hx => ?_)
        fun x hx => ?_) rfl
    · rw [sameBut_site (s := x) (A := [.ring]) (by simp [sameBut_refl]) (by simp)]
      exact hx
    · rw [sameBut_site (s := x) (A := [.ring, .balance]) (by simp [sameBut_refl]) (by simp)]
      exact hx
    · rw [sameBut_site (s := x) (A := [.ring, .balance, .cooling]) (by simp [sameBut_refl]) (by simp)]
      exact hx

/-- Leaving STANDBY for RUN sets the unstretched length (R2). -/
theorem changeMode_run_length {h : SlotHeader} (hh : s.slotHeader = some h)
    (hm : s.site.mode = .standby) (cause : ModeCause) :
    (changeMode .run cause s).ring.cycleLength = h.cycleLength := by
  have hlength : ∀ x : State, x.tables = s.tables →
      (ringModeChange .standby .run x).ring.cycleLength = h.cycleLength := fun x hx => by
    have hx : x.slotHeader = some h := by
      rw [State.slotHeader, table_congr hx]
      exact hh
    unfold ringModeChange
    rw [hx]
    rfl
  have hcooling : ∀ x : State, coolingModeChange .run x = x := fun _ => rfl
  have hbalance : ∀ x : State, balanceModeChange .standby .run x = x := fun _ => rfl
  rw [changeMode_acts (by rw [hm]; decide), hm]
  have hring : ∀ x : State, x.sameBut (ringModeChange .standby .run x) [.ring] := fun x => by
    simp [sameBut_refl]
  suffices hboth : ∀ x : State, x.tables = s.tables → ∀ autonomous,
      (inAnyOrder (modeActs .standby .run autonomous cause) x).ring.cycleLength = h.cycleLength ∧
        (inAnyOrder (modeActs .standby .run autonomous cause) x).tables = s.tables from
    (hboth (s.withSite { s.site with mode := .run }) rfl s.site.autonomous).1
  intro x hx autonomous
  refine inAnyOrder_reaches
    (P := fun x => x.ring.cycleLength = h.cycleLength ∧ x.tables = s.tables)
    (Q := fun x => x.tables = s.tables) (fun _ _ h => h) (fun _ _ h => h)
    (a := ringModeChange .standby .run) (by simp [modeActs]) ?_ ?_ (fun x hx => ?_) hx
  · exact modeActs_keep (fun x y hs _ hx => (sameBut_tables hs (by simp)).trans hx)
      (fun x hx => (sameBut_tables (hring x) (by simp)).trans hx) (fun x hx => hx) fun x hx => hx
  · exact modeActs_keep (fun x y hs _ hx => ⟨by rw [sameBut_ring hs (by simp)]; exact hx.1,
        (sameBut_tables hs (by simp)).trans hx.2⟩)
      (fun x hx => ⟨hlength x hx.2, (sameBut_tables (hring x) (by simp)).trans hx.2⟩)
      (fun x hx => hx) fun x hx => hx
  · exact ⟨hlength x hx, (sameBut_tables (hring x) (by simp)).trans hx⟩

/-- Going to STANDBY takes the level to 0 (R101). -/
theorem changeMode_standby_level (h : s.site.mode ≠ .standby) (cause : ModeCause) :
    (changeMode .standby cause s).cooling.level = 0 := by
  have hlevel : ∀ x, (coolingModeChange .standby x).cooling.level = 0 := fun x =>
    congrArg CoolingCourse.level (setLevel_course 0 x)
  rw [changeMode_acts h]
  refine inAnyOrder_reaches (P := fun x => x.cooling.level = 0) (Q := fun _ => True)
    (fun _ _ h => h) (fun _ _ h => h) (a := coolingModeChange .standby) (by simp [modeActs])
    (fun _ _ _ h => h) ?_ (fun x _ => hlevel x) trivial
  refine modeActs_keep (fun x y hs _ hx => ?_) (fun x hx => ?_) (fun x hx => ?_) fun x _ => hlevel x
  · rw [sameBut_cooling hs (by simp)]
    exact hx
  · rw [sameBut_cooling (s := x) (A := [.ring]) (by simp [sameBut_refl]) (by simp)]
    exact hx
  · rw [sameBut_cooling (s := x) (A := [.ring, .balance]) (by simp [sameBut_refl]) (by simp)]
    exact hx

theorem boundActive_keeps {r : Rack} (h : s.NoneActive r) (allowance : Nat) :
    (boundActive allowance s).NoneActive r := by
  unfold boundActive
  dsimp only
  split
  · exact h
  · exact endActive_noneActive (.inl h)

theorem refreshAllowance_keeps {r : Rack} (h : s.NoneActive r) : (refreshAllowance s).NoneActive r := by
  unfold refreshAllowance
  dsimp only
  split
  · exact h
  · exact boundActive_keeps (s := s.withCooling { s.cooling with allowance := s.allowanceNow }) h _

/-- RUN left for STANDBY ends every ACTIVE record (R82). -/
theorem changeMode_standby_none (h : s.site.mode = .run) (cause : ModeCause) (r : Rack) :
    (changeMode .standby cause s).NoneActive r := by
  have hends : ∀ x, (balanceModeChange .run .standby x).NoneActive r := fun x =>
    endActive_noneActive (.inr fun _ _ => rfl)
  have same {A : List Block} {x y : State} (hs : x.sameBut y A) (hA : Block.balance ∉ A)
      (hx : x.NoneActive r) : y.NoneActive r := by
    unfold State.NoneActive
    rw [sameBut_balance hs hA]
    exact hx
  rw [changeMode_acts (by rw [h]; decide), h]
  refine inAnyOrder_reaches (P := fun x => x.NoneActive r) (Q := fun _ => True)
    (fun _ _ h => h) (fun _ _ h => h) (a := balanceModeChange .run .standby) (by simp [modeActs])
    (fun _ _ _ h => h) ?_ (fun x _ => hends x) trivial
  refine modeActs_keep (fun x y hs _ hx => same hs (by simp) hx)
    (fun x hx => same (A := [.ring]) (by simp [sameBut_refl]) (by simp) hx)
    (fun x _ => hends x) fun x hx => ?_
  exact refreshAllowance_keeps
    (s := composeCommands (x.withCooling { x.cooling with level := 0, levelSince := x.now })) hx

theorem racksIdle_iff (s : State) :
    s.racksIdle = true ↔ ∀ r, s.rackState r = .opened ∨ s.rackState r = .locked := by
  simp [State.racksIdle, List.all_eq_true]

theorem mayReset_iff (s : State) : s.mayReset = true ↔ s.fire.pulse = none ∧
    ∀ r, s.rackState r = .opened ∨ s.rackState r = .locked ∨ s.rackState r = .fault := by
  simp [State.mayReset, List.all_eq_true, and_comm, or_assoc]

/-- Settles O60. -/
theorem modeResetAndStatus : Obligations.ModeResetAndStatus := by
  unfold Obligations.ModeResetAndStatus
  refine ⟨?mode, ?reset, ?status⟩
  case mode =>
    intro tag arg rest s x refused idle ho
    have hrefused : ∀ result, answerSetMode arg (s.taking rest) =
        ⟨s.taking rest, result, .nothing⟩ → refused result := fun result h =>
      (exec_setMode tag arg s).trans (serve_answered ho h)
    have hidle : ((s.taking rest).racksIdle && (s.taking rest).quiet) = true ↔ idle := by
      rw [Bool.and_eq_true, racksIdle_iff]
      simp only [State.quiet, Bool.and_eq_true, decide_eq_true_eq]
      exact Iff.rfl
    have htaken : ∀ m, modeNamed arg = some m → s.site.mode ≠ .unconfigured → s.site.mode ≠ m →
        (m = .standby → idle) → exec (.setMode tag arg) s = .next (arbitrate
          (reply tag (.setMode arg) .ok .nothing (changeMode m .setMode (s.taking rest)))) := by
      intro m hm hu hne hi
      have hanswer : answerSetMode arg (s.taking rest) =
          ⟨changeMode m .setMode (s.taking rest), .ok, .nothing⟩ := by
        unfold answerSetMode
        simp only [hm]
        rw [if_neg (by exact hu), if_neg (by exact hne), if_neg]
        simp only [Bool.and_eq_true, decide_eq_true_eq, Bool.not_eq_true', not_and,
          Bool.not_eq_false]
        intro hs
        have := hidle.2 (hi hs)
        simpa using this
      rw [exec_setMode, serve_offered ho, takeRequest_offered ho, hanswer]
    refine ⟨fun h => hrefused _ (by rw [h]; rfl), fun h hu => hrefused _ ?_, fun h hm => hrefused _ ?_,
      fun h hm => hrefused _ ?_, fun h hm hi => hrefused _ ?_, fun h hm hi => ?_, fun h hm => ?_⟩
    · obtain ⟨m, hm⟩ : ∃ m, modeNamed arg = some m := by
        cases arg <;> first | exact ⟨_, rfl⟩ | exact absurd rfl h
      unfold answerSetMode
      simp only [hm]
      exact if_pos hu
    · subst h
      show (if s.site.mode = .unconfigured then _ else if s.site.mode = .run then _ else _) = _
      rw [hm]
      rfl
    · subst h
      show (if s.site.mode = .unconfigured then _ else if s.site.mode = .standby then _ else _) = _
      rw [hm]
      rfl
    · subst h
      have hnot : ((s.taking rest).racksIdle && (s.taking rest).quiet) = false :=
        Bool.eq_false_iff.2 fun hh => hi (hidle.1 hh)
      show (if s.site.mode = .unconfigured then _ else if s.site.mode = .standby then _
        else if (decide (Mode.standby = .standby) &&
          !((s.taking rest).racksIdle && (s.taking rest).quiet)) = true then _ else _) = _
      rw [hm, hnot]
      rfl
    · refine ⟨_, htaken .standby (by rw [h]; rfl) (by rw [hm]; decide) (by rw [hm]; decide)
        (fun _ => hi), ?_, ?_, ?_⟩
      · rw [arbitrate_mode]
        exact changeMode_mode _ _ _
      · rw [arbitrate_cooling]
        exact changeMode_standby_level (by show s.site.mode ≠ _; rw [hm]; decide) _
      · rw [arbitrate_balance]
        exact fun b hb => changeMode_standby_none (s := s.taking rest) hm .setMode b.rack b hb rfl
    · refine ⟨_, htaken .run (by rw [h]; rfl) (by rw [hm]; decide) (by rw [hm]; decide)
        (fun h => by cases h), ?_, fun h hh => ?_⟩
      · rw [arbitrate_mode]
        exact changeMode_mode _ _ _
      · rw [arbitrate_ring]
        exact changeMode_run_length (s := s.taking rest) hh hm _
  case reset =>
    intro tag rest s ho free
    have hfree : (s.taking rest).mayReset = true ↔ free := mayReset_iff _
    refine ⟨fun h => ?_, fun h => ?_⟩
    · rw [exec_resetPart]
      refine serve_answered (t := { s with site := { s.site with reset := .taken } }) ho ?_
      rw [answerResetPart, if_pos (hfree.2 h)]
      rfl
    · rw [exec_resetPart]
      refine serve_answered ho ?_
      rw [answerResetPart, if_neg fun hh => h (hfree.1 hh)]
  case status =>
    intro tag rest s ho
    rw [exec_readStatus]
    exact serve_answered (t := { s with
      ring := { s.ring with
        endA := { s.ring.endA with errors := .zero }
        endB := { s.ring.endB with errors := .zero } }
      converter := { s.converter with framingErrors := 0, crcErrors := 0, rangeErrors := 0 }
      site := { s.site with linkErrors := .clear } }) ho rfl

end Sys2Proof.Machine

namespace Sys2Proof.Machine

variable {s t : State}

/-! ## What no move of a rack changes -/

/-- What a status message, a silence and the silent trip set of the converter interface (R161 to
R163). -/
def Converter.watch (x : Converter) :
    Option ConverterStatus × GridState × Bool × Timer × Option PartTime :=
  (x.status, x.grid, x.silent, x.silentTrip, x.silenceWatch)

/-- What is written once in a trip record (R151). -/
def TripRecord.key (x : TripRecord) :
    BitVec 16 × TripKind × Option Rack × Option Int × PartTime × Nat :=
  (x.number, x.kind, x.rack, x.value, x.stamp, x.cycle)

/-- The sequence counter, and what the history holds of each cause (R153). -/
def Trips.ledger (x : Trips) :
    BitVec 16 × List (BitVec 16 × TripKind × Option Rack × Option Int × PartTime × Nat) :=
  (x.sequence, x.history.map TripRecord.key)

/-- The latches as they stand (R146). -/
def Trips.latches (x : Trips) : ContainerLatches × (Rack → TripKind → Latch) :=
  (x.container, fun r k => (x.racks.get r).latch k)

theorem reportInto_key (r : Rack) (current : Option Int) (underLoad first : Bool)
    (x : TripRecord) : (reportInto r current underLoad first x).key = x.key := by
  unfold reportInto
  dsimp only
  split <;> rfl

theorem setOverrun_latches (r : Rack) (x : Option PartTime) (s : State) :
    (setOverrun r x s).trips.latches = s.trips.latches := by
  refine Prod.ext rfl (funext fun k => funext fun j => ?_)
  show (((s.trips.racks.set r { s.trips.racks.get r with overrunStart := x }).get k).latch j) = _
  rw [PerRack.get_set]
  split
  next h => subst h; cases j <;> rfl
  next => rfl

/-- The nodes each rack's NODE_HW latches await (R148). -/
def Trips.awaits (x : Trips) (r : Rack) : List Awaited × List Awaited :=
  ((x.racks.get r).ovAwaited, (x.racks.get r).uvAwaited)

theorem setOverrun_awaits (r : Rack) (x : Option PartTime) (s : State) :
    (setOverrun r x s).trips.awaits = s.trips.awaits := by
  funext k
  show ((((s.trips.racks.set r { s.trips.racks.get r with overrunStart := x }).get k).ovAwaited),
    (((s.trips.racks.set r { s.trips.racks.get r with overrunStart := x }).get k).uvAwaited)) = _
  rw [PerRack.get_set]
  split
  next h => subst h; rfl
  next => rfl

/-- A reading of the state that no primitive change on the way of a rack or of the container limits
touches. -/
structure Bystander {α : Type} (f : State → α) : Prop where
  limits (s : State) (x : Limits) : f (s.withLimits x) = f s
  sequencer (s : State) (x : Sequencer) : f (s.withSequencer x) = f s
  trips (s : State) (x : Trips) (h : x.ledger = s.trips.ledger)
    (hl : x.latches = s.trips.latches) (ha : x.awaits = s.trips.awaits) :
    f (s.withTrips x) = f s
  choices (s : State) (n : Nat) : f (s.withChoices n) = f s
  converter (s : State) (x : Converter) (h : x.watch = s.converter.watch) :
    f (s.withConverter x) = f s
  post (e : Event) (s : State) : f (post e s) = f s
  summary (s : State) : f (produceContainerSummary s) = f s

theorem forRacks_leaves {α : Type} {f : State → α} {act : Rack → State → State}
    (h : ∀ r x, f (act r x) = f x) (racks : List Rack) (s : State) :
    f (forRacks racks act s) = f s :=
  forRacks_keeps (P := fun x => f x = f s) (fun r _ x hx => (h r x).trans hx) rfl

section
variable {α : Type} {f : State → α} (hf : Bystander f)
include hf

theorem Bystander.inAnyOrder {acts : List (State → State)}
    (h : ∀ act ∈ acts, ∀ x, f (act x) = f x) (s : State) : f (inAnyOrder acts s) = f s :=
  inAnyOrder_keeps (P := fun x => f x = f s) (fun x n hx => (hf.choices x n).trans hx)
    (fun act ha x hx => (h act ha x).trans hx) rfl

theorem Bystander.postAll (es : List Event) (s : State) : f (postAll es s) = f s := by
  induction es generalizing s with
  | nil => rfl
  | cons e es ih => exact (ih _).trans (hf.post e s)

theorem Bystander.messageDue (s : State) : f (messageDue s) = f s := by
  unfold Machine.messageDue
  split
  · exact hf.converter _ _ rfl
  · exact hf.converter _ _ rfl

theorem Bystander.judgeFlags (lower : Bool) (s : State) : f (judgeFlags lower s) = f s := by
  have h := hf.converter s
    { s.converter with holdFlag := s.holdFlagNow, stopFlag := s.stopFlagNow } rfl
  unfold Machine.judgeFlags
  dsimp only
  split
  · exact (hf.messageDue _).trans h
  · exact h

theorem Bystander.workOutContainer (s : State) : f (workOutContainer s) = f s := by
  unfold Machine.workOutContainer
  dsimp only
  rw [hf.judgeFlags, hf.converter _ _ (by rfl), hf.limits]

theorem Bystander.judgePermit (s : State) : f (judgePermit s) = f s := hf.converter _ _ rfl

theorem Bystander.requestPulse (s : State) : f (requestPulse s) = f s := by
  unfold Machine.requestPulse
  split
  · exact hf.converter _ _ rfl
  · exact hf.converter _ _ rfl
  · exact hf.converter _ _ rfl
  · rfl

theorem Bystander.startHold (s : State) : f (startHold s) = f s := by
  unfold Machine.startHold
  split
  · exact (forRacks_leaves (fun _ x => hf.limits x _) _ _).trans (hf.sequencer _ _)
  · rfl

theorem Bystander.changeRack (r : Rack) (x : RackSwitch) (cause : RackCause) (s : State) :
    f (changeRack r x cause s) = f s := by
  unfold Machine.changeRack
  dsimp only
  split
  · exact hf.sequencer _ _
  · generalize hp : Machine.post _ _ = p
    have hstart : f p = f s := by rw [← hp, hf.post]; exact hf.sequencer _ _
    have hleave : f (if s.rackState r = .connected then leaveConnected r p else p) = f s := by
      split
      · exact ((hf.limits _ _).trans (hf.trips _ _ (by rfl) (setOverrun_latches r none p)
          (setOverrun_awaits r none p))).trans hstart
      · exact hstart
    generalize (if s.rackState r = .connected then leaveConnected r p else p) = q at hleave ⊢
    rw [hf.judgePermit]
    split
    · rw [hf.workOutContainer, hf.startHold, hleave]
    · rw [hf.startHold, hleave]

theorem Bystander.freeSlot (r : Rack) (s : State) : f (freeSlot r s) = f s := by
  unfold Machine.freeSlot
  split
  · exact hf.sequencer _ _
  · rfl

theorem Bystander.completionReport (r : Rack) (current : Option Int) (underLoad : Bool)
    (s : State) : f (completionReport r current underLoad s) = f s := by
  unfold Machine.completionReport
  rw [hf.postAll]
  refine (hf.trips _ _ ?_ (by rfl) (by rfl)).trans (hf.choices _ _)
  refine Prod.ext rfl ?_
  show (s.trips.history.map _).map TripRecord.key = s.trips.history.map TripRecord.key
  rw [List.map_map]
  exact List.map_congr_left fun x _ => reportInto_key _ _ _ _ x

theorem Bystander.endOperation (r : Rack) (x : RackSwitch) (cause : RackCause) (s : State) :
    f (endOperation r x cause s) = f s := by
  unfold Machine.endOperation
  dsimp only
  split
  · rw [hf.completionReport, hf.freeSlot, hf.changeRack]
  · rw [hf.freeSlot, hf.changeRack]

theorem Bystander.enterOpening (r : Rack) (op : Operation) (cause : RackCause) (s : State) :
    f (enterOpening r op cause s) = f s := by
  unfold Machine.enterOpening
  dsimp only
  split
  · unfold passOpenProof
    rw [hf.endOperation, hf.changeRack]
  · exact hf.changeRack _ _ _ _

theorem Bystander.enterDraining (r : Rack) (op : Operation) (ms : Nat) (cause : RackCause)
    (s : State) : f (enterDraining r op ms cause s) = f s := by
  unfold Machine.enterDraining
  dsimp only
  split
  · exact (hf.enterOpening _ _ _ _).trans (hf.changeRack _ _ _ _)
  · exact hf.changeRack _ _ _ _

theorem Bystander.grantDisconnects (n : Nat) (s : State) : f (grantDisconnects n s) = f s := by
  induction n generalizing s with
  | zero => rfl
  | succ n ih =>
    unfold Machine.grantDisconnects
    split
    · rw [ih, hf.enterDraining]
      exact hf.sequencer _ _
    · rfl

theorem Bystander.releaseLocked (r : Rack) (s : State) : f (releaseLocked r s) = f s := by
  unfold Machine.releaseLocked
  split
  · exact hf.changeRack _ _ _ _
  · rfl

theorem Bystander.leaveQueue (r : Rack) (outcome : ConnectOutcome) (cause : RackCause)
    (s : State) : f (leaveQueue r outcome cause s) = f s := by
  unfold Machine.leaveQueue connectResult
  rw [hf.changeRack, hf.post]
  exact hf.sequencer _ _

end

theorem tables_bystander : Bystander (·.tables) where
  limits _ _ := rfl
  sequencer _ _ := rfl
  trips _ _ _ _ _ := rfl
  choices _ _ := rfl
  converter _ _ _ := rfl
  post e s := sameBut_tables (A := [.site]) (by simp [sameBut_refl]) (by simp)
  summary _ := rfl

section
variable {α : Type} {f : State → α} (hf : Bystander f)
  (hl : ∀ s x, x.ledger = s.trips.ledger → x.racks = s.trips.racks → f (s.withTrips x) = f s)
include hf hl

theorem Bystander.judgeContainerLatch (kind : TripKind) (s : State) :
    f (judgeContainerLatch kind s) = f s := by
  unfold Machine.judgeContainerLatch
  split
  · unfold clearContainerLatch
    dsimp only
    refine (hf.inAnyOrder (fun act ha x => ?_) _).trans ((hf.judgeFlags _ _).trans (hl _ _ rfl rfl))
    simp only [List.mem_cons, List.not_mem_nil, or_false] at ha
    rcases ha with rfl | rfl | rfl | rfl
    · exact hf.post _ _
    · exact forRacks_leaves hf.releaseLocked _ _
    · exact hf.judgePermit _
    · exact hf.summary _
  · rfl

/-- Half of the settling, where no GRID table waits to swap. -/
theorem Bystander.settleOnce (h : (s.table .grid).state ≠ .committed) :
    f (endHold (Machine.grantDisconnects 4 (Machine.judgeContainerLatch .welded s))) = f s := by
  have htables := (tables_bystander.grantDisconnects 4 _).trans
    (tables_bystander.judgeContainerLatch (fun _ _ _ _ => rfl) .welded s)
  have hgrant := (hf.grantDisconnects 4 _).trans (hf.judgeContainerLatch hl .welded s)
  rw [endHold_unswapped (by rw [table_congr htables]; exact h)]
  split
  · exact (hf.workOutContainer _).trans ((hf.sequencer _ _).trans hgrant)
  · exact hgrant

/-- Settling that swaps no GRID table leaves a bystander alone. -/
theorem Bystander.settle (h : (s.table .grid).state ≠ .committed) : f (settle s) = f s :=
  (hf.settleOnce hl (by rw [table_congr (tables_bystander.settleOnce (fun _ _ _ _ => rfl) h)]
                        exact h)).trans (hf.settleOnce hl h)

end

/-! ## The part mode, the site silence and the converter's watch -/

/-- The part mode and the site silence, with AUTONOMOUS (R183, R185). -/
def Site.standing (x : Site) : Mode × Bool × Option PartTime := (x.mode, x.autonomous, x.silence)

theorem standing_bystander : Bystander (·.site.standing) where
  limits _ _ := rfl
  sequencer _ _ := rfl
  trips _ _ _ _ _ := rfl
  choices _ _ := rfl
  converter _ _ _ := rfl
  post e s := by
    obtain ⟨-, -, -, -, -, -, hm, ha, hs, -⟩ := post_spec e s
    rw [Site.standing, hm, ha, hs]
    rfl
  summary _ := rfl

theorem ledger_bystander : Bystander (·.trips.ledger) where
  limits _ _ := rfl
  sequencer _ _ := rfl
  trips _ _ h _ _ := h
  choices _ _ := rfl
  converter _ _ _ := rfl
  post e s := congrArg Trips.ledger
    (sameBut_trips (s := s) (A := [.site]) (by simp [sameBut_refl]) (by simp))
  summary _ := rfl

theorem latches_bystander : Bystander (·.trips.latches) where
  limits _ _ := rfl
  sequencer _ _ := rfl
  trips _ _ _ h _ := h
  choices _ _ := rfl
  converter _ _ _ := rfl
  post e s := congrArg Trips.latches
    (sameBut_trips (s := s) (A := [.site]) (by simp [sameBut_refl]) (by simp))
  summary _ := rfl

theorem watch_bystander : Bystander (·.converter.watch) where
  limits _ _ := rfl
  sequencer _ _ := rfl
  trips _ _ _ _ _ := rfl
  choices _ _ := rfl
  converter _ _ h := h
  post e s := congrArg Converter.watch
    (sameBut_converter (s := s) (A := [.site]) (by simp [sameBut_refl]) (by simp))
  summary _ := rfl

end Sys2Proof.Machine

namespace Sys2Proof.Machine

variable {may : Liberty → Prop} {u s t : State}

/-! ## The part mode and the site silence -/

theorem arbitrate_standing (s : State) : (arbitrate s).site.standing = s.site.standing := by
  obtain ⟨-, -, hm, ha, hs, -⟩ := arbitrate_keeps s
  rw [Site.standing, hm, ha, hs]
  rfl

/-- Settling that swaps no GRID table leaves the tables, the mode and the site silence alone. -/
theorem settle_kept (h : (s.table .grid).state ≠ .committed) :
    (settle s).tables = s.tables ∧ (settle s).site.standing = s.site.standing :=
  ⟨tables_bystander.settle (fun _ _ _ _ => rfl) h, standing_bystander.settle (fun _ _ _ _ => rfl) h⟩

/-! ## The connect queue only shrinks -/

/-- No move but an accepted CONNECT lets a rack join the queue. -/
theorem Moves.queue_sublist (hm : ¬ may .connect) (h : Moves may s t) :
    t.sequencer.queue.Sublist s.sequencer.queue := by
  have same {x y : State} (h : y.sequencer = x.sequencer) :
      y.sequencer.queue.Sublist x.sequencer.queue := by rw [h]
  induction h with
  | trans _ _ h k => exact k.trans h
  | compose s => exact same (composeCommands_sequencer s)
  | take kind named data _ _ ih => rwa [recorded_sequencer] at ih
  | leaves s r e x =>
    have hp : (post e (dequeue r s)).sequencer.queue = (dequeue r s).sequencer.queue :=
      congrArg Sequencer.queue (post_sequencer e _)
    show (post e (dequeue r s)).sequencer.queue.Sublist _
    rw [hp]
    exact List.filter_sublist
  | queues s r x hc => exact absurd hc hm
  | starts s r x => exact List.filter_sublist
  | _ => exact List.Sublist.refl _

/-! ## Downward frames, unknown requests, sent frames and site silence (O59) -/

theorem exec_downwardFrame (f : DownFrame) (s : State) :
    exec (.downwardFrame f) s = .next (arbitrate (receiveFrame (frameVerdict f) s)) := rfl

theorem exec_unknownRequest (tag kind : Byte) (s : State) : exec (.unknownRequest tag kind) s =
    serve tag (.unknown kind) (fun x => ⟨x, .badRequest, .nothing⟩) s := rfl

theorem exec_upwardFrameSent (s : State) :
    exec .upwardFrameSent s = actWhen s.site.link.isSome frameSent s := rfl

theorem exec_siteSilenceExpiry (s : State) :
    exec .siteSilenceExpiry s = moveWhen s.siteSilenceIsDue expireSiteSilence s := rfl

theorem frameVerdict_framing {f : DownFrame} (h : f.marker ≠ 0xA5#8 ∨ f.malformed = true) :
    frameVerdict f = .framing := by
  unfold frameVerdict
  exact if_pos (by simpa using h)

theorem frameVerdict_length {f : DownFrame} (hm : f.marker = 0xA5#8) (hf : f.malformed = false)
    (h : f.length.toNat < 1 ∨ 2048 < f.length.toNat ∨ f.body.length ≠ f.length.toNat) :
    frameVerdict f = .length := by
  have h' : f.length.toNat = 0 ∨ 2048 < f.length.toNat ∨ f.body.length ≠ f.length.toNat :=
    h.imp_left fun h => by omega
  unfold frameVerdict
  rw [if_neg (by simp [hm, hf]), if_pos]
  simpa only [Bool.or_eq_true, decide_eq_true_eq, or_assoc] using h'

theorem frameVerdict_crc {f : DownFrame} (hm : f.marker = 0xA5#8) (hf : f.malformed = false)
    (h1 : 1 ≤ f.length.toNat) (h2 : f.length.toNat ≤ 2048) (hb : f.body.length = f.length.toNat)
    (h : f.crc ≠ crc16 (wordBytes f.length ++ f.body)) : frameVerdict f = .crc := by
  unfold frameVerdict
  rw [if_neg (by simp [hm, hf]), if_neg, if_pos h]
  simp only [Bool.or_eq_true, decide_eq_true_eq]
  omega

/-- A frame that passes checks 1 to 3 is a request, or fails check 4. -/
theorem frameVerdict_valid {f : DownFrame} (hm : f.marker = 0xA5#8) (hf : f.malformed = false)
    (h1 : 1 ≤ f.length.toNat) (h2 : f.length.toNat ≤ 2048) (hb : f.body.length = f.length.toNat)
    (hc : f.crc = crc16 (wordBytes f.length ++ f.body)) :
    (∀ tag kind args, f.body = Config.requestFrameKind :: tag :: kind :: args →
      frameVerdict f = .request ⟨tag, Config.parseRequest kind args⟩) ∧
    ((∀ tag kind args, f.body ≠ Config.requestFrameKind :: tag :: kind :: args) →
      frameVerdict f = .kind) := by
  have hverdict : frameVerdict f = match f.body with
      | kind :: tag :: request :: args =>
        if kind = Config.requestFrameKind then .request ⟨tag, Config.parseRequest request args⟩
        else .kind
      | _ => .kind := by
    have hlength : ¬ (decide (f.length.toNat = 0) || decide (2048 < f.length.toNat) ||
        decide (f.body.length ≠ f.length.toNat)) = true := by
      simp only [Bool.or_eq_true, decide_eq_true_eq]
      omega
    unfold frameVerdict
    rw [if_neg (by simp [hm, hf]), if_neg hlength, if_neg (not_not.2 hc)] <;> rfl
  rw [hverdict]
  refine ⟨fun tag kind args h => ?_, fun h => ?_⟩
  · rw [h]
    exact if_pos rfl
  · split
    next kind tag request args hbody =>
      refine if_neg fun hk => h tag request args ?_
      rw [hbody, hk]
    next => rfl

/-- A valid downward frame is heard: nothing of the requests and replies changes by it (R185). -/
theorem siteHeard_site (s : State) :
    (siteHeard s).site.autonomous = false ∧
      (siteHeard s).site.silence = (if s.isActive .grid then some s.now else none) ∧
      (siteHeard s).site.fifo = s.site.fifo ∧ (siteHeard s).site.replies = s.site.replies ∧
      (siteHeard s).site.link = s.site.link ∧ (siteHeard s).site.linkErrors = s.site.linkErrors := by
  unfold siteHeard
  dsimp only
  split
  · obtain ⟨-, hf, hr, -, hl, he, -, ha, hs, -⟩ := post_spec
      (.modeChange s.site.mode s.site.mode false .siteResumed) (s.withSite { s.site with
        silence := if s.isActive .grid then some s.now else none
        autonomous := false })
    exact ⟨ha, hs, hf, hr, hl, he⟩
  · exact ⟨rfl, rfl, rfl, rfl, rfl, rfl⟩

theorem offerRequest_standing (x : Tagged) (s : State) :
    (offerRequest x s).site.standing = s.site.standing := by
  unfold offerRequest
  split
  · rfl
  · split <;> rfl

theorem offerRequest_overrun {x : Tagged} (h4 : 4 ≤ s.site.fifo.length)
    (h8 : 8 ≤ s.site.replies.length) :
    (offerRequest x s).site.linkErrors = { s.site.linkErrors with replyOverrun := true } := by
  unfold offerRequest
  rw [if_neg (by omega), if_neg (by omega)]
  rfl

theorem frameSent_free {f : UpFrame} (hl : s.site.link = some f)
    (h : (resetReply f && decide (s.site.reset = .taken)) = false) :
    frameSent s = { s with site := { s.site with link := none } } := by
  unfold frameSent
  rw [hl]
  dsimp only
  rw [h]
  rfl

theorem frameSent_due {f : UpFrame} (hl : s.site.link = some f)
    (h : (resetReply f && decide (s.site.reset = .taken)) = true) :
    frameSent s = { s with site := { s.site with link := none, reset := .due } } := by
  unfold frameSent
  rw [hl]
  dsimp only
  rw [h]
  rfl

theorem resetReply_iff (f : UpFrame) :
    resetReply f = true ↔ ∃ tag body, f = .reply ⟨tag, .resetPart, .ok, body⟩ := by
  cases f with
  | reply r =>
    obtain ⟨tag, request, result, body⟩ := r
    simp only [resetReply, Bool.and_eq_true, decide_eq_true_eq, UpFrame.reply.injEq, Reply.mk.injEq]
    constructor
    · rintro ⟨rfl, rfl⟩
      exact ⟨tag, body, rfl, rfl, rfl, rfl⟩
    · rintro ⟨_, _, -, h1, h2, -⟩
      exact ⟨h1, h2⟩
  | _ => simp [resetReply]

theorem leaveQueue_dequeues (r : Rack) (outcome : ConnectOutcome) (cause : RackCause) (s : State) :
    ∀ e ∈ (leaveQueue r outcome cause s).sequencer.queue, e.rack ≠ r := by
  intro e he
  unfold leaveQueue connectResult at he
  obtain ⟨-, hq, -⟩ := changeRack_sequencer r
    { s.sequencer.racks.get r with state := .opened, operation := .none } cause
    (post (.connectResult r outcome (((dequeue r s).sequencer.racks.get r).queuedAt)) (dequeue r s))
  rw [hq, post_sequencer] at he
  simpa using (List.mem_filter.1 he).2

/-- A queue cancelled is empty. -/
theorem cancelQueue_queue (cause : RackCause) (s : State) :
    (cancelQueue cause s).sequencer.queue = [] := by
  rw [List.eq_nil_iff_forall_not_mem]
  intro e he
  have hsub := (cancelQueue_moves (may := nothing) (.refl s) cause).queue_sublist id
  have hmem : e.rack ∈ s.sequencer.queue.map (·.rack) := List.mem_map_of_mem (hsub.subset he)
  have hgone : ∀ x ∈ (cancelQueue cause s).sequencer.queue, x.rack ≠ e.rack := by
    refine forRacks_reaches (P := fun y => ∀ x ∈ y.sequencer.queue, x.rack ≠ e.rack)
      (Q := fun _ => True) (fun k y hy x hx => ?_) (fun _ _ _ => trivial)
      (fun y _ => leaveQueue_dequeues e.rack _ _ y) hmem trivial
    exact hy x (((leaveQueue_moves (may := nothing) (.refl y) k _ _).queue_sublist id).subset hx)
  exact hgone e he rfl

theorem expireSiteSilence_standing (s : State) :
    (expireSiteSilence s).site.standing = (s.site.mode, true, none) := by
  unfold expireSiteSilence cancelQueue
  rw [forRacks_leaves (f := (·.site.standing)) fun r x => standing_bystander.leaveQueue r _ _ x]
  exact standing_bystander.post _ (s.withSite { s.site with autonomous := true, silence := none })

/-- Settles O59. -/
theorem siteLinkTraffic : Obligations.SiteLinkTraffic := by
  unfold Obligations.SiteLinkTraffic
  refine ⟨?frame, ?unknown, ?sent, ?silence⟩
  case frame =>
    intro f s valid errors
    refine ⟨fun h => ?_, fun hm hf => ⟨fun h => ?_, fun h1 h2 hb hc => ?_⟩, fun hvalid => ?_⟩
    · rw [exec_downwardFrame, frameVerdict_framing h]
      rfl
    · rw [exec_downwardFrame, frameVerdict_length hm hf h]
      rfl
    · rw [exec_downwardFrame, frameVerdict_crc hm hf h1 h2 hb hc]
      rfl
    · obtain ⟨hm, hf, h1, h2, hb, hc⟩ := hvalid
      obtain ⟨hrequest, hkind⟩ := frameVerdict_valid hm hf h1 h2 hb hc
      obtain ⟨ha, hs, hfifo, hreplies, hlink, herrors⟩ := siteHeard_site s
      have hunsent : (siteHeard s).site.unsentReplies = s.site.unsentReplies := by
        rw [Site.unsentReplies, hlink, hreplies]
        rfl
      by_cases hreq : ∀ tag kind args, f.body ≠ Config.requestFrameKind :: tag :: kind :: args
      · refine ⟨_, exec_downwardFrame f s, ?_⟩
        rw [hkind hreq]
        obtain ⟨kfifo, kerrors, -, ka, ks, -⟩ :=
          arbitrate_keeps (receiveFrame .kind s)
        rw [ka, ks, kfifo, kerrors]
        refine ⟨ha, hs, fun _ => ⟨?_, hfifo⟩, fun tag kind args h => absurd h (hreq tag kind args)⟩
        show { (siteHeard s).site.linkErrors with kind := true } = _
        rw [herrors]
      · push Not at hreq
        obtain ⟨tag, kind, args, hbody⟩ := hreq
        refine ⟨_, exec_downwardFrame f s, ?_⟩
        rw [hrequest tag kind args hbody]
        have hstanding := offerRequest_standing ⟨tag, Config.parseRequest kind args⟩ (siteHeard s)
        obtain ⟨hfree, hfull⟩ :=
          offerRequest_spec ⟨tag, Config.parseRequest kind args⟩ (siteHeard s)
        have hover := offerRequest_overrun (s := siteHeard s)
          (x := ⟨tag, Config.parseRequest kind args⟩)
        rw [hfifo, hunsent] at hfree
        rw [hfifo, hunsent, hreplies] at hfull
        rw [hfifo, hreplies, herrors] at hover
        obtain ⟨kfifo, kerrors, -, ka, ks, -⟩ :=
          arbitrate_keeps (receiveFrame (.request ⟨tag, Config.parseRequest kind args⟩) s)
        rw [ka, ks, kfifo, kerrors, arbitrate_unsentReplies]
        simp only [Site.standing, Prod.mk.injEq] at hstanding
        obtain ⟨-, hsa, hss⟩ := hstanding
        refine ⟨hsa.trans ha, hss.trans hs, fun hnot => absurd hbody (hnot tag kind args),
          fun tag' kind' args' hbody' => ?_⟩
        rw [hbody, List.cons.injEq, List.cons.injEq, List.cons.injEq] at hbody'
        obtain ⟨-, rfl, rfl, rfl⟩ := hbody'
        refine ⟨fun h4 => (hfree h4).1, fun h4 => ?_⟩
        obtain ⟨hkept, hbusy, -⟩ := hfull h4
        exact ⟨hkept, hbusy, hover h4⟩
  case unknown =>
    intro tag kind rest s ho
    exact (exec_unknownRequest tag kind s).trans (serve_answered ho rfl)
  case sent =>
    intro s f hl
    have hdue : s.site.link.isSome = true := by rw [hl]; rfl
    refine ⟨fun ht hf => ?_, fun h => ?_⟩
    · rw [exec_upwardFrameSent, actWhen_of hdue,
        frameSent_due hl (by simp [(resetReply_iff f).2 hf, ht])]
      rfl
    · rw [exec_upwardFrameSent, actWhen_of hdue, frameSent_free hl]
      rw [Bool.and_eq_false_iff]
      rcases h with h | h
      · exact .inr (by simpa using h)
      · refine .inl (Bool.eq_false_iff.2 fun hh => ?_)
        obtain ⟨tag, body, hf⟩ := (resetReply_iff f).1 hh
        exact h tag body hf
  case silence =>
    intro s g w hg hw hdue hstate
    have hnow : s.siteSilenceIsDue = true := by
      simp only [State.siteSilenceIsDue, hg, hw, dueOption]
      exact (reached_iff _ _ _).2 hdue
    refine ⟨_, (exec_siteSilenceExpiry s).trans (moveWhen_of hnow), ?_⟩
    have htables : (expireSiteSilence s).tables = s.tables :=
      sameBut_tables (A := [.limits, .sequencer, .trips, .converter, .site, .choices])
        (by simp [sameBut_refl]) (by simp)
    have hstanding := (arbitrate_standing (settle (expireSiteSilence s))).trans
      ((settle_kept (by rw [table_congr htables]; exact hstate)).2.trans
        (expireSiteSilence_standing s))
    simp only [Site.standing, Prod.mk.injEq] at hstanding
    obtain ⟨-, ha, hs⟩ := hstanding
    refine ⟨ha, hs, ?_⟩
    rw [arbitrate_sequencer]
    have hsub := (settle_moves (may := fun l => l = .clear .welded) (.refl (expireSiteSilence s))
      rfl).queue_sublist (by simp)
    rw [expireSiteSilence, cancelQueue_queue] at hsub
    exact List.sublist_nil.1 hsub

end Sys2Proof.Machine

namespace Sys2Proof.Machine

variable {may : Liberty → Prop} {u s t : State}

/-! ## The tables over a swap (R175) -/

theorem swapCool_table (s : State) (n : TableName) :
    (swapCool s).table n = (swapBank .cool s).table n := by
  unfold swapCool
  exact table_congr (sameBut_tables (s := swapBank .cool s) (A := [.ring, .balance, .cooling, .limits,
    .sequencer, .trips, .converter, .site, .choices]) (by simp [sameBut_refl]) (by simp)) n

theorem swapFire_table (s : State) (n : TableName) :
    (swapFire s).table n = (swapBank .fire s).table n := by
  unfold swapFire
  exact table_congr (sameBut_tables (s := swapBank .fire s) (A := [.ring, .samples, .balance, .cooling,
    .fire, .limits, .sequencer, .trips, .converter, .site, .choices]) (by simp [sameBut_refl])
    (by simp)) n

theorem swapGrid_table_self (s : State) : (swapGrid s).table .grid = (s.table .grid).swap := by
  unfold swapGrid
  dsimp only
  rw [judgeRequiredSet_table]
  refine (table_congr (sameBut_tables (A := [.limits, .sequencer, .trips, .converter, .site, .choices,
    .ring, .balance, .cooling]) (s := swapBank .grid s) (by simp [sameBut_refl]) (by simp)) _).trans ?_
  exact swapBank_table_self .grid s

theorem swapBanks_table_ne {n : TableName} {names : List TableName} (h : n ∉ names) (s : State) :
    (names.foldl (fun acc t => swapBank t acc) s).table n = s.table n := by
  induction names generalizing s with
  | nil => rfl
  | cons k names ih =>
    rw [List.mem_cons, not_or] at h
    exact (ih h.2 _).trans (swapBank_table_ne h.1 s)

/-- What a swap of ring-path tables makes of the tables: the banks of those named move, and the others
stay. -/
theorem swapRingPath_table (names : List TableName) (s : State) (n : TableName) :
    (swapRingPath names s).table n = (names.foldl (fun acc t => swapBank t acc) s).table n := by
  unfold swapRingPath
  split
  next h =>
    rw [List.isEmpty_iff] at h
    subst h
    rfl
  next =>
    dsimp only
    have hstart : ∀ x : State, (startRing x).table n = x.table n := fun x =>
      table_congr (sameBut_tables (A := [.ring]) (by simp [sameBut_refl]) (by simp)) _
    rw [hstart, judgeRequiredSet_table]
    exact table_congr (sameBut_tables (A := [.ring, .samples, .limits, .balance, .cooling, .fire,
      .sequencer, .trips, .converter, .site, .choices]) (by simp [sameBut_refl, forRacks_frame,
        inAnyOrder_map_frame]) (by simp)) _

/-- A table that swaps takes its pending bank. -/
theorem swapNow_table (n : TableName) (s : State) : (swapNow n s).table n = (s.table n).swap := by
  cases n with
  | cool => exact (swapCool_table s _).trans (swapBank_table_self _ s)
  | fire => exact (swapFire_table s _).trans (swapBank_table_self _ s)
  | grid => exact swapGrid_table_self s
  | _ => exact (swapRingPath_table _ s _).trans (swapBank_table_self _ s)

theorem setTable_table_self (n : TableName) (x : TableState) (s : State) :
    (s.setTable n x).table n = x := by
  simp [State.table, State.setTable]

/-- A table left CLEAN by a step is not swapped by the settling that closes it. -/
theorem settle_table_clean {n : TableName} (h : (s.table n).state = .clean) :
    (settle s).table n = s.table n := by
  by_cases hn : n = .grid
  · subst hn
    exact table_congr (settle_kept (by rw [h]; decide)).1 _
  · exact settle_table_ne hn s

/-! ## TABLE_COMMIT (O58) -/

theorem exec_tableCommit (tag : Byte) (table : Option TableName) (digest : Code) (s : State) :
    exec (.tableCommit tag table digest) s =
      serveMoving tag (.tableCommit table digest) (answerCommit table digest) s := rfl

theorem answerCommit_edited {n : TableName} {bank : Bank} (hs : (s.table n).state = .edited)
    (hp : (s.table n).pending = some bank) (digest : Code) :
    answerCommit (some n) digest s = judgeCommit n digest bank s := by
  unfold answerCommit
  simp only [hs, hp]

theorem judgeCommit_passes {n : TableName} {digest : Code} {bank : Bank}
    (hq : n = .fire → s.quiet = true) (hd : digestOf bank = digest)
    (hf : firstFailure (failuresOf n bank) = none) :
    judgeCommit n digest bank s = acceptCommit n s := by
  unfold judgeCommit
  rw [if_neg (by simpa using hq), if_neg (by simp [hd])]
  simp only [hf]

theorem acceptCommit_waits {n : TableName}
    (h : (s.setTable n { s.table n with state := .committed }).swapsAtCommit n = false) :
    acceptCommit n s = ⟨s.setTable n { s.table n with state := .committed }, .ok, .swap false⟩ := by
  unfold acceptCommit
  dsimp only
  rw [h]
  rfl

theorem acceptCommit_swaps {n : TableName}
    (h : (s.setTable n { s.table n with state := .committed }).swapsAtCommit n = true) :
    acceptCommit n s =
      ⟨swapNow n (s.setTable n { s.table n with state := .committed }), .ok, .swap true⟩ := by
  unfold acceptCommit
  dsimp only
  rw [h]
  rfl

/-- A commit that swaps at once (R175). -/
theorem commit_swapped {tag : Byte} {digest : Code} {n : TableName} {rest : List Tagged} {bank : Bank}
    (ho : s.offers ⟨tag, .tableCommit (some n) digest⟩ rest)
    (hanswer : answerCommit (some n) digest (s.taking rest) =
      ⟨swapNow n ((s.taking rest).setTable n { s.table n with state := .committed }), .ok, .swap true⟩)
    (hp : (s.table n).pending = some bank) (hd : digestOf bank = digest) :
    ∃ t, exec (.tableCommit tag (some n) digest) s = .next t ∧
      t.table n = ⟨some bank, some bank, .clean, some digest⟩ ∧
      t.site.unsentReplies = s.site.unsentReplies ++
        [⟨tag, .tableCommit (some n) digest, .ok, .swap true⟩] := by
  have hswapped : (swapNow n ((s.taking rest).setTable n
      { s.table n with state := .committed })).table n = ⟨some bank, some bank, .clean, some digest⟩ := by
    rw [swapNow_table, setTable_table_self, TableState.swap]
    simp only [hp, Option.map_some, hd]
  have htraffic := (swapNow_moves (may := fun _ => True) (.refl ((s.taking rest).setTable n
    { s.table n with state := .committed })) trivial trivial n).traffic
  refine ⟨_, (exec_tableCommit tag (some n) digest s).trans (serveMoving_offered ho _), ?_⟩
  rw [takeRequest_offered ho, hanswer]
  generalize swapNow n _ = x at hswapped htraffic
  constructor
  · rw [table_congr (arbitrate_tables _), settle_table_clean (by exact congrArg _ hswapped)]
    exact hswapped
  · rw [arbitrate_unsentReplies, (settle_moves (may := fun _ => True) (.refl _) trivial).traffic.unsentReplies]
    have hu : x.site.unsentReplies = s.site.unsentReplies := htraffic.unsentReplies
    rw [← hu]
    simp [reply, Site.unsentReplies, List.append_assoc]

theorem cycleDue_iff (s : State) : s.cycleDue = true ↔ s.ring.phase = .due ∨
    ∃ k, s.ring.phase = .betweenTurns k ∧ s.eventTurns ≤ k ∧
      s.ring.cycleLength ≤ (s.now - s.ring.cycleStart).toNat := by
  unfold State.cycleDue
  cases s.ring.phase <;> simp [reached_iff]

/-- The ring at the start of a cycle, whatever tables swap there (R1, R8, R175). -/
theorem startCycle_ring (s : State) :
    (startCycle s).ring.phase = .token ∧ (startCycle s).ring.cycleStart = s.now := by
  have hnow : ∀ (names : List TableName) (x : State), (swapRingPath names x).now = x.now :=
    fun names x => sameBut_now (A := [.ring, .samples, .limits, .balance, .cooling, .fire, .sequencer,
      .trips, .converter, .tables, .site, .choices]) (by simp [sameBut_refl]) (by simp)
  exact ⟨rfl, hnow _ _⟩

theorem startCycle_table (s : State) {n : TableName} (h : n ∈ TableName.ringPath) :
    (startCycle s).table n =
      if (s.table n).state = .committed then (s.table n).swap else s.table n := by
  let names := (s.withRing { s.ring with cycle := s.nextCycle }).committedRingPath
  have hmem : n ∈ names ↔ (s.table n).state = .committed := by
    have htable : (s.withRing { s.ring with cycle := s.nextCycle }).table n = s.table n := rfl
    refine List.mem_filter.trans ?_
    rw [htable, decide_eq_true_eq]
    exact and_iff_right h
  have hnodup : names.Nodup := List.Nodup.filter _ (by decide)
  show (swapRingPath names (s.withRing { s.ring with cycle := s.nextCycle })).table n = _
  rw [swapRingPath_table]
  split
  next hc => exact swapBanks_table (hmem.2 hc) hnodup _
  next hc => exact swapBanks_table_ne (mt hmem.1 hc) _

/-- The interval of a control step runs from the step, a COOL swap or not (R87). -/
theorem controlStep_interval (s : State) : (controlStep s).cooling.interval = some s.now := by
  have hnow : (swapCoolIfCommitted s).now = s.now :=
    sameBut_now (A := [.ring, .balance, .cooling, .limits, .sequencer, .trips, .converter, .tables,
      .site, .choices]) (by simp [sameBut_refl]) (by simp)
  have hladder : ∀ x : State, (stepLadder x).course.interval = x.course.interval := fun x => by
    unfold stepLadder
    split
    · dsimp only
      split
      · rw [setLevel_course]
      · rfl
    · rfl
  have hheater : ∀ x : State, (judgeHeater x).course.interval = x.course.interval := fun x => by
    unfold judgeHeater
    split
    · repeat' split
      all_goals first | rfl | rw [setHeaterDemand_course]
    · rfl
  show (controlStep s).course.interval = some s.now
  unfold controlStep
  dsimp only
  rw [judgeCoolingLoss_course, hheater, hladder]
  obtain ⟨since, h, -⟩ := judgeBlindState_blind ((swapCoolIfCommitted s).withCooling
    { (swapCoolIfCommitted s).cooling with interval := some (swapCoolIfCommitted s).now }) _ rfl
  rw [h, ← hnow]
  rfl

/-! ### The GRID table at the end of the hold -/

theorem startHold_holds (s : State) : (startHold s).sequencer =
    { s.sequencer with hold := s.sequencer.hold || s.anySwitching } := by
  unfold startHold
  split
  next h =>
    simp only [Bool.and_eq_true, Bool.not_eq_true'] at h
    rw [sameBut_sequencer (s := s.withSequencer { s.sequencer with hold := true })
      (A := [.limits]) (by simp [forRacks_frame, sameBut_refl]) (by simp), h.1, Bool.or_true]
    rfl
  next h =>
    have : (s.sequencer.hold || s.anySwitching) = s.sequencer.hold := by
      cases hh : s.sequencer.hold <;> simp_all
    rw [this]

/-- What a change of a rack's state leaves of the sequencer; it starts the hold where it brings a rack
into a switching state (R137). -/
theorem changeRack_started (r : Rack) (x : RackSwitch) (cause : RackCause) (s : State) :
    (changeRack r x cause s).sequencer = { s.sequencer with
      racks := s.sequencer.racks.set r (x.rewatch s.now)
      hold := s.sequencer.hold || (decide (s.rackState r ≠ x.state) &&
        (s.setRackSwitch r (x.rewatch s.now)).anySwitching) } := by
  unfold changeRack
  dsimp only
  split
  next h =>
    rw [h, decide_eq_false (by simp), Bool.false_and, Bool.or_false]
    rfl
  next h =>
    rw [decide_eq_true h, Bool.true_and]
    generalize hp : post _ _ = p
    have hstart : p.sequencer = (s.setRackSwitch r (x.rewatch s.now)).sequencer := by
      rw [← hp, post_sequencer]
    have hleave : (if s.rackState r = .connected then leaveConnected r p else p).sequencer =
        (s.setRackSwitch r (x.rewatch s.now)).sequencer := by
      split
      · rw [sameBut_sequencer (s := p) (A := [.limits, .trips]) (by simp [sameBut_refl]) (by simp)]
        exact hstart
      · exact hstart
    generalize (if s.rackState r = .connected then leaveConnected r p else p) = q at hleave ⊢
    have hany : q.anySwitching = (s.setRackSwitch r (x.rewatch s.now)).anySwitching := by
      simp only [State.anySwitching, rackState_eq_of_sequencer hleave]
    rw [sameBut_sequencer (s := startHold q) (A := [.limits, .converter]) ?_ (by simp),
      startHold_holds, hany, hleave]
    · rfl
    · refine (judgePermit_frame _ _ (by simp)).2 ?_
      split <;> simp [sameBut_refl]

theorem changeRack_hold (r : Rack) (x : RackSwitch) (cause : RackCause)
    (h : s.sequencer.hold = true) : (changeRack r x cause s).sequencer.hold = true := by
  rw [changeRack_started, h]
  rfl

/-- The hold of a rack's change stands already, or a rack is switching after it. -/
theorem changeRack_switching {r : Rack} {x : RackSwitch} {cause : RackCause}
    (h : (changeRack r x cause s).sequencer.hold = true) :
    s.sequencer.hold = true ∨ (changeRack r x cause s).anySwitching = true := by
  have hany : (changeRack r x cause s).anySwitching =
      (s.setRackSwitch r (x.rewatch s.now)).anySwitching := by
    simp only [State.anySwitching, State.rackState, changeRack_started]
    rfl
  rw [changeRack_started] at h
  simp only [Bool.or_eq_true, Bool.and_eq_true] at h
  rw [hany]
  exact h.imp_right And.right

/-- A sequencer whose hold has nothing left to hold, and no disconnect to grant. -/
structure State.HoldEnds (s : State) : Prop where
  hold : s.sequencer.hold = true
  still : ∀ r, (s.rackState r).switching = false
  granted : s.grantable = none

theorem grantable_eq_none (s : State) : s.grantable = none ↔ s.sequencer.slot.isSome = true ∨
    (∃ r, (s.sequencer.racks.get r).operation.protective = true) ∨
    ∀ r, (s.sequencer.racks.get r).disconnectPending = true → s.rackState r ≠ .connected := by
  have hany : s.anyProtective = true ↔
      ∃ r, (s.sequencer.racks.get r).operation.protective = true := by
    simp [State.anyProtective]
  unfold State.grantable
  split
  next h =>
    rw [Bool.or_eq_true, hany] at h
    exact iff_of_true rfl (h.imp_right .inl)
  next h =>
    rw [Bool.or_eq_true, hany, not_or] at h
    rw [List.find?_eq_none, or_iff_right h.1, or_iff_right h.2]
    simp only [Rack.mem_all, forall_const, Bool.and_eq_true, decide_eq_true_eq, not_and, ne_eq]

theorem State.HoldEnds.of_sequencer (h : s.HoldEnds) (hs : t.sequencer = s.sequencer) : t.HoldEnds where
  hold := by rw [hs]; exact h.hold
  still r := by rw [rackState_eq_of_sequencer hs]; exact h.still r
  granted := by
    have := h.granted
    simp only [State.grantable, State.anyProtective, State.rackState, hs] at this ⊢
    exact this

/-- A rack that does not become CONNECTED, its protective operation and pending disconnect kept, lets no
disconnect be granted. -/
theorem changeRack_grantable {r : Rack} {x : RackSwitch} {cause : RackCause}
    (ho : x.operation.protective = (s.sequencer.racks.get r).operation.protective)
    (hd : x.disconnectPending = (s.sequencer.racks.get r).disconnectPending)
    (hx : x.state ≠ .connected) (h : s.grantable = none) :
    (changeRack r x cause s).grantable = none := by
  obtain ⟨hracks, -, hslot⟩ := changeRack_sequencer r x cause s
  have hget : ∀ k, ((changeRack r x cause s).sequencer.racks.get k).operation.protective =
      (s.sequencer.racks.get k).operation.protective ∧
      ((changeRack r x cause s).sequencer.racks.get k).disconnectPending =
        (s.sequencer.racks.get k).disconnectPending := fun k => by
    rw [hracks, PerRack.get_set]
    split
    next hk => subst hk; exact ⟨ho, hd⟩
    next => exact ⟨rfl, rfl⟩
  refine (grantable_eq_none _).2 ?_
  rw [hslot]
  rcases (grantable_eq_none s).1 h with hs | ⟨k, hk⟩ | hnone
  · exact .inl hs
  · exact .inr (.inl ⟨k, by rw [(hget k).1]; exact hk⟩)
  · refine .inr (.inr fun k hk => ?_)
    rw [(hget k).2] at hk
    rw [changeRack_rackState]
    split
    · exact hx
    · exact hnone k hk

theorem releaseLocked_holdEnds (r : Rack) (h : s.HoldEnds) : (releaseLocked r s).HoldEnds := by
  unfold releaseLocked
  split
  · refine ⟨changeRack_hold r _ _ h.hold, fun k => ?_,
      changeRack_grantable rfl rfl (fun hc => by cases hc) h.granted⟩
    rw [changeRack_rackState]
    split
    · rfl
    · exact h.still k
  · exact h

theorem judgeContainerLatch_holdEnds (kind : TripKind) (h : s.HoldEnds) :
    (judgeContainerLatch kind s).HoldEnds := by
  unfold judgeContainerLatch
  split
  · unfold clearContainerLatch
    dsimp only
    refine inAnyOrder_keeps (P := State.HoldEnds) (fun _ _ h => h.of_sequencer rfl)
      (fun act ha x hx => ?_) (h.of_sequencer ?_)
    · simp only [List.mem_cons, List.not_mem_nil, or_false] at ha
      rcases ha with rfl | rfl | rfl | rfl
      · exact hx.of_sequencer (post_sequencer _ _)
      · exact forRacks_keeps (P := State.HoldEnds) (fun r _ y hy => releaseLocked_holdEnds r hy) hx
      · exact hx.of_sequencer (sameBut_sequencer (A := [.converter]) (by simp [sameBut_refl])
          (by simp))
      · exact hx.of_sequencer rfl
    · exact sameBut_sequencer (A := [.converter, .trips]) (by simp [sameBut_refl]) (by simp)
  · exact h

/-- A COMMITTED GRID table swaps where the hold ends (R137, R175). -/
theorem settle_swapsGrid (h : s.HoldEnds) (hc : (s.table .grid).state = .committed) :
    (settle s).table .grid = (s.table .grid).swap := by
  have hj := judgeContainerLatch_holdEnds .welded h
  have hjt : (judgeContainerLatch .welded s).table .grid = s.table .grid := table_congr
    (sameBut_tables (A := [.limits, .sequencer, .trips, .converter, .site, .choices])
      (by simp [sameBut_refl]) (by simp)) _
  unfold settle
  rw [grantDisconnects_stays hj.granted]
  generalize judgeContainerLatch .welded s = x at hj hjt
  have hend : (endHold x).table .grid = (s.table .grid).swap := by
    have hstill : x.anySwitching = false := by
      rw [State.anySwitching, List.any_eq_false]
      intro r _
      rw [hj.still r]
      decide
    have hw : (workOutContainer (x.withSequencer { x.sequencer with hold := false })).table .grid =
        s.table .grid := (table_congr (sameBut_tables (s := x) (A := [.limits, .converter,
      .sequencer]) (by simp [sameBut_refl]) (by simp)) _).trans hjt
    unfold endHold
    rw [hj.hold, hstill]
    dsimp only
    rw [if_pos (by decide), if_pos (by rw [hw]; exact hc), swapGrid_table_self, hw]
  have hclean : ((endHold x).table .grid).state = .clean := by rw [hend]; rfl
  have ht := tables_bystander.settleOnce (s := endHold x) (fun _ _ _ _ => rfl) (by rw [hclean]; decide)
  rw [table_congr ht, hend]

/-- Settles O58. -/
theorem commitsAreJudgedAndSwap : Obligations.CommitsAreJudgedAndSwap := by
  unfold Obligations.CommitsAreJudgedAndSwap
  refine ⟨?judged, ?unknown, ?swaps⟩
  case unknown =>
    intro tag digest rest s ho
    exact (exec_tableCommit tag none digest s).trans (serveMoving_answered ho rfl)
  case swaps =>
    intro s hcons swapped due
    have hswapped : ∀ (t : State) n, (s.table n).state = .committed → t.table n = (s.table n).swap →
        swapped t n := fun t n hc ht => by
      obtain ⟨bank, hb⟩ := Option.isSome_iff_exists.1 ((hcons n).edited (by rw [hc]; decide))
      exact ⟨bank, hb, by rw [ht, TableState.swap, hb]; rfl⟩
    refine ⟨fun hdue => ?_, fun h since hc hcool hi hdue => ?_, fun hc hh hs hg => ?_⟩
    · refine ⟨_, (exec_cycleStart s).trans (moveWhen_of ((cycleDue_iff s).2 hdue)), ?_⟩
      obtain ⟨hphase, hstart⟩ := startCycle_ring s
      have htable : ∀ n ∈ TableName.ringPath, (arbitrate (settle (startCycle s))).table n =
          if (s.table n).state = .committed then (s.table n).swap else s.table n := fun n hn => by
        rw [table_congr (arbitrate_tables _), settle_table_ne (by rintro rfl; revert hn; decide),
          startCycle_table s hn]
      refine ⟨?_, ?_, fun n hn => ⟨fun hc => hswapped _ n hc ?_, fun hc => ?_⟩⟩
      · rw [arbitrate_ring, settle_phase, hphase]
      · rw [arbitrate_ring, settle_ring, ← hstart]
      · rw [htable n hn, if_pos hc]
      · rw [htable n hn, if_neg hc]
    · have hnow : s.intervalIsDue = true := by
        simp only [State.intervalIsDue, hcool, hi, dueOption]
        exact (reached_iff _ _ _).2 hdue
      refine ⟨_, (exec_controlIntervalExpiry s).trans (moveWhen_of hnow), hswapped _ _ hc ?_, ?_⟩
      · rw [table_congr (arbitrate_tables _), settle_table_ne (by decide)]
        have hstep : (controlStep s).table .cool = (swapCoolIfCommitted s).table .cool :=
          table_congr (sameBut_tables (A := [.ring, .balance, .cooling, .limits, .sequencer, .trips,
            .converter, .site, .choices]) (s := swapCoolIfCommitted s)
            (by simp [controlStep, sameBut_refl]) (by simp)) _
        rw [hstep, swapCoolIfCommitted, if_pos hc, swapCool_table, swapBank_table_self]
      · rw [arbitrate_cooling, settle_cooling, controlStep_interval]
    · refine hswapped _ _ hc (settle_swapsGrid ⟨hh, fun r => ?_, hg⟩ hc)
      rw [State.anySwitching, List.any_eq_false] at hs
      simpa using hs r (Rack.mem_all r)
  case judged =>
    intro tag digest n rest s x swapsNow refused ho
    have hrefused : ∀ result body, answerCommit (some n) digest (s.taking rest) =
        ⟨s.taking rest, result, body⟩ → refused result body := fun result body h =>
      (exec_tableCommit tag (some n) digest s).trans (serveMoving_answered ho h)
    have hswaps : ((s.taking rest).setTable n { s.table n with state := .committed }).swapsAtCommit n =
        true ↔ swapsNow := by
      cases n with
      | cool =>
        simp [State.swapsAtCommit, swapsNow, State.setTable, State.isActive, State.table,
          State.taking]
      | fire => exact iff_of_true rfl trivial
      | grid => simp [State.swapsAtCommit, swapsNow, State.setTable, State.taking]
      | _ => exact decide_eq_true_iff
    have hquiet : (s.taking rest).quiet = true ↔ s.fire.stage = .normal ∧ s.fire.gas = .clear := by
      show s.quiet = true ↔ _
      simp [State.quiet]
    have hpass : (n = .fire → s.fire.stage = .normal ∧ s.fire.gas = .clear) →
        ¬ (decide (n = .fire) && !(s.taking rest).quiet) = true := fun h => by
      simp only [Bool.and_eq_true, decide_eq_true_eq, Bool.not_eq_true', not_and, Bool.not_eq_false]
      exact fun hn => hquiet.2 (h hn)
    refine ⟨fun h => hrefused _ _ ?_, fun h => hrefused _ _ ?_, fun bank hs hp =>
      ⟨fun hn hq => hrefused _ _ ?_, fun hn => ⟨fun hd => hrefused _ _ ?_, fun hd =>
        ⟨fun index reason hf => hrefused _ _ ?_, fun hf => ⟨fun hw => ?_, fun hw => ?_⟩⟩⟩⟩⟩
    · have : ((s.taking rest).table n).state = .clean := h
      unfold answerCommit
      simp only [this]
    · have : ((s.taking rest).table n).state = .committed := h
      unfold answerCommit
      simp only [this]
    · have hnot : (decide (n = .fire) && !(s.taking rest).quiet) = true := by
        rw [hn, Bool.and_eq_true, Bool.not_eq_true', Bool.eq_false_iff, ne_eq, hquiet, not_and_or]
        exact ⟨rfl, hq⟩
      rw [answerCommit_edited (s := s.taking rest) hs hp, judgeCommit, if_pos hnot]
    · rw [answerCommit_edited (s := s.taking rest) hs hp, judgeCommit, if_neg (hpass hn), if_pos hd]
    · rw [answerCommit_edited (s := s.taking rest) hs hp, judgeCommit, if_neg (hpass hn),
        if_neg (not_not.2 hd)]
      simp only [hf]
    · refine (exec_tableCommit tag (some n) digest s).trans (serveMoving_answered
        (t := s.setTable n { s.table n with state := .committed }) ho ?_)
      rw [answerCommit_edited (s := s.taking rest) hs hp,
        judgeCommit_passes (fun h => hquiet.2 (hn h)) hd hf]
      exact acceptCommit_waits (Bool.eq_false_iff.2 fun h => hw (hswaps.1 h))
    · refine commit_swapped ho ?_ hp hd
      rw [answerCommit_edited (s := s.taking rest) hs hp,
        judgeCommit_passes (fun h => hquiet.2 (hn h)) hd hf]
      exact acceptCommit_swaps (hswaps.2 hw)

end Sys2Proof.Machine

namespace Sys2Proof.Machine

variable {s t : State}

/-! ## What taking a cause leaves alone -/

section
variable {α : Type} {f : State → α} (hf : Bystander f)
include hf

theorem Bystander.connectResult (r : Rack) (outcome : ConnectOutcome) (s : State) :
    f (connectResult r outcome s) = f s := hf.post _ _

theorem Bystander.takeOver (r : Rack) (s : State) : f (takeOver r s) = f s :=
  (hf.sequencer _ _).trans (hf.freeSlot r s)

theorem Bystander.takeOverOpening (r : Rack) (op : Operation) (s : State) :
    f (takeOverOpening r op s) = f s := (hf.sequencer _ _).trans (hf.takeOver r s)

theorem Bystander.lockQueued (r : Rack) (kind : TripKind) (s : State) :
    f (lockQueued r kind s) = f s :=
  (hf.changeRack _ _ _ _).trans ((hf.connectResult _ _ _).trans (hf.sequencer _ _))

theorem Bystander.lockOpen (r : Rack) (kind : TripKind) (s : State) :
    f (lockOpen r kind s) = f s := hf.changeRack _ _ _ _

theorem Bystander.shortenDrain (r : Rack) (s : State) : f (shortenDrain r s) = f s := by
  unfold Machine.shortenDrain
  dsimp only
  split
  · exact (hf.enterOpening _ _ _ _).trans ((hf.sequencer _ _).trans (hf.takeOver r s))
  · exact (hf.sequencer _ _).trans (hf.takeOver r s)

theorem Bystander.immediateOrder (kind : TripKind) (r : Rack) (s : State) :
    f (immediateOrder kind r s) = f s := by
  unfold Machine.immediateOrder
  split
  · rw [hf.enterOpening, hf.takeOver, hf.connectResult]
  · rw [hf.enterOpening, hf.takeOver, hf.connectResult]
  · rw [hf.enterOpening, hf.takeOver]
  · rw [hf.enterOpening, hf.takeOver]
  · exact hf.takeOverOpening _ _ _
  · exact hf.lockQueued _ _ _
  · exact hf.lockOpen _ _ _
  · rfl
  · rfl

theorem Bystander.deferredOrder (kind : TripKind) (r : Rack) (s : State) :
    f (deferredOrder kind r s) = f s := by
  unfold Machine.deferredOrder
  dsimp only
  split
  · rw [hf.enterDraining, hf.takeOver]
  · split
    · rfl
    · exact hf.shortenDrain _ _
  · rw [hf.enterOpening, hf.takeOver, hf.connectResult]
  · rw [hf.enterOpening, hf.takeOver, hf.connectResult]
  · split
    · rfl
    · exact hf.takeOverOpening _ _ _
  · exact hf.lockQueued _ _ _
  · exact hf.lockOpen _ _ _
  · rfl
  · rfl

theorem Bystander.order (kind : TripKind) (racks : List Rack) (s : State) :
    f (order kind racks s) = f s := by
  unfold Machine.order
  split
  · exact forRacks_leaves (hf.immediateOrder kind) _ _
  · exact forRacks_leaves (hf.deferredOrder kind) _ _

theorem Bystander.handLatch (s : State) : f (handLatch s) = f s := by
  refine (hf.inAnyOrder (fun act ha x => ?_) _).trans (hf.judgeFlags _ _)
  simp only [List.mem_cons, List.not_mem_nil, or_false] at ha
  rcases ha with rfl | rfl
  · exact hf.judgePermit _
  · exact hf.summary _

/-- Of taking a cause a bystander sees its latch and its record at most. -/
theorem Bystander.takeCause (kind : TripKind) (r : Option Rack) (data : CauseData) (s : State) :
    f (takeCause kind r data s) =
      f (writeRecord (recordOf kind r data s) (setLatch kind r data s)) := by
  unfold Machine.takeCause
  rw [hf.handLatch, hf.post]
  split
  · exact (hf.requestPulse _).trans (hf.order _ _ _)
  · exact hf.order _ _ _

theorem Bystander.endInFault (r : Rack) (kind : FaultKind) (cause : RackCause) (s : State) :
    f (endInFault r kind cause s) = f s := hf.endOperation _ _ _ _

theorem Bystander.failClosed (r : Rack) (s : State) : f (failClosed r s) = f s :=
  (hf.endInFault _ _ _ _).trans (hf.sequencer _ _)

end

section
variable {α : Type} {f : State → α} (hf : Bystander f) 
  (hw : ∀ s x, x.racks = s.trips.racks → f (s.withTrips x) = f s)
include hf hw

theorem Bystander.takeCause_free (kind : TripKind) (data : CauseData)
    (s : State) : f (Machine.takeCause kind none data s) = f s := by
  refine (hf.takeCause kind none data s).trans ?_
  exact (hw _ { (setLatch kind none data s).trips with
    history := addRecord (recordOf kind none data s) (setLatch kind none data s).trips.history
    sequence := (setLatch kind none data s).trips.sequence + 1 } rfl).trans
      (hw s { s.trips with container := s.trips.container.put kind .taken } rfl)

/-! ## What the watches and wait timers leave alone at a GRID swap (R143) -/

theorem Bystander.weldAtRest (r : Rack) (c : Contactor) (s : State) :
    f (weldAtRest r c s) = f s := by
  unfold Machine.weldAtRest takeWelded
  dsimp only
  rw [hf.takeCause_free hw, hf.endInFault]
  split
  · exact (hf.connectResult _ _ _).trans (hf.sequencer _ _)
  · rfl

theorem Bystander.expireRackWatch (r : Rack) (c : Contactor) (s : State) :
    f (expireRackWatch r c s) = f s := by
  have hfill : f (s.setRackSwitch r ((s.sequencer.racks.get r).fillWatch c s.contactorProof)) =
      f s := hf.sequencer _ _
  have hweld := (hf.weldAtRest hw r c _).trans hfill
  have hfail := (hf.failClosed r _).trans hfill
  have htake := (hf.takeCause_free hw .welded (.welded r c) _).trans hfill
  unfold Machine.expireRackWatch
  dsimp only
  split
  · exact hweld
  · exact hweld
  · exact hweld
  · split
    · exact hfill
    · exact hweld
  · cases c
    · exact hfail
    · exact htake
  · cases c
    · exact hfail
    · exact htake
  · exact hfill
  · exact hfill
  · exact hfill

theorem Bystander.switchAtGridSwap (s : State) : f (switchAtGridSwap s) = f s := by
  have hwatch (r : Rack) (c : Contactor) (x : State) : f (watchDue r c x) = f x := by
    unfold watchDue
    split
    · exact hf.expireRackWatch hw _ _ _
    · rfl
  have hwait (r : Rack) (x : State) : f (waitDue r x) = f x := by
    unfold waitDue
    split
    · exact hf.leaveQueue _ _ _ _
    · rfl
  exact (forRacks_leaves (fun r x => (hwatch r _ _).trans (hwatch r _ x)) _ _).trans
    (forRacks_leaves hwait _ _)

end

/-! ## Settling after a status message -/

/-- No disconnect can be granted, and the hold stands only while a rack is switching (R128, R137). -/
structure State.Calm (s : State) : Prop where
  granted : s.grantable = none
  hold : s.sequencer.hold = true → s.anySwitching = true

theorem State.Settled.calm (h : s.Settled) : s.Calm := ⟨h.granted, h.hold⟩

theorem State.Calm.of_same (h : s.Calm) (hs : t.sequencer = s.sequencer) : t.Calm where
  granted := by
    rw [grantable_eq_none]
    simpa only [State.rackState, hs] using (grantable_eq_none s).1 h.granted
  hold hh := by
    have := h.hold (by rw [← hs]; exact hh)
    simpa only [State.anySwitching, State.rackState, hs] using this

/-- A rack at rest that does not become CONNECTED, its protective operation and pending disconnect kept,
leaves the sequencer calm. -/
theorem State.Calm.changeRack {r : Rack} {x : RackSwitch} {cause : RackCause} (h : s.Calm)
    (hs : (s.rackState r).switching = false) (hc : x.state ≠ .connected)
    (ho : x.operation.protective = (s.sequencer.racks.get r).operation.protective)
    (hd : x.disconnectPending = (s.sequencer.racks.get r).disconnectPending) :
    (changeRack r x cause s).Calm where
  granted := changeRack_grantable ho hd hc h.granted
  hold hh := by
    rcases changeRack_switching hh with hold | hany
    · obtain ⟨k, -, hk⟩ := List.any_eq_true.1 (h.hold hold)
      refine List.any_eq_true.2 ⟨k, Rack.mem_all k, ?_⟩
      rw [changeRack_rackState, if_neg fun hkr => by rw [hkr, hs] at hk; cases hk]
      exact hk
    · exact hany

/-- A sequencer at rest stays at rest where no rack, no WELDED latch and no hold changes. -/
theorem State.Settled.of_same (h : s.Settled) (hs : t.sequencer = s.sequencer)
    (hw : t.trips.container.welded = s.trips.container.welded) : t.Settled := by
  refine ⟨fun hh => ?_, (h.calm.of_same hs).granted, (h.calm.of_same hs).hold⟩
  have := h.welded (by rw [← hw]; exact hh)
  simpa only [State.containerGone, ContainerLatches.latch, State.anyWelded, hs, hw] using this

/-- A change of a rack that leaves it at rest, with its fault kind, its operation and its pending
disconnect, leaves the sequencer at rest. -/
theorem State.Settled.changeRack {r : Rack} {x : RackSwitch} {cause : RackCause} (h : s.Settled)
    (hs : (s.rackState r).switching = false) (hc : x.state ≠ .connected)
    (hf : x.faultKind = (s.sequencer.racks.get r).faultKind)
    (ho : x.operation.protective = (s.sequencer.racks.get r).operation.protective)
    (hd : x.disconnectPending = (s.sequencer.racks.get r).disconnectPending) :
    (changeRack r x cause s).Settled := by
  have hcalm : (Machine.changeRack r x cause s).Calm := h.calm.changeRack hs hc ho hd
  refine ⟨fun hh => ?_, hcalm.granted, hcalm.hold⟩
  have htrips : (Machine.changeRack r x cause s).trips.container = s.trips.container :=
    congrArg Prod.fst (latches_bystander.changeRack r x cause s)
  rw [htrips] at hh
  have hany : (Machine.changeRack r x cause s).anyWelded = s.anyWelded := by
    refine congrArg Rack.all.any (funext fun k => ?_)
    rw [(changeRack_sequencer r x cause s).1, PerRack.get_set]
    split
    next hk => rw [hk]; exact congrArg (fun f => decide (f = some FaultKind.welded)) hf
    next => rfl
  have := h.welded hh
  simpa only [State.containerGone, ContainerLatches.latch, htrips, hany] using this

/-- A LOCKED rack that becomes OPEN leaves the sequencer at rest. -/
theorem State.Settled.releaseLocked (h : s.Settled) (r : Rack) : (releaseLocked r s).Settled := by
  unfold Machine.releaseLocked
  split
  next hl =>
    simp only [Bool.and_eq_true, decide_eq_true_eq] at hl
    exact h.changeRack (by rw [hl.1]; rfl) (fun hc => by cases hc) rfl rfl rfl
  next => exact h

theorem judgeConverterSilent_settled (h : s.Settled) :
    (judgeContainerLatch .converterSilent s).Settled := by
  unfold judgeContainerLatch
  split
  · unfold clearContainerLatch
    dsimp only
    refine inAnyOrder_keeps (P := State.Settled) (fun _ _ h => h.of_same rfl rfl)
      (fun act ha x hx => ?_) (h.of_same ?_ ?_)
    · simp only [List.mem_cons, List.not_mem_nil, or_false] at ha
      rcases ha with rfl | rfl | rfl | rfl
      · refine hx.of_same (post_sequencer _ _) ?_
        rw [sameBut_trips (s := x) (A := [.site]) (by simp [sameBut_refl]) (by simp)]
      · exact forRacks_keeps (P := State.Settled) (fun r _ y hy => hy.releaseLocked r) hx
      · exact hx.of_same rfl rfl
      · exact hx.of_same rfl rfl
    · exact sameBut_sequencer (A := [.converter, .trips]) (by simp [sameBut_refl]) (by simp)
    · rw [sameBut_trips (s := s.withTrips { s.trips with
        container := s.trips.container.put .converterSilent .clear }) (A := [.converter])
        (by simp [sameBut_refl]) (by simp)]
      rfl
  · exact h

theorem workOutContainer_settled (h : s.Settled) : (workOutContainer s).Settled := by
  refine h.of_same ?_ ?_
  · exact sameBut_sequencer (A := [.limits, .converter]) (by simp [sameBut_refl]) (by simp)
  · rw [sameBut_trips (s := s) (A := [.limits, .converter]) (by simp [sameBut_refl]) (by simp)]

/-! ## Status messages (R161) -/

/-- The acts of a taken status leave the sequencer at rest and the watch alone. -/
theorem takeStatus_acts {x : ConverterStatus} {act : State → State}
    (ha : act ∈ (if s.converter.silent then [workOutContainer, judgeContainerLatch .converterSilent]
        else []) ++ (if s.converter.grid = x.grid then [] else [judgePermit]) ++
      (if decide (s.converter.shownState ≠ x.converter) ||
        decide (s.converter.reportedGrid ≠ x.grid) || decide (s.converter.grid ≠ x.grid) then
        [produceContainerSummary] else [])) (y : State) :
    (y.Settled → (act y).Settled) ∧ (act y).converter.watch = y.converter.watch := by
  have hmem : act ∈ [workOutContainer, judgeContainerLatch .converterSilent, judgePermit,
      produceContainerSummary] := by
    simp only [List.mem_append] at ha
    rcases ha with (ha | ha) | ha
    · have := mem_ite_nil ha
      simp only [List.mem_cons, List.not_mem_nil, or_false] at this ⊢
      tauto
    · split at ha
      · cases ha
      · simp only [List.mem_singleton] at ha
        simp [ha]
    · simp [List.mem_singleton.1 (mem_ite_nil ha)]
  simp only [List.mem_cons, List.not_mem_nil, or_false] at hmem
  rcases hmem with rfl | rfl | rfl | rfl
  · exact ⟨workOutContainer_settled, watch_bystander.workOutContainer y⟩
  · exact ⟨judgeConverterSilent_settled, watch_bystander.judgeContainerLatch (fun _ _ _ _ => rfl) _ y⟩
  · exact ⟨fun h => h.of_same rfl rfl, rfl⟩
  · exact ⟨fun h => h.of_same rfl rfl, rfl⟩

/-- A valid status is kept, and ends a silence. -/
theorem takeStatus_taken (x : ConverterStatus) (h : s.Settled) :
    (takeStatus x s).Settled ∧ (takeStatus x s).converter.watch =
      (some x, x.grid, false, .stopped, if s.isActive .grid then some s.now else none) := by
  unfold takeStatus
  dsimp only
  refine inAnyOrder_keeps (P := fun y => y.Settled ∧ y.converter.watch =
    (some x, x.grid, false, .stopped, if s.isActive .grid then some s.now else none))
    (fun y n hy => ⟨hy.1.of_same rfl rfl, hy.2⟩) (fun act ha y hy => ?_) ⟨h.of_same rfl rfl, rfl⟩
  obtain ⟨hset, hwatch⟩ := takeStatus_acts ha y
  exact ⟨hset hy.1, hwatch.trans hy.2⟩

theorem exec_converterStatus (f : StatusFrame) (s : State) :
    exec (.converterStatus f) s = .next (arbitrate (settle (receiveStatus f s))) := rfl

theorem exec_silenceWatchExpiry (s : State) :
    exec .silenceWatchExpiry s = actWhen s.silenceIsDue expireSilence s := rfl

theorem exec_silentTripExpiry (s : State) :
    exec .silentTripExpiry s = moveWhen s.silentTripIsDue expireSilentTrip s := rfl

/-- A status with a value that is not named, or outside its range, is none. -/
theorem statusOf_none {f : StatusFrame} {now : PartTime} (h : (∀ c, f.converter ≠ .named c) ∨
    (∀ g, f.grid ≠ .named g) ∨ ¬ (0 ≤ f.voltage ∧ f.voltage ≤ 10000 ∧ -20000 ≤ f.current ∧
      f.current ≤ 20000)) : statusOf f now = none := by
  unfold statusOf
  split
  next c g hc hg =>
    rcases h with h | h | h
    · exact absurd hc (h c)
    · exact absurd hg (h g)
    · exact if_neg h
  next => rfl

theorem statusOf_named {f : StatusFrame} {now : PartTime} {c : ConverterState} {g : GridState}
    (hc : f.converter = .named c) (hg : f.grid = .named g) (h : 0 ≤ f.voltage ∧ f.voltage ≤ 10000 ∧
      -20000 ≤ f.current ∧ f.current ≤ 20000) :
    statusOf f now = some ⟨f.voltage, f.current, c, g, now⟩ := by
  unfold statusOf
  rw [hc, hg]
  exact if_pos h

/-! ## Silence (R162, R163) -/

theorem workOutContainer_zeros (s : State) :
    (workOutContainer s).limits.zeros = s.zeroConditions := by
  unfold workOutContainer
  dsimp only
  rw [sameBut_limits (t := judgeFlags _ _) (A := [.converter])
    ((judgeFlags_frame _ _ _ (by decide)).2 (sameBut_refl _ _)) (by decide)]
  rfl

theorem judgeFlags_permit (lower : Bool) (s : State) :
    (judgeFlags lower s).converter.permit = s.converter.permit := by
  unfold judgeFlags messageDue
  dsimp only
  split
  · split <;> rfl
  · rfl

theorem workOutContainer_permit (s : State) :
    (workOutContainer s).converter.permit = s.converter.permit := judgeFlags_permit _ _

theorem gridActions_mem {a b : GridState} {act : State → State} (h : act ∈ gridActions a b) :
    act = judgePermit ∨ act = produceContainerSummary := by
  unfold gridActions at h
  split at h
  · cases h
  · simpa using h

/-- A silence takes the watch to LOST, and its acts leave it there. -/
theorem expireSilence_watch (s : State) : (expireSilence s).converter.watch =
    (s.converter.status, .lost, true, .running s.now, none) := by
  unfold expireSilence
  dsimp only
  refine (watch_bystander.inAnyOrder (fun act ha x => ?_) _).trans rfl
  rcases List.mem_cons.1 ha with rfl | ha
  · exact watch_bystander.workOutContainer x
  · rcases gridActions_mem ha with rfl | rfl <;> rfl

/-- A silence takes both container limits to 0. -/
theorem expireSilence_limits (s : State) :
    (expireSilence s).limits.container = ⟨0, 0⟩ ∧ (expireSilence s).limits.zeros.silent = true := by
  have hkept : ∀ act ∈ gridActions s.converter.grid .lost, ∀ x : State,
      (act x).limits = x.limits ∧ (act x).converter.silent = x.converter.silent := fun act ha x => by
    rcases gridActions_mem ha with rfl | rfl <;> exact ⟨rfl, rfl⟩
  have hsilent (x : State) : (workOutContainer x).converter.silent = x.converter.silent :=
    congrArg (·.2.2.1) (watch_bystander.workOutContainer x)
  have hwork : ∀ x : State, x.converter.silent = true →
      (workOutContainer x).limits.container = ⟨0, 0⟩ ∧
        (workOutContainer x).limits.zeros.silent = true := fun x hx => by
    have hz : x.zeroConditions.any = true := by simp [ZeroConditions.any, State.zeroConditions, hx]
    rw [workOutContainer_container, containerLimit_zero hz, containerLimit_zero hz,
      workOutContainer_zeros]
    exact ⟨rfl, hx⟩
  unfold expireSilence
  dsimp only
  refine (inAnyOrder_reaches (P := fun x => (x.limits.container = ⟨0, 0⟩ ∧
    x.limits.zeros.silent = true) ∧ x.converter.silent = true)
    (Q := fun x => x.converter.silent = true) (fun _ _ h => h) (fun _ _ h => h)
    (List.mem_cons_self (a := workOutContainer)) (fun act ha x hx => ?_) (fun act ha x hx => ?_)
    (fun x hx => ⟨hwork x hx, (hsilent x).trans hx⟩) rfl).1
  · rcases List.mem_cons.1 ha with rfl | ha
    · exact (hsilent x).trans hx
    · exact (hkept act ha x).2.trans hx
  · rcases List.mem_cons.1 ha with rfl | ha
    · exact ⟨hwork x hx.2, (hsilent x).trans hx.2⟩
    · rw [(hkept act ha x).1, (hkept act ha x).2]
      exact hx

/-- A silence that changes the grid state withdraws the permit. -/
theorem expireSilence_permit (h : s.converter.grid ≠ .lost) :
    (expireSilence s).converter.permit = false := by
  have hgrid (x : State) : (workOutContainer x).converter.grid = x.converter.grid :=
    congrArg (·.2.1) (watch_bystander.workOutContainer x)
  have hjudged : ∀ x : State, x.converter.grid = .lost → (judgePermit x).converter.permit = false :=
    fun x hx => by simp [judgePermit, State.permitCondition, hx]
  unfold expireSilence
  dsimp only
  refine (inAnyOrder_reaches (P := fun x => x.converter.permit = false ∧ x.converter.grid = .lost)
    (Q := fun x => x.converter.grid = .lost) (fun _ _ h => h) (fun _ _ h => h)
    (a := judgePermit) ?_ (fun act ha x hx => ?_) (fun act ha x hx => ?_)
    (fun x hx => ⟨hjudged x hx, hx⟩) rfl).1
  · rw [gridActions, if_neg h]
    simp
  · rcases List.mem_cons.1 ha with rfl | ha
    · exact (hgrid x).trans hx
    · rcases gridActions_mem ha with rfl | rfl <;> exact hx
  · rcases List.mem_cons.1 ha with rfl | ha
    · exact ⟨(workOutContainer_permit x).trans hx.1, (hgrid x).trans hx.2⟩
    · rcases gridActions_mem ha with rfl | rfl
      · exact ⟨hjudged x hx.2, hx.2⟩
      · exact hx

/-! ## The silent trip (R162) -/

/-- Nothing of the converter's timers is left to expire: the silence watch is stopped, and the silent
trip stands at its full value. -/
def Converter.spent (x : Converter) (ms : Nat) : Prop :=
  x.silenceWatch = none ∧ x.silentTrip = .full ms

theorem spent_of_watch {a b : Converter} {ms : Nat} (h : b.watch = a.watch) (hs : a.spent ms) :
    b.spent ms := by
  simp only [Converter.watch, Prod.mk.injEq] at h
  obtain ⟨-, -, -, ht, hw⟩ := h
  exact ⟨hw.trans hs.1, ht.trans hs.2⟩

theorem converterAtGridSwap_spent {ms : Nat} (h : s.converter.spent ms) :
    (converterAtGridSwap false s).converter.spent ms := by
  have hperiod : (periodDue s).converter.spent ms := by
    refine spent_of_watch ?_ h
    unfold periodDue
    split
    · exact watch_bystander.messageDue s
    · rfl
  have hsilence : silenceDue (periodDue s) = periodDue s := by
    have : (periodDue s).silenceIsDue = false := by
      unfold State.silenceIsDue
      rw [hperiod.1]
      split <;> rfl
    rw [silenceDue, this]
    rfl
  have htrip : silentTripDue (periodDue s) = periodDue s := by
    have : (periodDue s).silentTripIsDue = false := by
      rw [State.silentTripIsDue, hperiod.2]
      exact Bool.and_false _
    rw [silentTripDue, this]
    rfl
  show (silentTripDue (silenceDue (periodDue s))).converter.spent ms
  rw [hsilence, htrip]
  exact hperiod

/-- A GRID swap under an active GRID table leaves the spent timers alone. -/
theorem swapGrid_spent {ms : Nat} (ha : s.isActive .grid = true) (h : s.converter.spent ms) :
    (swapGrid s).converter.spent ms := by
  unfold swapGrid
  rw [ha]
  dsimp only
  refine spent_of_watch (a := (gridSwapped false (postSwapped .grid (swapBank .grid s))).converter)
    (congrArg Converter.watch (sameBut_converter (A := [.ring, .balance, .cooling, .tables, .site,
      .choices]) (by simp [sameBut_refl]) (by simp))) ?_
  refine inAnyOrder_keeps (P := fun x => x.converter.spent ms) (fun _ _ h => h)
    (fun act hact x hx => ?_) ?_
  · simp only [List.mem_cons, List.not_mem_nil, or_false] at hact
    rcases hact with rfl | rfl | rfl | rfl
    · exact spent_of_watch (watch_bystander.switchAtGridSwap (fun _ _ _ => rfl) x) hx
    · exact spent_of_watch (watch_bystander.workOutContainer x) hx
    · exact converterAtGridSwap_spent hx
    · refine spent_of_watch ?_ hx
      show (siteSilenceDue x).converter.watch = _
      unfold siteSilenceDue expireSiteSilence cancelQueue
      split
      · exact (forRacks_leaves (f := (·.converter.watch)) (fun r y => watch_bystander.leaveQueue r _ _ y) _ _).trans
          (watch_bystander.post _ _)
      · rfl
  · exact spent_of_watch (watch_bystander.post _ _) h

/-- The end of the hold leaves the spent timers alone; a GRID table that waited has swapped. -/
theorem endHold_spent {ms : Nat} (ha : s.isActive .grid = true) (h : s.converter.spent ms) :
    (endHold s).converter.spent ms ∧
      ((endHold s).tables = s.tables ∨ ((endHold s).table .grid).state = .clean) := by
  have htables : (workOutContainer (s.withSequencer { s.sequencer with hold := false })).tables =
      s.tables := (tables_bystander.workOutContainer _).trans (tables_bystander.sequencer _ _)
  have hwork : (workOutContainer (s.withSequencer
      { s.sequencer with hold := false })).converter.spent ms :=
    spent_of_watch ((watch_bystander.workOutContainer _).trans (watch_bystander.sequencer _ _)) h
  have hactive : (workOutContainer (s.withSequencer
      { s.sequencer with hold := false })).isActive .grid = true := by
    rw [isActive_congr htables]
    exact ha
  unfold endHold
  dsimp only
  split
  · split
    · refine ⟨swapGrid_spent hactive hwork, .inr ?_⟩
      rw [swapGrid_table_self]
      rfl
    · exact ⟨hwork, .inl htables⟩
  · exact ⟨h, .inl rfl⟩

theorem settle_spent {ms : Nat} (ha : s.isActive .grid = true) (h : s.converter.spent ms) :
    (settle s).converter.spent ms := by
  have hgrant (x : State) : (grantDisconnects 4 (judgeContainerLatch .welded x)).tables = x.tables :=
    (tables_bystander.grantDisconnects _ _).trans (tables_bystander.judgeContainerLatch (fun _ _ _ _ => rfl) _ _)
  have hkept (x : State) : (grantDisconnects 4 (judgeContainerLatch .welded x)).converter.watch =
      x.converter.watch :=
    (watch_bystander.grantDisconnects _ _).trans (watch_bystander.judgeContainerLatch (fun _ _ _ _ => rfl) _ _)
  obtain ⟨hspent, htables⟩ := endHold_spent
    (s := grantDisconnects 4 (judgeContainerLatch .welded s))
    (by rw [isActive_congr (hgrant s)]; exact ha) (spent_of_watch (hkept s) h)
  unfold settle
  generalize endHold (grantDisconnects 4 (judgeContainerLatch .welded s)) = x at hspent htables
  rcases htables with ht | hclean
  · exact (endHold_spent (by rw [isActive_congr (hgrant x), isActive_congr (ht.trans (hgrant s))]
                             exact ha) (spent_of_watch (hkept x) hspent)).1
  · exact spent_of_watch (watch_bystander.settleOnce (fun _ _ _ _ => rfl) (by rw [hclean]; decide)) hspent

/-- Settles O55. -/
theorem converterIsWatched : Obligations.ConverterIsWatched := by
  unfold Obligations.ConverterIsWatched
  refine ⟨?status, ?silence, ?trip⟩
  case status =>
    intro f s crc inside count
    refine ⟨fun hf => ?_, fun hf hc => ?_, fun hf hc hn => ?_, fun c g hf hc hconv hg hin hs => ?_⟩
    · rw [exec_converterStatus, receiveStatus, if_pos (by rw [hf]; rfl)]
      rfl
    · have hcrc : f.crc ≠ crc16 (statusBytesOf f) := hc
      rw [exec_converterStatus, receiveStatus, if_neg (by rw [hf]; decide), if_pos hcrc]
      rfl
    · have hcrc : f.crc = crc16 (statusBytesOf f) := hc
      rw [exec_converterStatus, receiveStatus, if_neg (by rw [hf]; decide),
        if_neg (not_not.2 hcrc), statusOf_none hn]
      rfl
    · have hcrc : f.crc = crc16 (statusBytesOf f) := hc
      obtain ⟨hset, hwatch⟩ := takeStatus_taken ⟨f.voltage, f.current, c, g, s.now⟩ hs
      refine ⟨_, exec_converterStatus f s, ?_⟩
      have hreceive : receiveStatus f s = takeStatus ⟨f.voltage, f.current, c, g, s.now⟩ s := by
        rw [receiveStatus, if_neg (by rw [hf]; decide), if_neg (not_not.2 hcrc),
          statusOf_named hconv hg hin]
      rw [hreceive, settle_stays hset, arbitrate_converter]
      simpa only [Converter.watch, Prod.mk.injEq] using hwatch
  case silence =>
    intro s g w hg hw hdue
    have hnow : s.silenceIsDue = true := by
      simp only [State.silenceIsDue, hg, hw, dueOption]
      exact (reached_iff _ _ _).2 hdue
    refine ⟨_, (exec_silenceWatchExpiry s).trans (actWhen_of hnow), ?_⟩
    have hwatch := expireSilence_watch s
    simp only [Converter.watch, Prod.mk.injEq] at hwatch
    obtain ⟨-, hlost, hsilent, htrip, hsw⟩ := hwatch
    obtain ⟨hcontainer, hzero⟩ := expireSilence_limits s
    rw [arbitrate_converter, arbitrate_limits]
    exact ⟨hsilent, htrip, hsw, hlost, hcontainer, hzero, expireSilence_permit⟩
  case trip =>
    intro s g w hg ht hw hdue
    have hactive : s.isActive .grid = true := by rw [isActive_grid, hg]; rfl
    have htime : s.silentTripTime = g.silentTrip * 1000 := by rw [State.silentTripTime, hg]
    have hnow : s.silentTripIsDue = true := by
      rw [State.silentTripIsDue, hactive, ht, htime]
      exact (reached_iff _ _ _).2 hdue
    refine ⟨_, (exec_silentTripExpiry s).trans (moveWhen_of hnow), ?_⟩
    rw [arbitrate_converter, arbitrate_trips]
    have hspent : (expireSilentTrip s).converter.spent (g.silentTrip * 1000) := by
      rw [← htime]
      exact spent_of_watch (watch_bystander.takeCause_free (fun _ _ _ => rfl) _ _
        (s.withConverter { s.converter with silentTrip := .full s.silentTripTime })) ⟨hw, rfl⟩
    have hexpired : (expireSilentTrip s).isActive .grid = true := by
      have htables : (expireSilentTrip s).tables = s.tables := tables_bystander.takeCause_free (fun _ _ _ => rfl) _ _ _
      rw [isActive_congr htables]
      exact hactive
    refine ⟨(settle_spent hexpired hspent).2,
      settle_container_taken (k := .converterSilent) (takeCause_container rfl _ _), fun r hr => ?_⟩
    have hlive := settle_live (takeCause_live .converterSilent none .converterSilent
      (s.withConverter { s.converter with silentTrip := .full s.silentTripTime })
      (r := r) (Rack.mem_all r))
    rw [rackState_eq_of_sequencer (arbitrate_sequencer _)] at hr
    rw [expireSilentTrip] at hr
    rw [hr] at hlive
    cases hlive

end Sys2Proof.Machine

namespace Sys2Proof.Machine

variable {s t : State}

/-! ## The history of causes (R148, R153) -/

theorem addRecord_spec (rec : TripRecord) {history : List TripRecord} (h : history.length ≤ 16) :
    (addRecord rec history).length = min 16 (history.length + 1) ∧
      (addRecord rec history).getLast? = some rec := by
  unfold addRecord
  split
  · exact ⟨by simp; omega, by simp⟩
  · exact ⟨by simp; omega, by simp⟩

/-- Taking a cause writes one record: the counter advances by one, and the record is the last of the
history, which keeps at most 16. -/
theorem takeCause_history (kind : TripKind) (named : Option Rack) (data : CauseData)
    (h : s.trips.history.length ≤ 16) :
    (takeCause kind named data s).trips.sequence = s.trips.sequence + 1 ∧
      (takeCause kind named data s).trips.history.length = min 16 (s.trips.history.length + 1) ∧
      ∃ x, (takeCause kind named data s).trips.history.getLast? = some x ∧
        x.key = (recordOf kind named data s).key := by
  have hledger : (takeCause kind named data s).trips.ledger = (s.trips.sequence + 1,
      (addRecord (recordOf kind named data s) s.trips.history).map TripRecord.key) := by
    refine (ledger_bystander.takeCause kind named data s).trans ?_
    cases named <;> rfl
  generalize takeCause kind named data s = t at hledger
  obtain ⟨hlength, hlast⟩ := addRecord_spec (recordOf kind named data s) h
  have hkeys : t.trips.history.map TripRecord.key =
      (addRecord (recordOf kind named data s) s.trips.history).map TripRecord.key :=
    congrArg Prod.snd hledger
  refine ⟨congrArg Prod.fst hledger, ?_, ?_⟩
  · rw [← hlength, ← List.length_map (f := TripRecord.key), hkeys, List.length_map]
  · have hget := congrArg List.getLast? hkeys
    rw [List.getLast?_map, List.getLast?_map, hlast, Option.map_some, Option.map_eq_some_iff] at hget
    exact hget

/-! ## The overcurrent check (R147) -/

theorem excessOf_none {i : Int} {limit : PerDirection Nat} {margin : Nat}
    (h : ¬ ((limit.charge : Int) + margin < i ∨ i < -((limit.discharge : Int) + margin))) :
    excessOf i limit margin = none := by
  push Not at h
  rw [excessOf, if_neg (by omega), if_neg (by omega)]

theorem excessOf_some {i : Int} {limit : PerDirection Nat} {margin : Nat}
    (h : (limit.charge : Int) + margin < i ∨ i < -((limit.discharge : Int) + margin)) :
    ∃ x, excessOf i limit margin = some x := by
  unfold excessOf
  by_cases hc : (limit.charge : Int) + margin < i
  · exact ⟨_, if_pos hc⟩
  · exact ⟨_, (if_neg hc).trans (if_pos (h.resolve_left hc))⟩

section
variable {g : GridRecord} {r : Rack} (hg : s.grid = some g)
include hg

theorem overcurrentCheck_unconnected (hr : s.rackState r ≠ .connected) :
    overcurrentCheck r s = setOverrun r none s := by
  rw [overcurrentCheck, hg]
  exact if_pos hr

theorem overcurrentCheck_stale (hr : s.rackState r = .connected) (hj : s.junctionFresh r = none) :
    overcurrentCheck r s = s := by
  rw [overcurrentCheck, hg]
  dsimp only
  rw [if_neg (not_not.2 hr), hj]

variable {i : Int} {stamp : PartTime} (hr : s.rackState r = .connected)
  (hj : s.junctionFresh r = some (i, stamp))
include hr hj

theorem overcurrentCheck_within
    (he : excessOf i (s.limits.racks.get r).limit g.overrunMargin = none) :
    overcurrentCheck r s = setOverrun r none s := by
  rw [overcurrentCheck, hg]
  dsimp only
  rw [if_neg (not_not.2 hr), hj]
  dsimp only
  rw [he]

theorem overcurrentCheck_excess {direction : Direction} {limit : Nat}
    (he : excessOf i (s.limits.racks.get r).limit g.overrunMargin = some (direction, limit)) :
    overcurrentCheck r s =
      if g.overrunTime ≤ elapsed stamp ((s.trips.racks.get r).overrunStart.getD stamp) then
        setOverrun r none (takeCause .overcurrent (some r) (.overcurrent direction i limit stamp)
          (setOverrun r none s))
      else setOverrun r (some ((s.trips.racks.get r).overrunStart.getD stamp)) s := by
  rw [overcurrentCheck, hg]
  dsimp only
  rw [if_neg (not_not.2 hr), hj]
  dsimp only
  rw [he]

end

theorem exec_blindTimerExpiry (r : Rack) (s : State) : exec (.blindTimerExpiry r) s =
    moveWhen (s.blindIsDue r) (fun x => expireBlind r (x.blindTime r) x) s := rfl

theorem rackState_of_not_live {st : RackState} (h : st.live = false) :
    st ≠ .queued ∧ st ≠ .precharging ∧ st ≠ .joining ∧ st ≠ .connected := by
  cases st <;> simp_all [RackState.live]

/-- Settles O52. -/
theorem causesAreTaken : Obligations.CausesAreTaken := by
  unfold Obligations.CausesAreTaken
  refine ⟨?taken, ?checked, ?blind⟩
  case taken =>
    intro kind named data s hkind hlength t
    obtain ⟨hsequence, hhistory, x, hlast, hkey⟩ := takeCause_history kind named data hlength
    simp only [TripRecord.key, Prod.mk.injEq] at hkey
    obtain ⟨hnumber, hk, hrack, -, -, hcycle⟩ := hkey
    refine ⟨fun r hr => ?_, fun hn => ?_, hsequence, hhistory, ⟨x, hlast, hnumber, hk, hrack, hcycle⟩,
      fun r hr => rackState_of_not_live (takeCause_live kind named data s ?_)⟩
    · subst hr
      exact takeCause_rack hkind r data s
    · subst hn
      exact takeCause_container hkind data s
    · rcases hr with rfl | rfl
      · exact Rack.mem_all r
      · exact List.mem_singleton.2 rfl
  case checked =>
    intro s r g hg l limit starting t
    refine ⟨fun hr => overcurrentCheck_unconnected hg hr, fun hr hj => overcurrentCheck_stale hg hr hj,
      fun i stamp hr hj => ?_⟩
    intro excess start lasted
    refine ⟨fun he => ?_, fun he hl => ?_, fun he hl hh => ?_⟩
    · exact overcurrentCheck_within hg hr hj (excessOf_none he)
    · obtain ⟨⟨direction, bound⟩, hx⟩ := excessOf_some he
      exact (overcurrentCheck_excess hg hr hj hx).trans (if_neg (Nat.not_le.2 hl))
    · obtain ⟨⟨direction, bound⟩, hx⟩ := excessOf_some he
      have ht : t = setOverrun r none (takeCause .overcurrent (some r)
          (.overcurrent direction i bound stamp) (setOverrun r none s)) :=
        (overcurrentCheck_excess hg hr hj hx).trans (if_pos hl)
      have hlatch := takeCause_rack (kind := .overcurrent) rfl r (.overcurrent direction i bound stamp)
        (setOverrun r none s)
      have hlive := takeCause_live .overcurrent (some r) (.overcurrent direction i bound stamp)
        (setOverrun r none s) (List.mem_singleton.2 rfl)
      obtain ⟨-, -, x, hlast, hkey⟩ := takeCause_history (s := setOverrun r none s) .overcurrent
        (some r) (.overcurrent direction i bound stamp) hh
      generalize takeCause .overcurrent (some r) (.overcurrent direction i bound stamp)
        (setOverrun r none s) = y at ht hlatch hlive hlast
      simp only [TripRecord.key, Prod.mk.injEq] at hkey
      obtain ⟨-, hk, hrack, hvalue, hstamp, -⟩ := hkey
      have hself : t.trips.racks.get r = { y.trips.racks.get r with overrunStart := none } := by
        rw [ht]
        exact PerRack.get_set_self _ _ _
      rw [hself]
      have hstate : t.rackState r = y.rackState r := by rw [ht]; rfl
      refine ⟨hlatch, rfl, ?_, x, ?_, hk, hrack, hvalue, hstamp⟩
      · rw [hstate]
        exact (rackState_of_not_live hlive).2.2.2
      · rw [ht]
        exact hlast
  case blind =>
    intro s r e he hdue a
    have hnow : s.blindIsDue r = true := by
      rw [State.blindIsDue, he]
      exact hdue
    rw [exec_blindTimerExpiry, moveWhen_of hnow, State.blindTime, he]
    rfl

end Sys2Proof.Machine

namespace Sys2Proof.Machine

variable {s t u : State}

/-! ## Latches that only clear (R154, R155) -/

/-- Every latch stands as it stood, or is clear. -/
def OnlyClears (s t : State) : Prop :=
  ∀ n, t.latchNamed n = s.latchNamed n ∨ t.latchNamed n = .clear

theorem OnlyClears.trans (h : OnlyClears s t) (k : OnlyClears t u) : OnlyClears s u := fun n => by
  rcases k n with hk | hk
  · rw [hk]
    exact h n
  · exact .inr hk

theorem onlyClears_of_latches (h : t.trips.latches = s.trips.latches) : OnlyClears s t := by
  rintro ⟨r | r, k⟩
  · exact .inl (congrArg (fun x => ContainerLatches.latch x k) (congrArg Prod.fst h))
  · exact .inl (congrFun (congrFun (congrArg Prod.snd h) r) k)

theorem onlyClears_refl (s : State) : OnlyClears s s := onlyClears_of_latches rfl

theorem forRacks_onlyClears {act : Rack → State → State} (h : ∀ r x, OnlyClears x (act r x))
    (racks : List Rack) (s : State) : OnlyClears s (forRacks racks act s) :=
  forRacks_keeps (P := OnlyClears s) (fun r _ x hx => hx.trans (h r x)) (onlyClears_refl s)

theorem foldl_onlyClears {α : Type} {act : α → State → State} (h : ∀ a x, OnlyClears x (act a x))
    (xs : List α) (s : State) : OnlyClears s (xs.foldl (fun acc a => act a acc) s) := by
  induction xs generalizing s with
  | nil => exact onlyClears_refl s
  | cons a xs ih => exact (h a s).trans (ih _)

/-- Clearing a rack latch clears that one and no other. -/
theorem clearRackLatch_latches (r : Rack) (kind : TripKind) (s : State) :
    OnlyClears s (clearRackLatch r kind s) ∧
      (clearRackLatch r kind s).latchNamed (some r, kind) = .clear := by
  unfold clearRackLatch
  dsimp only
  generalize hl : ({ (s.trips.racks.get r).put kind .clear with
    ovAwaited := if kind = .nodeHwOv then [] else ((s.trips.racks.get r).put kind .clear).ovAwaited
    uvAwaited := if kind = .nodeHwUv then [] else
      ((s.trips.racks.get r).put kind .clear).uvAwaited } : RackLatches) = l
  have hlatch : ∀ j, l.latch j = ((s.trips.racks.get r).put kind .clear).latch j := fun j => by
    subst hl
    cases j <;> rfl
  have hacts : (inAnyOrder [post (.tripCleared (some r) kind), releaseLocked r,
      produceContainerSummary] (judgeFlags false (s.setRackLatches r l))).trips.latches =
      (s.setRackLatches r l).trips.latches := by
    refine (latches_bystander.inAnyOrder (fun act ha x => ?_) _).trans
      (latches_bystander.judgeFlags _ _)
    simp only [List.mem_cons, List.not_mem_nil, or_false] at ha
    rcases ha with rfl | rfl | rfl
    · exact latches_bystander.post _ _
    · exact latches_bystander.releaseLocked _ _
    · exact latches_bystander.summary _
  have hset : ∀ k j, (s.setRackLatches r l).latchNamed (some k, j) =
      if k = r then ((s.trips.racks.get r).put kind .clear).latch j
      else (s.trips.racks.get k).latch j := fun k j => by
    show ((s.trips.racks.set r l).get k).latch j = _
    rw [PerRack.get_set]
    split
    · exact hlatch j
    · rfl
  refine ⟨OnlyClears.trans (t := s.setRackLatches r l) ?_ (onlyClears_of_latches hacts), ?_⟩
  · rintro ⟨k | k, j⟩
    · exact .inl rfl
    · rw [hset]
      split
      next h =>
        subst h
        exact (rackPut_latch_eq_or _ _ _ _).symm
      next => exact .inl rfl
  · refine (congrFun (congrFun (congrArg Prod.snd hacts) r) kind).trans ((hset r kind).trans ?_)
    rw [if_pos rfl, put_clear_latch]

theorem judgeRackLatch_onlyClears (r : Rack) (kind : TripKind) (s : State) :
    OnlyClears s (judgeRackLatch r kind s) := by
  unfold judgeRackLatch
  dsimp only
  split
  · exact (clearRackLatch_latches r kind s).1
  · exact onlyClears_refl s

theorem judgeRackLatches_onlyClears (r : Rack) (s : State) :
    OnlyClears s (judgeRackLatches r s) :=
  foldl_onlyClears (judgeRackLatch_onlyClears r) _ _

/-- Clearing a container latch clears that one and no other. -/
theorem clearContainerLatch_latches {kind : TripKind} (h : kind.isContainer = true) (s : State) :
    OnlyClears s (clearContainerLatch kind s) ∧
      (clearContainerLatch kind s).latchNamed (none, kind) = .clear := by
  have hacts : (clearContainerLatch kind s).trips.latches =
      (s.withTrips { s.trips with
        container := s.trips.container.put kind .clear }).trips.latches := by
    unfold clearContainerLatch
    refine (latches_bystander.inAnyOrder (fun act ha x => ?_) _).trans
      (latches_bystander.judgeFlags _ _)
    simp only [List.mem_cons, List.not_mem_nil, or_false] at ha
    rcases ha with rfl | rfl | rfl | rfl
    · exact latches_bystander.post _ _
    · exact forRacks_leaves (f := (·.trips.latches)) latches_bystander.releaseLocked _ _
    · exact latches_bystander.judgePermit _
    · exact latches_bystander.summary _
  refine ⟨OnlyClears.trans ?_ (onlyClears_of_latches hacts), ?_⟩
  · rintro ⟨r | r, j⟩
    · exact (containerPut_latch_eq_or s.trips.container kind j .clear).symm
    · exact .inl rfl
  · exact (congrArg (fun x => ContainerLatches.latch x.1 kind) hacts).trans
      (containerPut_latch_self h _ _)

theorem containerGone_kind {kind : TripKind} (h : s.containerGone kind = true) :
    kind.isContainer = true := by
  cases kind <;> first | rfl | cases h

theorem judgeContainerLatch_onlyClears (kind : TripKind) (s : State) :
    OnlyClears s (judgeContainerLatch kind s) := by
  unfold judgeContainerLatch
  split
  next h =>
    rw [Bool.and_eq_true] at h
    exact (clearContainerLatch_latches (containerGone_kind h.2) s).1
  next => exact onlyClears_refl s

/-- Settling that swaps no GRID table clears latches at most. -/
theorem settle_onlyClears (h : (s.table .grid).state ≠ .committed) : OnlyClears s (settle s) := by
  have once (x : State) (hx : (x.table .grid).state ≠ .committed) :
      OnlyClears x (endHold (grantDisconnects 4 (judgeContainerLatch .welded x))) := by
    have htables := (tables_bystander.grantDisconnects 4 _).trans
      (tables_bystander.judgeContainerLatch (fun _ _ _ _ => rfl) .welded x)
    rw [endHold_unswapped (by rw [table_congr htables]; exact hx)]
    have hgrant := (judgeContainerLatch_onlyClears .welded x).trans (onlyClears_of_latches
      (latches_bystander.grantDisconnects 4 (judgeContainerLatch .welded x)))
    split
    · exact hgrant.trans (onlyClears_of_latches ((latches_bystander.workOutContainer _).trans
        (latches_bystander.sequencer _ _)))
    · exact hgrant
  refine (once s h).trans (once _ ?_)
  rw [table_congr (tables_bystander.settleOnce (fun _ _ _ _ => rfl) h)]
  exact h

/-! ## Acknowledgement (R156) -/

/-- A latch that stands is acknowledged. -/
def Latch.answered (l : Latch) : Prop := l.standing = true → l.acknowledged = true

theorem acked_answered (l : Latch) : l.acked.answered := fun h => by
  have hs : l.standing = true := h
  simp [Latch.acked, hs]

theorem OnlyClears.answered (h : OnlyClears s t) {n : LatchName} (hs : (s.latchNamed n).answered) :
    (t.latchNamed n).answered := by
  rcases h n with hn | hn <;> rw [hn]
  · exact hs
  · exact fun h => by cases h

theorem OnlyClears.standing (h : OnlyClears s t) {n : LatchName}
    (hs : (s.latchNamed n).standing = false) : (t.latchNamed n).standing = false := by
  rcases h n with hn | hn <;> rw [hn]
  · exact hs
  · rfl

/-- An acknowledgement leaves a latch as it is, or acknowledges it. -/
theorem ackLatch_latch (m n : LatchName) (s : State) :
    (ackLatch m s).latchNamed n = s.latchNamed n ∨
      (ackLatch m s).latchNamed n = (s.latchNamed m).acked := by
  obtain ⟨m, k⟩ := m
  obtain ⟨n, j⟩ := n
  cases m with
  | none =>
    cases n with
    | none => exact (containerPut_latch_eq_or s.trips.container k j _).symm
    | some r => exact .inl rfl
  | some q =>
    cases n with
    | none => exact .inl rfl
    | some r =>
      have hget : (ackLatch (some q, k) s).latchNamed (some r, j) =
          if r = q then ((s.trips.racks.get q).put k ((s.trips.racks.get q).latch k).acked).latch j
          else (s.trips.racks.get r).latch j := by
        show ((s.trips.racks.set q _).get r).latch j = _
        rw [PerRack.get_set]
        split <;> rfl
      rw [hget]
      split
      next h =>
        subst h
        exact (rackPut_latch_eq_or _ _ _ _).symm
      next => exact .inl rfl

theorem ackLatch_self (n : LatchName) (s : State) : ((ackLatch n s).latchNamed n).answered := by
  obtain ⟨m, k⟩ := n
  cases m with
  | none =>
    cases hk : k.isContainer with
    | true =>
      show ((s.trips.container.put k (s.trips.container.latch k).acked).latch k).answered
      rw [containerPut_latch_self hk]
      exact acked_answered _
    | false =>
      intro h
      cases k <;> first | cases h | cases hk
  | some r =>
    cases hk : k.isContainer with
    | true =>
      intro h
      cases k <;> first | cases h | cases hk
    | false =>
      show (((s.trips.racks.set r _).get r).latch k).answered
      rw [PerRack.get_set_self, rackPut_latch_self hk]
      exact acked_answered _

/-- Once acknowledged, every latch named that stands is. -/
theorem ackLatches_answered {names : List LatchName} {n : LatchName}
    (h : n ∈ names ∨ (s.latchNamed n).answered) :
    ((names.foldl (fun acc n => ackLatch n acc) s).latchNamed n).answered := by
  induction names generalizing s with
  | nil => exact h.resolve_left (by simp)
  | cons m names ih =>
    refine ih ?_
    rcases h with h | h
    · rcases List.mem_cons.1 h with rfl | h
      · exact .inr (ackLatch_self n s)
      · exact .inl h
    · refine .inr ?_
      rcases ackLatch_latch m n s with hn | hn <;> rw [hn]
      · exact h
      · exact acked_answered _

/-- The latches a CLEAR_TRIP may acknowledge (R156). -/
def mayAcknowledge (racks : List Rack) : List LatchName :=
  (racks.flatMap fun r => TripKind.rackKinds.map fun k => ((some r, k) : LatchName)) ++
    TripKind.ackableKinds.map fun k => ((none, k) : LatchName)

theorem clearable_eq (racks : List Rack) (s : State) :
    s.clearable racks = (mayAcknowledge racks).filter fun n => (s.latchNamed n).standing := rfl

theorem mem_mayAcknowledge {racks : List Rack} {n : LatchName} : n ∈ mayAcknowledge racks ↔
    (∃ r ∈ racks, ∃ k ∈ TripKind.rackKinds, n = (some r, k)) ∨
      ∃ k ∈ TripKind.ackableKinds, n = (none, k) := by
  simp only [mayAcknowledge, List.mem_append, List.mem_flatMap, List.mem_map, eq_comm]

theorem clearable_nil_iff {racks : List Rack} : (s.clearable racks).isEmpty = true ↔
    ∀ n ∈ mayAcknowledge racks, (s.latchNamed n).standing = false := by
  rw [clearable_eq, List.isEmpty_iff, List.filter_eq_nil_iff]
  simp only [Bool.not_eq_true]

/-- An acknowledged side that leaves TRIP is announced by its event alone (R36, R37). -/
theorem acknowledged_announced (rec : Record) (side : LevelSide) (set : Option LimitSet)
    (v : Option Int) (before : Option SideState) (s : State) :
    (sideChange rec side before (before.map (SideState.acknowledge set side v)) s).trips =
      s.trips := by
  cases before with
  | none => rfl
  | some x =>
    show (if x.level = (x.acknowledge set side v).level then s else
      levelChanged rec side x.level (x.acknowledge set side v).level s).trips = s.trips
    split
    next => rfl
    next hlevel =>
      have htrip : x.level = .trip := by
        by_contra hl
        exact hlevel (by rw [acknowledge_idle hl])
      generalize (x.acknowledge set side v).level = after at hlevel
      have hclimbs : levelChanged rec side x.level after s = inAnyOrder
          [post (.limitState rec.rack rec.node rec.channel side x.level after rec.value
            rec.stamp)] s := by
        cases after with
        | trip => exact absurd htrip hlevel
        | warn =>
          unfold levelChanged
          rw [htrip]
          rfl
        | normal => rfl
      rw [hclimbs]
      exact sameBut_trips (A := [.site, .choices]) (by simp [sameBut_refl]) (by simp)

theorem acknowledgeSides_trips (r : Rack) (s : State) : (acknowledgeSides r s).trips = s.trips := by
  have hone : ∀ (rec : Record) (x : State), (acknowledgeRecord rec x).trips = x.trips := by
    intro rec x
    unfold acknowledgeRecord announceSides
    dsimp only
    exact (acknowledged_announced _ _ _ _ _ _).trans (acknowledged_announced _ _ _ _ _ _)
  unfold acknowledgeSides
  generalize s.rackRecords r = xs
  induction xs generalizing s with
  | nil => rfl
  | cons x xs ih => exact (ih _).trans (hone x s)

/-- Step 1 to 3 of a CLEAR_TRIP leave every latch it may acknowledge answered, and OVERCURRENT and
EMERGENCY clear (R154 to R156). -/
theorem clearTrips_latches (racks : List Rack) (s : State) :
    (∀ n ∈ mayAcknowledge racks,
        ((clearTrips racks (s.clearable racks) s).latchNamed n).answered) ∧
      (∀ r ∈ racks,
        ((clearTrips racks (s.clearable racks) s).latchNamed (some r, .overcurrent)).standing =
          false) ∧
      ((clearTrips racks (s.clearable racks) s).latchNamed (none, .emergency)).standing = false := by
  have hacked : ∀ n ∈ mayAcknowledge racks,
      (((s.clearable racks).foldl (fun acc n => ackLatch n acc) s).latchNamed n).answered := by
    intro n hn
    refine ackLatches_answered ?_
    by_cases hs : (s.latchNamed n).standing = true
    · exact .inl (List.mem_filter.2 ⟨hn, hs⟩)
    · exact .inr fun h => absurd h hs
  unfold clearTrips
  dsimp only
  generalize (s.clearable racks).foldl (fun acc n => ackLatch n acc) s = s1 at hacked
  have hsides : (forRacks racks acknowledgeSides s1).trips = s1.trips :=
    forRacks_leaves (f := (·.trips)) acknowledgeSides_trips racks s1
  generalize forRacks racks acknowledgeSides s1 = s2 at hsides
  have hanswered : ∀ n ∈ mayAcknowledge racks, (s2.latchNamed n).answered := fun n hn =>
    (onlyClears_of_latches (congrArg Trips.latches hsides)).answered (hacked n hn)
  have hracks : OnlyClears s2 (forRacks racks judgeRackLatches s2) :=
    forRacks_onlyClears judgeRackLatches_onlyClears racks s2
  have hover : ∀ r ∈ racks,
      ((forRacks racks judgeRackLatches s2).latchNamed (some r, .overcurrent)).standing = false := by
    intro r hr
    refine forRacks_reaches
      (P := fun x => (x.latchNamed (some r, .overcurrent)).standing = false)
      (Q := fun x => (x.latchNamed (some r, .overcurrent)).answered)
      (fun k x hx => (judgeRackLatches_onlyClears k x).standing hx)
      (fun k x hx => (judgeRackLatches_onlyClears k x).answered hx) (fun x hx => ?_) hr
      (hanswered _ (mem_mayAcknowledge.2 (.inl ⟨r, hr, _, by decide, rfl⟩)))
    have hlast : judgeRackLatches r x = judgeRackLatch r .overcurrent
        ([.cellOv, .cellUv, .cellOt, .nodeHwOv, .nodeHwUv, .blind].foldl
          (fun acc k => judgeRackLatch r k acc) x) := rfl
    rw [hlast]
    have hy := (foldl_onlyClears (judgeRackLatch_onlyClears r)
      [.cellOv, .cellUv, .cellOt, .nodeHwOv, .nodeHwUv, .blind] x).answered hx
    generalize [TripKind.cellOv, .cellUv, .cellOt, .nodeHwOv, .nodeHwUv, .blind].foldl
      (fun acc k => judgeRackLatch r k acc) x = y at hy
    unfold judgeRackLatch
    dsimp only
    split
    · rw [(clearRackLatch_latches r .overcurrent y).2]
      rfl
    next h =>
      refine Bool.eq_false_iff.2 fun hstand => h ?_
      have hack := hy hstand
      simp only [State.latchNamed] at hstand hack
      rw [hstand, hack]
      rfl
  generalize forRacks racks judgeRackLatches s2 = s3 at hracks hover
  have hfinal := foldl_onlyClears judgeContainerLatch_onlyClears TripKind.ackableKinds s3
  refine ⟨fun n hn => hfinal.answered (hracks.answered (hanswered n hn)),
    fun r hr => hfinal.standing (hover r hr), ?_⟩
  have hlast : TripKind.ackableKinds.foldl (fun acc k => judgeContainerLatch k acc) s3 =
      judgeContainerLatch .emergency
        ([TripKind.converterSilent, .welded].foldl (fun acc k => judgeContainerLatch k acc) s3) := rfl
  rw [hlast]
  have hy := (foldl_onlyClears judgeContainerLatch_onlyClears [.converterSilent, .welded]
    s3).answered (hracks.answered
      (hanswered (none, .emergency) (mem_mayAcknowledge.2 (.inr ⟨_, by decide, rfl⟩))))
  generalize [TripKind.converterSilent, .welded].foldl (fun acc k => judgeContainerLatch k acc) s3 =
    y at hy
  unfold judgeContainerLatch
  split
  · rw [(clearContainerLatch_latches (kind := .emergency) rfl y).2]
    rfl
  next h =>
    refine Bool.eq_false_iff.2 fun hstand => h ?_
    have hack := hy hstand
    simp only [State.latchNamed] at hstand hack
    rw [hstand, State.containerGone, hack]
    rfl

theorem clearTrips_tables (racks : List Rack) (names : List LatchName) (s : State) :
    (clearTrips racks names s).tables = s.tables := by
  have hack : (names.foldl (fun acc n => ackLatch n acc) s).tables = s.tables := by
    induction names generalizing s with
    | nil => rfl
    | cons n names ih => exact (ih _).trans (sameBut_tables (ackLatch_sameBut n s) (by simp))
  have hsides (r : Rack) (x : State) : (acknowledgeSides r x).tables = x.tables := by
    unfold acknowledgeSides
    generalize x.rackRecords r = xs
    induction xs generalizing x with
    | nil => rfl
    | cons a xs ih => exact (ih _).trans (acknowledgeRecord_tables a x)
  unfold clearTrips
  dsimp only
  refine Eq.trans ?_ ((forRacks_leaves (f := (·.tables)) hsides racks _).trans hack)
  exact sameBut_tables (A := [.limits, .sequencer, .trips, .converter, .site, .choices])
    (by simp [sameBut_refl, TripKind.ackableKinds, forRacks_frame]) (by simp)

theorem exec_readTrips (tag : Byte) (s : State) :
    exec (.readTrips tag) s = serve tag .readTrips answerReadTrips s := rfl

theorem exec_clearTripHistory (tag : Byte) (s : State) :
    exec (.clearTripHistory tag) s = serve tag .clearTripHistory answerClearTripHistory s := rfl

/-- Settles O53. -/
theorem tripRequestsAct : Obligations.TripRequestsAct := by
  unfold Obligations.TripRequestsAct
  intro tag mask rest s
  refine ⟨fun ho => ?_, fun ho => ⟨fun he => ?_, fun he => ?_⟩, fun ho hgrid => ?_⟩
  · exact (exec_readTrips tag s).trans (serve_answered ho rfl)
  · refine (exec_clearTripHistory tag s).trans (serve_answered ho ?_)
    exact if_pos (List.isEmpty_iff.2 he)
  · refine (exec_clearTripHistory tag s).trans
      (serve_answered (t := s.withTrips { s.trips with history := [] }) ho ?_)
    exact if_neg fun h => he (List.isEmpty_iff.1 h)
  · intro containerKinds stands
    have hstands : stands ↔ ((s.clearable (racksOf mask)).isEmpty &&
        !(racksOf mask).any s.rackTripSide) = false := by
      rw [← not_iff_not, Bool.not_eq_false, Bool.and_eq_true, clearable_nil_iff]
      simp only [stands, mem_mayAcknowledge, Bool.not_eq_true', List.any_eq_false, not_or,
        not_exists, not_and, Bool.not_eq_true]
      refine ⟨fun ⟨hr, hc, hsides⟩ => ⟨?_, hsides⟩, fun ⟨hn, hsides⟩ =>
        ⟨fun r hr k hk => hn _ (.inl ⟨r, hr, k, hk, rfl⟩), fun k hk => hn _ (.inr ⟨k, hk, rfl⟩),
          hsides⟩⟩
      rintro n (⟨r, hm, k, hk, rfl⟩ | ⟨k, hk, rfl⟩)
      · exact hr r hm k hk
      · exact hc k hk
    refine ⟨fun hn => ?_, fun hs => ?_⟩
    · refine (exec_clearTrip tag mask s).trans (serveMoving_answered ho ?_)
      rw [hstands, Bool.not_eq_false] at hn
      exact if_pos hn
    · refine ⟨_, (exec_clearTrip tag mask s).trans (serveMoving_offered ho _), ?_⟩
      have hanswer : (answerClearTrip mask (s.taking rest)).state = clearTrips (racksOf mask)
          ((s.taking rest).clearable (racksOf mask)) (s.taking rest) := by
        unfold answerClearTrip
        dsimp only
        rw [if_neg]
        rw [Bool.not_eq_true]
        exact hstands.1 hs
      have htrips : (takeRequest tag (.clearTrip mask) (answerClearTrip mask) s).trips =
          (answerClearTrip mask (s.taking rest)).state.trips := by
        rw [takeRequest_offered ho]
        rfl
      have htables : (takeRequest tag (.clearTrip mask) (answerClearTrip mask) s).tables =
          s.tables := by
        rw [takeRequest_offered ho]
        show (answerClearTrip mask (s.taking rest)).state.tables = s.tables
        rw [hanswer, clearTrips_tables]
        rfl
      obtain ⟨hack, hover, hemergency⟩ := clearTrips_latches (racksOf mask) (s.taking rest)
      rw [← hanswer] at hack hover hemergency
      generalize takeRequest tag (.clearTrip mask) (answerClearTrip mask) s = x at htrips htables
      have hclears : OnlyClears (answerClearTrip mask (s.taking rest)).state (arbitrate (settle x)) :=
        (onlyClears_of_latches (congrArg Trips.latches htrips)).trans
          ((settle_onlyClears (by rw [table_congr htables]; exact hgrid)).trans
            (onlyClears_of_latches (congrArg Trips.latches (arbitrate_trips _))))
      refine ⟨fun r hr k hk => hclears.answered (n := (some r, k)) (hack _ ?_),
        fun k hk => hclears.answered (n := (none, k)) (hack _ ?_),
        fun r hr => hclears.standing (n := (some r, .overcurrent)) (hover r hr),
        hclears.standing (n := (none, .emergency)) hemergency⟩
      · exact mem_mayAcknowledge.2 (.inl ⟨r, hr, k, hk, rfl⟩)
      · exact mem_mayAcknowledge.2 (.inr ⟨k, hk, rfl⟩)

end Sys2Proof.Machine

namespace Sys2Proof.Machine

variable {may : Liberty → Prop} {s t u : State}

/-! ## Requests answered rack by rack -/

/-- A request over several racks answers each by its verdict, where the racks before it leave the
verdict alone. -/
theorem perRackAnswer_spec {one : Rack → State → Result × State} {verdict : Rack → Result}
    (I : List Rack → State → Prop) {racks : List Rack} (hnodup : racks.Nodup) (hs : I [] s)
    (hone : ∀ done r x, r ∈ racks → r ∉ done → I done x →
      (one r x).1 = verdict r ∧ I (done ++ [r]) (one r x).2) :
    ∃ t, perRackAnswer one racks s = ⟨t, .ok, .perRack (racks.map fun r => (r, verdict r))⟩ ∧
      I racks t := by
  have run : ∀ (left done : List Rack) (x : State), done ++ left = racks → I done x →
      ∃ t, left.foldl (fun acc r =>
          let (v, s1) := one r acc.2
          (acc.1 ++ [(r, v)], s1)) (done.map (fun r => (r, verdict r)), x) =
        (racks.map fun r => (r, verdict r), t) ∧ I racks t := by
    intro left
    induction left with
    | nil =>
      intro done x hd hx
      rw [List.append_nil] at hd
      subst hd
      exact ⟨x, rfl, hx⟩
    | cons r left ih =>
      intro done x hd hx
      have hr : r ∉ done := fun h => by
        rw [← hd] at hnodup
        exact (List.disjoint_of_nodup_append hnodup) h (List.mem_cons_self)
      obtain ⟨hv, hI⟩ := hone done r x (by rw [← hd]; simp) hr hx
      obtain ⟨t, ht, hIt⟩ := ih (done ++ [r]) (one r x).2 (by rw [List.append_assoc]; exact hd) hI
      refine ⟨t, ?_, hIt⟩
      rw [← ht, List.foldl_cons, List.map_append, List.map_singleton, ← hv]
  obtain ⟨t, ht, hI⟩ := run racks [] s rfl hs
  refine ⟨t, ?_, hI⟩
  unfold perRackAnswer
  rw [show (([] : List (Rack × Result)), s) = (([] : List Rack).map fun r => (r, verdict r), s)
    from rfl, ht]

/-- The reply of a served request that may move racks comes last of those not yet sent. -/
theorem serveMoving_replied {tag : Byte} {q : Request} {rest : List Tagged}
    (h : s.offers ⟨tag, q⟩ rest) {owner : State → Answer}
    (hm : Moves may (s.taking rest) (owner (s.taking rest)).state) :
    (arbitrate (settle (takeRequest tag q owner s))).site.unsentReplies = s.site.unsentReplies ++
      [⟨tag, q, (owner (s.taking rest)).result, (owner (s.taking rest)).body⟩] := by
  have ht := (settle_moves (may := fun _ => True) (.refl (takeRequest tag q owner s)) trivial).traffic
  rw [arbitrate_unsentReplies, ht.unsentReplies, takeRequest_offered h]
  obtain ⟨-, hr, hl⟩ := hm.traffic
  have hr' : (owner (s.taking rest)).state.site.replies = s.site.replies := hr
  have hl' : (owner (s.taking rest)).state.site.link = s.site.link := hl
  simp [reply, Site.unsentReplies, hr', hl', List.append_assoc]

/-! ## What the sequencer's moves leave as they find it -/

/-- What a rack's verdict is judged by, besides the rack itself (R126, R133, R141). -/
def State.surroundings (s : State) :
    PartTime × Tables × Fire × (ContainerLatches × (Rack → TripKind → Latch)) :=
  (s.now, s.tables, s.fire, s.trips.latches)

theorem surroundings_bystander : Bystander State.surroundings where
  limits _ _ := rfl
  sequencer _ _ := rfl
  trips s x _ hl _ := congrArg (fun l => (s.now, s.tables, s.fire, l)) hl
  choices _ _ := rfl
  converter _ _ _ := rfl
  post e s := by
    have h : s.sameBut (Machine.post e s) [.site] := by simp [sameBut_refl]
    simp only [State.surroundings, sameBut_now h (by simp), sameBut_tables h (by simp),
      sameBut_fire h (by simp), sameBut_trips h (by simp)]
  summary _ := rfl

section
variable (h : t.surroundings = s.surroundings)
include h

theorem surroundings_now : t.now = s.now := congrArg (·.1) h

theorem surroundings_tables : t.tables = s.tables := congrArg (·.2.1) h

theorem surroundings_fire : t.fire = s.fire := congrArg (·.2.2.1) h

theorem latchedFor_congr (r : Rack) : t.latchedFor r = s.latchedFor r := by
  have hc := congrArg (·.2.2.2.1) h
  have hr := congrArg (·.2.2.2.2) h
  simp only [State.surroundings, Trips.latches] at hc hr
  rw [Bool.eq_iff_iff, latchedFor_iff, latchedFor_iff, hc]
  simp only [fun k => congrFun (congrFun hr r) k]

theorem rackEnabled_congr (r : Rack) : t.rackEnabled r = s.rackEnabled r := by
  simp only [State.rackEnabled, State.rackConfig, State.rackEntry, State.table,
    surroundings_tables h]

end

/-! ## CONNECT (R126, R127) -/

theorem connectVerdict_congr (h : t.surroundings = s.surroundings) {r : Rack}
    (hr : t.sequencer.racks.get r = s.sequencer.racks.get r) :
    t.connectVerdict r = s.connectVerdict r := by
  have hq : t.quiet = s.quiet := by simp only [State.quiet, surroundings_fire h]
  simp only [State.connectVerdict, rackEnabled_congr h, latchedFor_congr h, hq, hr]

/-- A rack as CONNECT queues it. -/
def RackSwitch.queuedNow (x : RackSwitch) (now : PartTime) : RackSwitch :=
  { x with state := .queued, operation := .connect, prechargeUsed := false, queuedAt := now }

theorem enqueue_sequencer (r : Rack) (s : State) :
    (enqueue r s).sequencer.racks = s.sequencer.racks.set r
        (((s.sequencer.racks.get r).queuedNow s.now).rewatch s.now) ∧
      (enqueue r s).sequencer.slot = s.sequencer.slot := by
  obtain ⟨hracks, -, hslot⟩ := changeRack_sequencer r ((s.sequencer.racks.get r).queuedNow s.now)
    .connect (s.withSequencer { s.sequencer with queue := s.sequencer.queue ++ [⟨r, s.now⟩] })
  exact ⟨hracks, hslot⟩

/-- An OPEN rack that is queued leaves the sequencer at rest. -/
theorem enqueue_settled {r : Rack} (h : s.Settled) (hr : s.rackState r = .opened)
    (hp : (s.sequencer.racks.get r).operation.protective = false) : (enqueue r s).Settled := by
  have hq : (s.withSequencer
      { s.sequencer with queue := s.sequencer.queue ++ [⟨r, s.now⟩] }).Settled := by
    refine ⟨h.welded, ?_, h.hold⟩
    rw [grantable_eq_none]
    exact (grantable_eq_none s).1 h.granted
  have hs : ((s.withSequencer { s.sequencer with
      queue := s.sequencer.queue ++ [⟨r, s.now⟩] }).rackState r).switching = false :=
    (congrArg RackState.switching hr : (s.rackState r).switching = false)
  exact hq.changeRack hs (fun hc => by cases hc) rfl hp.symm rfl

/-- Where the racks of a CONNECT stand once some of them are judged: exactly those accepted are QUEUED,
and the others as they were. -/
structure Connecting (s : State) (done : List Rack) (x : State) : Prop where
  same : x.surroundings = s.surroundings
  settled : x.Settled
  slot : x.sequencer.slot = s.sequencer.slot
  queued : ∀ r ∈ done, s.connectVerdict r = .ok ∨ s.connectVerdict r = .prechargeBudget →
    x.rackState r = .queued ∧ (x.sequencer.racks.get r).operation = .connect ∧
      (x.sequencer.racks.get r).queuedAt = s.now
  kept : ∀ r, ¬ (r ∈ done ∧ (s.connectVerdict r = .ok ∨ s.connectVerdict r = .prechargeBudget)) →
    x.sequencer.racks.get r = s.sequencer.racks.get r

theorem connectOne_connecting (hk : s.SequencerKept) {done : List Rack} {r : Rack} {x : State}
    (hr : r ∉ done) (h : Connecting s done x) :
    (connectOne r x).1 = s.connectVerdict r ∧ Connecting s (done ++ [r]) (connectOne r x).2 := by
  have hget := h.kept r fun hd => hr hd.1
  have hv : x.connectVerdict r = s.connectVerdict r := connectVerdict_congr h.same hget
  refine ⟨hv, ?_⟩
  unfold connectOne
  dsimp only
  rw [hv]
  split
  next hacc =>
    simp only [Bool.or_eq_true, decide_eq_true_eq] at hacc
    obtain ⟨hopen, -⟩ := connectVerdict_accepts hacc
    have hxopen : x.rackState r = .opened := (congrArg RackSwitch.state hget).trans hopen
    have hprot : (x.sequencer.racks.get r).operation.protective = false := by
      rw [hget, Bool.eq_false_iff]
      intro hp
      rcases hk.protective r hp with hd | hd <;> rw [hopen] at hd <;> cases hd
    obtain ⟨hracks, hslot⟩ := enqueue_sequencer r x
    have hself : (enqueue r x).sequencer.racks.get r =
        ((x.sequencer.racks.get r).queuedNow x.now).rewatch x.now := by
      rw [hracks, PerRack.get_set_self]
    have hother : ∀ k, k ≠ r → (enqueue r x).sequencer.racks.get k = x.sequencer.racks.get k :=
      fun k hkr => by rw [hracks, PerRack.get_set_ne _ _ hkr]
    refine ⟨?_, enqueue_settled h.settled hxopen hprot, hslot.trans h.slot, fun k hkd hacck => ?_,
      fun k hkn => ?_⟩
    · exact (surroundings_bystander.changeRack _ _ _ _).trans h.same
    · by_cases hkr : k = r
      · subst hkr
        unfold State.rackState
        rw [hself]
        exact ⟨rfl, rfl, surroundings_now h.same⟩
      · unfold State.rackState
        rw [hother k hkr]
        exact h.queued k (by simpa [hkr] using hkd) hacck
    · have hkr : k ≠ r := fun he => hkn ⟨by simp [he], by rw [he]; exact hacc⟩
      rw [hother k hkr]
      exact h.kept k fun hd => hkn ⟨List.mem_append_left _ hd.1, hd.2⟩
  next hacc =>
    simp only [Bool.or_eq_true, decide_eq_true_eq] at hacc
    refine ⟨h.same, h.settled, h.slot, fun k hkd hacck => ?_, fun k hkn => ?_⟩
    · rcases List.mem_append.1 hkd with hkd | hkd
      · exact h.queued k hkd hacck
      · rw [List.mem_singleton.1 hkd] at hacck
        exact absurd hacck hacc
    · exact h.kept k fun hd => hkn ⟨List.mem_append_left _ hd.1, hd.2⟩

/-- The result of CONNECT for one rack is that of the first row of R126 that applies. -/
theorem connectVerdict_rows (s : State) (r : Rack) : s.connectVerdict r =
    if s.rackEnabled r = false then .badIndex
    else if s.fire.stage ≠ .normal ∨ s.fire.gas ≠ .clear then .fireActive
    else if s.latchedFor r = true ∨ s.rackState r = .locked then .tripActive
    else if s.rackState r = .queued ∨ s.rackState r = .precharging ∨
      s.rackState r = .joining ∨ s.rackState r = .connected then .already
    else if s.rackState r = .draining ∨ s.rackState r = .opening then .busy
    else if s.rackState r = .fault then .wrongMode
    else if 3 ≤ (s.sequencer.racks.get r).attempts.length then .prechargeBudget
    else .ok := by
  have hquiet : s.quiet = true ↔ ¬ (s.fire.stage ≠ .normal ∨ s.fire.gas ≠ .clear) := by
    simp [State.quiet]
  unfold State.connectVerdict State.rackState
  dsimp only
  by_cases he : s.rackEnabled r = true
  · by_cases hq : s.quiet = true
    · by_cases hl : s.latchedFor r = true
      · simp [he, hq, hl, hquiet.1 hq]
      · cases hst : (s.sequencer.racks.get r).state <;>
          simp [he, hq, hl, hquiet.1 hq, RackSwitch.budgetSpent]
    · have hn := fun hh => hq (hquiet.2 hh)
      rw [if_neg (by simp [he]), if_pos (by simp [hq]), if_neg (by simp [he]),
        if_pos (not_not.1 hn)]
  · simp [he]

theorem exec_connect (tag : Byte) (mask : RackMask) (s : State) : exec (.connect tag mask) s =
    serveMoving tag (.connect mask) (answerConnect mask) s := rfl

theorem answerConnect_refused {mask : RackMask} : (s.site.mode = .unconfigured →
      answerConnect mask s = ⟨s, .notConfigured, .nothing⟩) ∧
    (s.site.mode = .standby → answerConnect mask s = ⟨s, .wrongMode, .nothing⟩) ∧
    (s.site.mode = .run → mask = 0#4 → answerConnect mask s = ⟨s, .badRequest, .nothing⟩) ∧
    (s.site.mode = .run → mask ≠ 0#4 →
      answerConnect mask s = perRackAnswer connectOne (racksOf mask) s) := by
  unfold answerConnect
  refine ⟨fun h => ?_, fun h => ?_, fun h hm => ?_, fun h hm => ?_⟩
  · rw [h]
  · rw [h]
  · rw [h]
    exact if_pos hm
  · rw [h]
    exact if_neg hm

/-! ## The scan of the connect queue (R128, R129) -/

theorem queueServed_iff (s : State) : s.queueServed = true ↔ s.sequencer.slot = none ∧ ∀ r,
    (s.sequencer.racks.get r).operation.protective = false ∧
      (s.sequencer.racks.get r).disconnectPending = false := by
  simp only [State.queueServed, State.anyProtective, Bool.and_eq_true, Option.isNone_iff_eq_none,
    Bool.not_eq_true', List.any_eq_false, List.all_eq_true, Bool.not_eq_true]
  exact ⟨fun ⟨⟨hs, hp⟩, hd⟩ => ⟨hs, fun r => ⟨hp r (Rack.mem_all r), hd r (Rack.mem_all r)⟩⟩,
    fun ⟨hs, h⟩ => ⟨⟨hs, fun r _ => (h r).1⟩, fun r _ => (h r).2⟩⟩

theorem scanQueue_stays {g : GridRecord} (h : ¬ s.queueServed = true ∨
    ∀ e ∈ s.sequencer.queue, s.pathOf g e.rack = none) : scanQueue g s = s := by
  unfold scanQueue
  split
  next hs =>
    rw [List.find?_eq_none.2 fun e he => by rw [h.resolve_left (not_not.2 hs) e he]; decide]
  next => rfl

/-- The state in which the rack a scan takes has the slot and no entry in the queue. -/
def State.granted (s : State) (r : Rack) : State :=
  (dequeue r s).withSequencer { (dequeue r s).sequencer with slot := some r }

theorem scanQueue_starts {g : GridRecord} {first later : List QueueEntry} {e : QueueEntry}
    (hs : s.queueServed = true) (hq : s.sequencer.queue = first ++ e :: later)
    (hnone : ∀ y ∈ first, s.pathOf g y.rack = none) :
    (s.pathOf g e.rack = some .precharge →
      scanQueue g s = enterPrecharging e.rack g (s.granted e.rack)) ∧
    (s.pathOf g e.rack = some .join →
      scanQueue g s = enterJoining e.rack false (s.granted e.rack)) := by
  have hfind : s.pathOf g e.rack ≠ none →
      (s.sequencer.queue.find? fun e => (s.pathOf g e.rack).isSome) = some e := fun hp => by
    rw [List.find?_eq_some_iff_append]
    refine ⟨Option.isSome_iff_ne_none.2 hp, first, later, hq, fun y hy => ?_⟩
    rw [hnone y hy]
    rfl
  refine ⟨fun hp => ?_, fun hp => ?_⟩ <;>
  · unfold scanQueue
    rw [if_pos hs, hfind (by rw [hp]; nofun)]
    dsimp only
    rw [hp]
    rfl

theorem filter_once {first later : List QueueEntry} {e : QueueEntry}
    (h : ((first ++ e :: later).map (·.rack)).Nodup) :
    (first ++ e :: later).filter (fun y => y.rack ≠ e.rack) = first ++ later := by
  rw [List.map_append, List.map_cons, List.nodup_middle, List.nodup_cons, List.mem_append] at h
  obtain ⟨hnot, -⟩ := h
  have hne : ∀ y ∈ first ++ later, y.rack ≠ e.rack := fun y hy he => hnot <| by
    rw [← he]
    exact (List.mem_append.1 hy).imp (fun h => List.mem_map_of_mem h) fun h => List.mem_map_of_mem h
  rw [List.filter_append, List.filter_cons_of_neg (by simp),
    ← List.filter_append, List.filter_eq_self]
  exact fun y hy => decide_eq_true (hne y hy)

theorem enterPrecharging_sequencer (r : Rack) (g : GridRecord) (s : State) :
    (enterPrecharging r g s).sequencer.racks = s.sequencer.racks.set r
        ({ s.sequencer.racks.get r with
          state := .precharging
          prechargeUsed := true
          attempts := (s.sequencer.racks.get r).attempts ++ [s.now]
          timer := some ⟨.precharge, s.now, g.prechargeTimeout⟩ }.rewatch s.now) ∧
      (enterPrecharging r g s).sequencer.queue = s.sequencer.queue ∧
      (enterPrecharging r g s).sequencer.slot = s.sequencer.slot := changeRack_sequencer _ _ _ _

/-- A rack whose main contactor reads open joins under its close proof (R132). -/
theorem enterJoining_sequencer {r : Rack} (used : Bool)
    (h : (s.sequencer.racks.get r).mainClosed = false) :
    (enterJoining r used s).sequencer.racks = s.sequencer.racks.set r
        ({ s.sequencer.racks.get r with
          state := .joining
          prechargeUsed := used
          timer := some ⟨.closeProof, s.now, s.contactorProof⟩ }.rewatch s.now) ∧
      (enterJoining r used s).sequencer.queue = s.sequencer.queue ∧
      (enterJoining r used s).sequencer.slot = s.sequencer.slot := by
  unfold enterJoining
  dsimp only
  rw [h]
  exact changeRack_sequencer _ _ _ _

/-- A read voltage is fresh. -/
theorem isFresh_iff (q : Quality) : q.isFresh = true ↔ q = .fresh ∨ q = .range := by
  cases q <;> simp [Quality.isFresh]

theorem setVoltages_iff (s : State) (r : Rack) (vr vb : Int) :
    s.setVoltages r = some (vr, vb) ↔ ∃ a b : Reading,
      (s.samples.racks.get r).aggregates.rackVoltage = some a ∧
      (s.samples.racks.get r).aggregates.busVoltage = some b ∧
      (a.quality = .fresh ∨ a.quality = .range) ∧ (b.quality = .fresh ∨ b.quality = .range) ∧
      a.value = vr ∧ b.value = vb := by
  unfold State.setVoltages
  dsimp only
  cases (s.samples.racks.get r).aggregates.rackVoltage with
  | none => simp
  | some a =>
    cases (s.samples.racks.get r).aggregates.busVoltage with
    | none => simp
    | some b =>
      simp only [Option.some.injEq, ← isFresh_iff]
      constructor
      · intro h
        split at h
        next hf =>
          rw [Bool.and_eq_true] at hf
          rw [Option.some.injEq, Prod.mk.injEq] at h
          exact ⟨a, b, rfl, rfl, hf.1, hf.2, h.1, h.2⟩
        next => cases h
      · rintro ⟨x, y, rfl, rfl, hx, hy, rfl, rfl⟩
        rw [hx, hy]
        rfl

theorem connectedRacks_isEmpty (s : State) :
    s.connectedRacks.isEmpty = true ↔ ∀ k, s.rackState k ≠ .connected := by
  simp [State.connectedRacks, List.isEmpty_iff, Rack.mem_all]

/-- The path of a queued rack: at a dead bus the precharge, at a live one the join (R129). -/
theorem pathOf_iff (g : GridRecord) (s : State) (r : Rack) (p : Path) : s.pathOf g r = some p ↔
    (s.samples.racks.get r).blind = false ∧ (s.samples.racks.get r).hadSet = true ∧
      ∃ vr vb, s.setVoltages r = some (vr, vb) ∧
        if s.connectedRacks.isEmpty = true ∧ vb < g.deadBus then
          p = .precharge ∧ (s.sequencer.racks.get r).attempts.length < 3
        else p = .join ∧ (vr - vb).natAbs ≤ g.joinWindow := by
  have hpair (f : Int → Int → Prop) : (∃ vr vb, s.setVoltages r = some (vr, vb) ∧ f vr vb) ↔
      ∃ v : Int × Int, s.setVoltages r = some v ∧ f v.1 v.2 :=
    ⟨fun ⟨a, b, h⟩ => ⟨(a, b), h⟩, fun ⟨(a, b), h⟩ => ⟨a, b, h⟩⟩
  rw [hpair]
  unfold State.pathOf
  dsimp only
  cases (s.samples.racks.get r).blind with
  | true => simp
  | false =>
    cases (s.samples.racks.get r).hadSet with
    | false => simp
    | true =>
      cases s.setVoltages r with
      | none => simp
      | some v =>
        simp only [Bool.not_true, Bool.or_self, Bool.false_eq_true, if_false, Option.some.injEq,
          exists_eq_left', true_and, RackSwitch.budgetSpent, withinJoin, Bool.and_eq_true,
          decide_eq_true_eq]
        split
        · split
          · simp; omega
          · simp [eq_comm]; omega
        · split
          next h => simp [h, eq_comm]
          next h => simp [h]

/-- A PRECHARGING rack at its own set complete (R131). -/
theorem moveAtSet_precharging {g : GridRecord} {r : Rack} {m : OperationTimer}
    (h : s.rackState r = .precharging) (ht : (s.sequencer.racks.get r).timer = some m) :
    ((g.minPrecharge ≤ (s.now - m.since).toNat ∧ ∃ vr vb, s.setVoltages r = some (vr, vb) ∧
        (vr - vb).natAbs ≤ g.joinWindow) → moveAtSet r g s = enterJoining r true s) ∧
      (¬ (g.minPrecharge ≤ (s.now - m.since).toNat ∧ ∃ vr vb, s.setVoltages r = some (vr, vb) ∧
        (vr - vb).natAbs ≤ g.joinWindow) → moveAtSet r g s = s) := by
  have hmove : moveAtSet r g s = prechargeSet r g s := by
    unfold moveAtSet
    rw [h]
  rw [hmove, prechargeSet, ht]
  cases hv : s.setVoltages r with
  | none => simp
  | some v =>
    obtain ⟨a, b⟩ := v
    simp only [Bool.and_eq_true, reached_iff, withinJoin, decide_eq_true_eq, Option.some.injEq,
      Prod.mk.injEq]
    refine ⟨fun ⟨hm, vr, vb, ⟨hr, hb⟩, hw⟩ => if_pos ⟨hm, by rw [hr, hb]; exact hw⟩,
      fun hn => if_neg fun ⟨hm, hw⟩ => hn ⟨hm, a, b, ⟨rfl, rfl⟩, hw⟩⟩

/-- Settling leaves a request that leaves the sequencer at rest as it is. -/
theorem settle_request {tag : Byte} {q : Request} {rest : List Tagged} {owner : State → Answer}
    (ho : s.offers ⟨tag, q⟩ rest) (h : (owner (s.taking rest)).state.Settled) :
    settle (takeRequest tag q owner s) = takeRequest tag q owner s := by
  refine settle_stays (h.of_same ?_ ?_) <;> rw [takeRequest_offered ho] <;> rfl

/-- CONNECT in RUN answers each rack named, and queues exactly those it accepts. -/
theorem connect_served {tag : Byte} {mask : RackMask} {rest : List Tagged}
    (ho : s.offers ⟨tag, .connect mask⟩ rest) (hs : s.Settled) (hk : s.SequencerKept)
    (hm : s.site.mode = .run) (hmask : mask ≠ 0#4) :
    ∃ t, exec (.connect tag mask) s = .next t ∧
      t.site.unsentReplies = s.site.unsentReplies ++ [⟨tag, .connect mask, .ok,
        .perRack ((racksOf mask).map fun r => (r, s.connectVerdict r))⟩] ∧
      ∃ x, t.sequencer = x.sequencer ∧ Connecting s (racksOf mask) x := by
  have hstart : Connecting (s.taking rest) [] (s.taking rest) :=
    ⟨rfl, hs.of_same rfl rfl, rfl, nofun, fun _ _ => rfl⟩
  obtain ⟨x, hx, hI⟩ := perRackAnswer_spec (s := s.taking rest) (one := connectOne)
    (verdict := (s.taking rest).connectVerdict) (Connecting (s.taking rest)) (racksOf_nodup mask)
    hstart fun done r y _ hr hy =>
      connectOne_connecting (s := s.taking rest) ⟨hk.queued, hk.once, hk.protective⟩ hr hy
  have hanswer := ((answerConnect_refused (s := s.taking rest)).2.2.2 hm hmask).trans hx
  have hmoves := answerConnect_moves (may := fun l => l = .connect) (.refl (s.taking rest)) rfl mask
  refine ⟨_, (exec_connect tag mask s).trans (serveMoving_offered ho _), ?_, x, ?_,
    hI.same, hI.settled, hI.slot, hI.queued, hI.kept⟩
  · rw [serveMoving_replied ho hmoves, hanswer]
    rfl
  · rw [arbitrate_sequencer, settle_request ho (by rw [hanswer]; exact hI.settled),
      takeRequest_offered ho, hanswer]
    rfl

/-- Settles O48. -/
theorem connectQueuesRacks : Obligations.ConnectQueuesRacks := by
  unfold Obligations.ConnectQueuesRacks
  refine ⟨?connect, ?scan, ?join⟩
  case connect =>
    intro tag mask rest s x verdict queues ho hs hk
    have hverdict : s.connectVerdict = verdict := funext fun r => connectVerdict_rows s r
    have hrest : ∀ result body, (s.answered x rest result body).Settled := fun _ _ =>
      hs.of_same rfl rfl
    obtain ⟨hun, hst, hempty, -⟩ := answerConnect_refused (s := s.taking rest) (mask := mask)
    have refused : ∀ result, answerConnect mask (s.taking rest) = ⟨s.taking rest, result, .nothing⟩ →
        exec (.connect tag mask) s = .next (arbitrate (s.answered x rest result .nothing)) :=
      fun result ha => by
        rw [exec_connect, serveMoving_answered ho ha, settle_stays (hrest _ _)]
    refine ⟨fun h => refused _ (hun h), fun h => refused _ (hst h),
      fun h hm => refused _ (hempty h hm), fun h hm => ?_⟩
    obtain ⟨t, ht, hreply, y, hseq, hI⟩ := connect_served ho hs hk h hm
    rw [hverdict] at hreply
    refine ⟨t, ht, hreply, fun r => ⟨fun hr => ?_, fun hr => ?_⟩, ?_⟩
    · rw [rackState_eq_of_sequencer hseq, hseq]
      exact hI.queued r hr.1 (by rw [hverdict]; exact hr.2)
    · rw [hseq]
      exact hI.kept r (by rw [hverdict]; exact hr)
    · rw [hseq]
      exact hI.slot
  case scan =>
    intro g s served t
    have hserved : s.queueServed = true ↔ served := queueServed_iff s
    refine ⟨fun h => scanQueue_stays (by rw [hserved]; exact h), ?_⟩
    intro first later e p hs hq honce hnone hp _ hmain x y
    obtain ⟨hpre, hjoin⟩ := scanQueue_starts (hserved.2 hs) hq hnone
    have hqueue : (s.granted e.rack).sequencer.queue = first ++ later := by
      show s.sequencer.queue.filter _ = _
      rw [hq] at honce ⊢
      exact filter_once honce
    cases p with
    | precharge =>
      have ht : t = _ := hpre hp
      obtain ⟨hracks, hqu, hslot⟩ := enterPrecharging_sequencer e.rack g (s.granted e.rack)
      rw [← ht] at hracks hqu hslot
      have hy : y = _ := (congrArg (fun z => PerRack.get z e.rack) hracks).trans
        (PerRack.get_set_self _ _ _)
      refine ⟨hslot, hqu.trans hqueue, by rw [hy]; rfl, fun _ => ?_, (fun h => by cases h),
        fun r hr => ?_⟩
      · rw [hy]
        exact ⟨rfl, rfl, rfl, rfl⟩
      · rw [hracks, PerRack.get_set_ne _ _ hr]
        rfl
    | join =>
      have ht : t = _ := hjoin hp
      obtain ⟨hracks, hqu, hslot⟩ := enterJoining_sequencer (s := s.granted e.rack) false hmain
      rw [← ht] at hracks hqu hslot
      have hy : y = _ := (congrArg (fun z => PerRack.get z e.rack) hracks).trans
        (PerRack.get_set_self _ _ _)
      refine ⟨hslot, hqu.trans hqueue, by rw [hy]; rfl, (fun h => by cases h), fun _ => ?_,
        fun r hr => ?_⟩
      · rw [hy]
        exact ⟨rfl, rfl, rfl, rfl⟩
      · rw [hracks, PerRack.get_set_ne _ _ hr]
        rfl
  case join =>
    intro g s r x q voltages dead window
    have hvolt : ∀ vr vb, s.setVoltages r = some (vr, vb) ↔ voltages vr vb := setVoltages_iff s r
    have hdead : ∀ vb : Int, (s.connectedRacks.isEmpty = true ∧ vb < g.deadBus) ↔ dead vb :=
      fun vb => and_congr_left' (connectedRacks_isEmpty s)
    refine ⟨?_, ?_, fun m hst ht hmain => ?_⟩
    · rw [pathOf_iff]
      refine and_congr_right' (and_congr_right' (exists_congr fun vr => exists_congr fun vb => ?_))
      rw [hvolt]
      refine and_congr_right' ?_
      split
      next h => exact ⟨fun hh => ⟨(hdead vb).1 h, hh.2⟩, fun hh => ⟨rfl, hh.2⟩⟩
      next h => exact ⟨fun hh => (by cases hh.1), fun hh => absurd ((hdead vb).2 hh.1) h⟩
    · rw [pathOf_iff]
      refine and_congr_right' (and_congr_right' (exists_congr fun vr => exists_congr fun vb => ?_))
      rw [hvolt]
      refine and_congr_right' ?_
      split
      next h => exact ⟨fun hh => (by cases hh.1), fun hh => absurd ((hdead vb).1 h) hh.1⟩
      next h => exact ⟨fun hh => ⟨fun hd => h ((hdead vb).2 hd), hh.2⟩, fun hh => ⟨rfl, hh.2⟩⟩
    · intro t
      obtain ⟨hjoins, hstays⟩ := moveAtSet_precharging (g := g) hst ht
      simp only [hvolt] at hjoins hstays
      refine ⟨fun h => ?_, fun h => hstays h⟩
      have hjoin : t = enterJoining r true s := hjoins h
      obtain ⟨hracks, -, -⟩ := enterJoining_sequencer (s := s) true hmain
      rw [← hjoin] at hracks
      have hget : t.sequencer.racks.get r = _ :=
        (congrArg (fun z => PerRack.get z r) hracks).trans (PerRack.get_set_self _ _ _)
      rw [State.rackState, hget]
      exact ⟨rfl, rfl, rfl⟩

end Sys2Proof.Machine

namespace Sys2Proof.Machine

variable {may : Liberty → Prop} {s t u : State}

/-! ## Moves of one rack -/

/-- No rack but one changes in the sequencer. -/
def OnlyRack (r : Rack) (s t : State) : Prop :=
  ∀ k, k ≠ r → t.sequencer.racks.get k = s.sequencer.racks.get k

theorem onlyRack_of_racks {r : Rack} (h : t.sequencer.racks = s.sequencer.racks) :
    OnlyRack r s t := fun _ _ => by rw [h]

theorem OnlyRack.trans {r : Rack} (h : OnlyRack r s t) (k : OnlyRack r t u) : OnlyRack r s u :=
  fun j hj => (k j hj).trans (h j hj)

theorem setRackSwitch_only (r : Rack) (x : RackSwitch) (s : State) :
    OnlyRack r s (s.setRackSwitch r x) := fun _ hk => PerRack.get_set_ne _ _ hk

theorem changeRack_only (r : Rack) (x : RackSwitch) (cause : RackCause) (s : State) :
    OnlyRack r s (changeRack r x cause s) := fun k hk => by
  rw [(changeRack_sequencer r x cause s).1, PerRack.get_set_ne _ _ hk]

theorem changeRack_self (r : Rack) (x : RackSwitch) (cause : RackCause) (s : State) :
    (changeRack r x cause s).sequencer.racks.get r = x.rewatch s.now := by
  rw [(changeRack_sequencer r x cause s).1, PerRack.get_set_self]

theorem postAll_sequencer (es : List Event) (s : State) :
    (postAll es s).sequencer = s.sequencer := by
  induction es generalizing s with
  | nil => rfl
  | cons e es ih => exact (ih _).trans (post_sequencer e s)

theorem completionReport_sequencer (r : Rack) (current : Option Int) (underLoad : Bool)
    (s : State) : (completionReport r current underLoad s).sequencer = s.sequencer := by
  unfold completionReport
  rw [postAll_sequencer]
  rfl

/-- The end of an operation, as the rack's own part shows it (R135, R136). -/
theorem endOperation_racks (r : Rack) (x : RackSwitch) (cause : RackCause) (s : State) :
    (endOperation r x cause s).sequencer.racks = s.sequencer.racks.set r
      ({ x with operation := .none, timer := none, disconnectPending := false }.rewatch s.now) := by
  unfold endOperation
  dsimp only
  split
  · rw [completionReport_sequencer, freeSlot_racks, (changeRack_sequencer _ _ _ _).1]
  · rw [freeSlot_racks, (changeRack_sequencer _ _ _ _).1]

theorem endOperation_self (r : Rack) (x : RackSwitch) (cause : RackCause) (s : State) :
    (endOperation r x cause s).sequencer.racks.get r =
      { x with operation := .none, timer := none, disconnectPending := false }.rewatch s.now := by
  rw [endOperation_racks, PerRack.get_set_self]

theorem endOperation_only (r : Rack) (x : RackSwitch) (cause : RackCause) (s : State) :
    OnlyRack r s (endOperation r x cause s) := fun k hk => by
  rw [endOperation_racks, PerRack.get_set_ne _ _ hk]

theorem passOpenProof_only (r : Rack) (cause : RackCause) (s : State) :
    OnlyRack r s (passOpenProof r cause s) := endOperation_only _ _ _ _

theorem enterOpening_only (r : Rack) (op : Operation) (cause : RackCause) (s : State) :
    OnlyRack r s (enterOpening r op cause s) := by
  unfold enterOpening
  dsimp only
  split
  · exact (changeRack_only _ _ _ _).trans (passOpenProof_only _ _ _)
  · exact changeRack_only _ _ _ _

theorem enterDraining_only (r : Rack) (op : Operation) (ms : Nat) (cause : RackCause) (s : State) :
    OnlyRack r s (enterDraining r op ms cause s) := by
  unfold enterDraining
  dsimp only
  split
  · exact (changeRack_only _ _ _ _).trans (enterOpening_only _ _ _ _)
  · exact changeRack_only _ _ _ _

theorem connectResult_sequencer (r : Rack) (outcome : ConnectOutcome) (s : State) :
    (connectResult r outcome s).sequencer = s.sequencer := post_sequencer _ _

theorem leaveQueue_only (r : Rack) (outcome : ConnectOutcome) (cause : RackCause) (s : State) :
    OnlyRack r s (leaveQueue r outcome cause s) :=
  (onlyRack_of_racks (congrArg Sequencer.racks (connectResult_sequencer r outcome (dequeue r s)))).trans
    (changeRack_only _ _ _ _)

theorem leaveQueue_rackState (r : Rack) (outcome : ConnectOutcome) (cause : RackCause) (s : State) :
    (leaveQueue r outcome cause s).rackState r = .opened := by
  unfold leaveQueue
  dsimp only
  rw [changeRack_rackState, if_pos rfl]

theorem abandonPrecharge_only (r : Rack) (outcome : ConnectOutcome) (cause : RackCause)
    (s : State) : OnlyRack r s (abandonPrecharge r outcome cause s) :=
  (onlyRack_of_racks (congrArg Sequencer.racks (connectResult_sequencer r outcome s))).trans
    (enterOpening_only _ _ _ _)

theorem failClosed_only (r : Rack) (s : State) : OnlyRack r s (failClosed r s) :=
  (setRackSwitch_only _ _ _).trans (endOperation_only _ _ _ _)

/-! ## What moves racks one by one -/

section
variable {r : Rack} {P : RackSwitch → Prop} (hP : ∀ x : RackSwitch, x.state.live = false → P x)
include hP

/-- A move of one rack keeps what is so of every rack that is not live. -/
theorem rackProp_move {k : Rack} {act : State → State} (ho : OnlyRack k s (act s))
    (hl : ((act s).rackState k).live = false) (h : P (s.sequencer.racks.get r)) :
    P ((act s).sequencer.racks.get r) := by
  by_cases hr : r = k
  · subst hr
    exact hP _ hl
  · rw [ho r hr]
    exact h

theorem rackProp_releaseLocked (k : Rack) (h : P (s.sequencer.racks.get r)) :
    P ((releaseLocked k s).sequencer.racks.get r) := by
  unfold releaseLocked
  split
  · refine rackProp_move hP (act := changeRack k _ _) (changeRack_only _ _ _ _) ?_ h
    rw [changeRack_rackState, if_pos rfl]
    rfl
  · exact h

theorem rackProp_judgeContainerLatch (kind : TripKind) (h : P (s.sequencer.racks.get r)) :
    P ((judgeContainerLatch kind s).sequencer.racks.get r) := by
  unfold judgeContainerLatch
  split
  · unfold clearContainerLatch
    dsimp only
    refine inAnyOrder_keeps (P := fun x => P (x.sequencer.racks.get r)) (fun _ _ h => h)
      (fun act ha x hx => ?_) ?_
    · simp only [List.mem_cons, List.not_mem_nil, or_false] at ha
      rcases ha with rfl | rfl | rfl | rfl
      · rw [post_sequencer]
        exact hx
      · exact forRacks_keeps (P := fun x => P (x.sequencer.racks.get r))
          (fun k _ y hy => rackProp_releaseLocked hP k hy) hx
      · exact hx
      · exact hx
    · rw [sameBut_sequencer (s := s) (A := [.converter, .trips]) (by simp [sameBut_refl]) (by simp)]
      exact h
  · exact h

theorem rackProp_grantDisconnects (n : Nat) (h : P (s.sequencer.racks.get r)) :
    P ((grantDisconnects n s).sequencer.racks.get r) := by
  induction n generalizing s with
  | zero => exact h
  | succ n ih =>
    unfold grantDisconnects
    split
    next k hk =>
      refine ih ?_
      exact rackProp_move hP (s := s.withSequencer { s.sequencer with slot := some k })
        (act := enterDraining k _ _ _) (enterDraining_only _ _ _ _ _) (enterDraining_live _ _ _ _ _) h
    next => exact h

theorem rackProp_leaveQueue (k : Rack) (outcome : ConnectOutcome) (cause : RackCause)
    (h : P (s.sequencer.racks.get r)) :
    P ((leaveQueue k outcome cause s).sequencer.racks.get r) :=
  rackProp_move hP (act := leaveQueue k outcome cause) (leaveQueue_only _ _ _ _)
    (by rw [leaveQueue_rackState]; rfl) h

/-- A cause of the container leaves no rack live. -/
theorem rackProp_takeContainer (kind : TripKind) (data : CauseData) (s : State) :
    P ((takeCause kind none data s).sequencer.racks.get r) :=
  hP _ (takeCause_live kind none data s (Rack.mem_all r))

theorem rackProp_expireRackWatch (k : Rack) (c : Contactor)
    (hfill : ∀ (x : RackSwitch) c ms, P x → P (x.fillWatch c ms)) (h : P (s.sequencer.racks.get r)) :
    P ((expireRackWatch k c s).sequencer.racks.get r) := by
  have hs : P ((s.setRackSwitch k ((s.sequencer.racks.get k).fillWatch c
      s.contactorProof)).sequencer.racks.get r) := by
    rw [State.setRackSwitch_sequencer, PerRack.get_set]
    split
    next hr => subst hr; exact hfill _ _ _ h
    next => exact h
  have hfail : P ((failClosed k (s.setRackSwitch k ((s.sequencer.racks.get k).fillWatch c
      s.contactorProof))).sequencer.racks.get r) := by
    refine rackProp_move hP (act := failClosed k) (failClosed_only _ _) ?_ hs
    show ((endOperation k _ _ _).sequencer.racks.get k).state.live = false
    rw [endOperation_self]
    rfl
  have htake (d : Contactor) (x : State) : P ((takeWelded k d x).sequencer.racks.get r) :=
    rackProp_takeContainer hP _ _ _
  unfold expireRackWatch
  dsimp only
  split
  · exact htake _ _
  · exact htake _ _
  · exact htake _ _
  · split
    · exact hs
    · exact htake _ _
  · cases c
    · exact hfail
    · exact htake _ _
  · cases c
    · exact hfail
    · exact htake _ _
  · exact hs
  · exact hs
  · exact hs

theorem rackProp_swapGrid (hfill : ∀ (x : RackSwitch) c ms, P x → P (x.fillWatch c ms))
    (h : P (s.sequencer.racks.get r)) : P ((swapGrid s).sequencer.racks.get r) := by
  unfold swapGrid
  dsimp only
  rw [sameBut_sequencer (s := gridSwapped (!s.isActive .grid) (postSwapped .grid (swapBank .grid s)))
    (A := [.ring, .balance, .cooling, .tables, .site,
    .choices]) (by simp [sameBut_refl]) (by simp)]
  refine inAnyOrder_keeps (P := fun x => P (x.sequencer.racks.get r)) (fun _ _ h => h)
    (fun act ha x hx => ?_) ?_
  · simp only [List.mem_cons, List.not_mem_nil, or_false] at ha
    rcases ha with rfl | rfl | rfl | rfl
    · refine forRacks_keeps (P := fun x => P (x.sequencer.racks.get r)) (fun k _ y hy => ?_)
        (forRacks_keeps (P := fun x => P (x.sequencer.racks.get r)) (fun k _ y hy => ?_) hx)
      · have hwatch : ∀ (c : Contactor) (z : State), P (z.sequencer.racks.get r) →
            P ((watchDue k c z).sequencer.racks.get r) := fun c z hz => by
          unfold watchDue
          split
          · exact rackProp_expireRackWatch hP k c hfill hz
          · exact hz
        exact hwatch _ _ (hwatch _ _ hy)
      · unfold waitDue
        split
        · exact rackProp_leaveQueue hP k _ _ hy
        · exact hy
    · rw [sameBut_sequencer (s := x) (A := [.limits, .converter]) (by simp [sameBut_refl]) (by simp)]
      exact hx
    · have hperiod : P ((periodDue x).sequencer.racks.get r) := by
        rw [sameBut_sequencer (s := x) (A := [.converter]) (by simp [sameBut_refl]) (by simp)]
        exact hx
      unfold converterAtGridSwap
      dsimp only
      split
      · exact hperiod
      · unfold silentTripDue
        split
        · exact rackProp_takeContainer hP _ _ _
        · rw [sameBut_sequencer (s := periodDue x) (A := [.limits, .converter, .site, .choices])
            (by simp [sameBut_refl]) (by simp)]
          exact hperiod
    · unfold siteAtGridSwap siteSilenceDue expireSiteSilence cancelQueue
      split
      · exact hx
      · split
        · refine forRacks_keeps (P := fun x => P (x.sequencer.racks.get r))
            (fun k _ y hy => rackProp_leaveQueue hP k _ _ hy) ?_
          show P ((post _ _).sequencer.racks.get r)
          rw [post_sequencer]
          exact hx
        · exact hx
  · show P ((post _ _).sequencer.racks.get r)
    rw [post_sequencer]
    exact h

theorem rackProp_endHold (hfill : ∀ (x : RackSwitch) c ms, P x → P (x.fillWatch c ms))
    (h : P (s.sequencer.racks.get r)) : P ((endHold s).sequencer.racks.get r) := by
  have hwork : P ((workOutContainer (s.withSequencer
      { s.sequencer with hold := false })).sequencer.racks.get r) := by
    rw [sameBut_sequencer (s := s.withSequencer { s.sequencer with hold := false })
      (A := [.limits, .converter]) (by simp [sameBut_refl]) (by simp)]
    exact h
  unfold endHold
  dsimp only
  split
  · split
    · exact rackProp_swapGrid hP hfill hwork
    · exact hwork
  · exact h

/-- What is so of every rack that is not live, and that no watch timer tells, settling keeps. -/
theorem rackProp_settle (hfill : ∀ (x : RackSwitch) c ms, P x → P (x.fillWatch c ms))
    (h : P (s.sequencer.racks.get r)) : P ((settle s).sequencer.racks.get r) :=
  rackProp_endHold hP hfill (rackProp_grantDisconnects hP 4 (rackProp_judgeContainerLatch hP _
    (rackProp_endHold hP hfill (rackProp_grantDisconnects hP 4
      (rackProp_judgeContainerLatch hP _ h)))))

end

end Sys2Proof.Machine

namespace Sys2Proof.Machine

variable {may : Liberty → Prop} {s t u : State}

/-! ## DISCONNECT (R133) -/

/-- A rack that a DISCONNECT has reached: not QUEUED or PRECHARGING, and with disconnect pending while it
is JOINING or CONNECTED. -/
def RackSwitch.leaving (x : RackSwitch) : Prop :=
  x.state.live = true → (x.state = .joining ∨ x.state = .connected) ∧ x.disconnectPending = true

theorem leaving_of_not_live (x : RackSwitch) (h : x.state.live = false) : x.leaving := fun hl => by
  rw [h] at hl
  cases hl

theorem leaving_fillWatch (x : RackSwitch) (c : Contactor) (ms : Nat) (h : x.leaving) :
    (x.fillWatch c ms).leaving := by
  cases c <;> exact h

/-- The result of DISCONNECT for one rack (R133). -/
def State.disconnectVerdict (s : State) (r : Rack) : Result :=
  if s.rackEnabled r = true ∧ (s.rackState r = .queued ∨ s.rackState r = .precharging ∨
    s.rackState r = .joining ∨ s.rackState r = .connected) then .ok
  else if s.rackEnabled r = true then .already
  else .badIndex

theorem disconnectVerdict_congr (h : t.surroundings = s.surroundings) {r : Rack}
    (hr : t.sequencer.racks.get r = s.sequencer.racks.get r) :
    t.disconnectVerdict r = s.disconnectVerdict r := by
  have hst : t.rackState r = s.rackState r := congrArg RackSwitch.state hr
  unfold State.disconnectVerdict
  rw [rackEnabled_congr h, hst]

/-- One rack of a DISCONNECT: it is answered by its verdict, it leaves, and no other rack changes. -/
theorem disconnectOne_spec (r : Rack) (s : State) :
    (disconnectOne r s).1 = s.disconnectVerdict r ∧
      (disconnectOne r s).2.surroundings = s.surroundings ∧ OnlyRack r s (disconnectOne r s).2 ∧
      (s.rackEnabled r = true → ((disconnectOne r s).2.sequencer.racks.get r).leaving) := by
  unfold disconnectOne
  split
  next h =>
    have he : s.rackEnabled r = false := by simpa using h
    refine ⟨by simp [State.disconnectVerdict, he], rfl, onlyRack_of_racks rfl, fun hh => ?_⟩
    rw [he] at hh
    cases hh
  next h =>
    have he : s.rackEnabled r = true := by simpa using h
    have pending : OnlyRack r s (setPendingDisconnect r s) ∧
        (s.rackState r = .joining ∨ s.rackState r = .connected →
          ((setPendingDisconnect r s).sequencer.racks.get r).leaving) := by
      refine ⟨setRackSwitch_only _ _ _, fun hst _ => ?_⟩
      unfold setPendingDisconnect
      rw [State.setRackSwitch_sequencer, PerRack.get_set_self]
      exact ⟨hst, rfl⟩
    cases hst : s.rackState r with
    | queued =>
      exact ⟨by simp [State.disconnectVerdict, he, hst], surroundings_bystander.leaveQueue _ _ _ _,
        leaveQueue_only _ _ _ _, fun _ => leaving_of_not_live _
          (congrArg RackState.live (leaveQueue_rackState r .cancelled .disconnect s))⟩
    | precharging =>
      exact ⟨by simp [State.disconnectVerdict, he, hst],
        (surroundings_bystander.enterOpening _ _ _ _).trans
          (surroundings_bystander.connectResult _ _ _), abandonPrecharge_only _ _ _ _,
        fun _ => leaving_of_not_live _ (enterOpening_live _ _ _ _)⟩
    | joining =>
      exact ⟨by simp [State.disconnectVerdict, he, hst], rfl, pending.1, fun _ => pending.2 (.inl hst)⟩
    | connected =>
      exact ⟨by simp [State.disconnectVerdict, he, hst], rfl, pending.1, fun _ => pending.2 (.inr hst)⟩
    | draining | opening | opened | locked | fault =>
      exact ⟨by simp [State.disconnectVerdict, he, hst], rfl, onlyRack_of_racks rfl,
        fun _ => leaving_of_not_live _ (congrArg RackState.live hst)⟩

/-- Where the racks of a DISCONNECT stand once some of them are judged. -/
structure Disconnecting (s : State) (done : List Rack) (x : State) : Prop where
  same : x.surroundings = s.surroundings
  leaving : ∀ r ∈ done, s.rackEnabled r = true → (x.sequencer.racks.get r).leaving
  kept : ∀ r, r ∉ done → x.sequencer.racks.get r = s.sequencer.racks.get r

theorem disconnectOne_disconnecting {done : List Rack} {r : Rack} {x : State} (hr : r ∉ done)
    (h : Disconnecting s done x) : (disconnectOne r x).1 = s.disconnectVerdict r ∧
      Disconnecting s (done ++ [r]) (disconnectOne r x).2 := by
  obtain ⟨hv, hsame, honly, hleaving⟩ := disconnectOne_spec r x
  refine ⟨hv.trans (disconnectVerdict_congr h.same (h.kept r hr)), hsame.trans h.same,
    fun k hk he => ?_, fun k hk => ?_⟩
  · by_cases hkr : k = r
    · subst hkr
      exact hleaving (by rw [rackEnabled_congr h.same]; exact he)
    · rw [honly k hkr]
      exact h.leaving k (by simpa [hkr] using hk) he
  · simp only [List.mem_append, List.mem_singleton, not_or] at hk
    rw [honly k hk.2]
    exact h.kept k hk.1

theorem exec_disconnect (tag : Byte) (mask : RackMask) (s : State) :
    exec (.disconnect tag mask) s =
      serveMoving tag (.disconnect mask) (answerDisconnect mask) s := rfl

/-! ## CLEAR_FAULT (R141) -/

/-- A rack that a cleared latch may have released: unchanged, or LOCKED before and OPEN now. -/
def Released (x y : RackSwitch) : Prop :=
  y = x ∨ (x.state = .locked ∧ y.state = .opened ∧ y.hardBreaks = x.hardBreaks ∧
    y.faultKind = x.faultKind ∧ y.operation = x.operation ∧ y.mainClosed = x.mainClosed ∧
    y.prechargeClosed = x.prechargeClosed)

theorem Released.trans {x y z : RackSwitch} (h : Released x y) (k : Released y z) : Released x z := by
  rcases h with rfl | ⟨hx, hy, hb, hf⟩
  · exact k
  · rcases k with rfl | ⟨hl, -⟩
    · exact .inr ⟨hx, hy, hb, hf⟩
    · rw [hy] at hl
      cases hl

theorem judgeContainerLatch_released (kind : TripKind) (s : State) (r : Rack) :
    Released (s.sequencer.racks.get r)
      ((judgeContainerLatch kind s).sequencer.racks.get r) := by
  have hrelease (k : Rack) (x : State) : Released (x.sequencer.racks.get r)
      ((releaseLocked k x).sequencer.racks.get r) := by
    unfold releaseLocked
    split
    next h =>
      simp only [Bool.and_eq_true, decide_eq_true_eq] at h
      by_cases hr : r = k
      · subst hr
        rw [changeRack_self]
        exact .inr ⟨h.1, rfl, rfl, rfl, rfl, rfl, rfl⟩
      · exact .inl (changeRack_only _ _ _ _ r hr)
    next => exact .inl rfl
  unfold judgeContainerLatch
  split
  · unfold clearContainerLatch
    dsimp only
    refine inAnyOrder_keeps (P := fun x => Released (s.sequencer.racks.get r)
      (x.sequencer.racks.get r)) (fun _ _ h => h) (fun act ha x hx => ?_) ?_
    · simp only [List.mem_cons, List.not_mem_nil, or_false] at ha
      rcases ha with rfl | rfl | rfl | rfl
      · rw [post_sequencer]
        exact hx
      · exact forRacks_keeps (P := fun x => Released (s.sequencer.racks.get r)
          (x.sequencer.racks.get r)) (fun k _ y hy => hy.trans (hrelease k y)) hx
      · exact hx
      · exact hx
    · exact .inl (congrArg (fun q => PerRack.get (Sequencer.racks q) r) (sameBut_sequencer (s := s)
        (A := [.converter, .trips]) (by simp [sameBut_refl]) (by simp)))
  · exact .inl rfl

theorem releaseLocked_calm (r : Rack) (h : s.Calm) : (releaseLocked r s).Calm := by
  unfold releaseLocked
  split
  next hl =>
    simp only [Bool.and_eq_true, decide_eq_true_eq] at hl
    exact h.changeRack (by rw [hl.1]; rfl) (fun hc => by cases hc) rfl rfl
  next => exact h

theorem judgeContainerLatch_calm (kind : TripKind) (h : s.Calm) :
    (judgeContainerLatch kind s).Calm := by
  unfold judgeContainerLatch
  split
  · unfold clearContainerLatch
    dsimp only
    refine inAnyOrder_keeps (P := State.Calm) (fun _ _ h => h.of_same rfl) (fun act ha x hx => ?_)
      (h.of_same ?_)
    · simp only [List.mem_cons, List.not_mem_nil, or_false] at ha
      rcases ha with rfl | rfl | rfl | rfl
      · exact hx.of_same (post_sequencer _ _)
      · exact forRacks_keeps (P := State.Calm) (fun r _ y hy => releaseLocked_calm r hy) hx
      · exact hx.of_same rfl
      · exact hx.of_same rfl
    · exact sameBut_sequencer (A := [.converter, .trips]) (by simp [sameBut_refl]) (by simp)
  · exact h

/-- The WELDED latch once judged is settled. -/
theorem judgeWelded_settled (h : s.Calm) : (judgeContainerLatch .welded s).Settled := by
  have hcalm := judgeContainerLatch_calm .welded h
  refine ⟨fun hh => ?_, hcalm.granted, hcalm.hold⟩
  by_cases hj : ((s.trips.container.latch .welded).standing && s.containerGone .welded) = true
  · have hclear : (judgeContainerLatch .welded s).latchNamed (none, .welded) = .clear := by
      unfold judgeContainerLatch
      rw [if_pos hj]
      exact (clearContainerLatch_latches (kind := .welded) rfl s).2
    have hstand : (judgeContainerLatch .welded s).trips.container.welded.standing = false :=
      congrArg Latch.standing hclear
    rw [hstand] at hh
    cases hh
  · have hsame : judgeContainerLatch .welded s = s := by
      unfold judgeContainerLatch
      rw [if_neg hj]
    rw [hsame] at hh ⊢
    simpa [ContainerLatches.latch, hh] using hj

/-- A change of a rack's part that the sequencer does not settle by leaves it at rest. -/
theorem State.Settled.setRack {r : Rack} {x : RackSwitch} (h : s.Settled)
    (hst : x.state = (s.sequencer.racks.get r).state)
    (hf : x.faultKind = (s.sequencer.racks.get r).faultKind)
    (ho : x.operation = (s.sequencer.racks.get r).operation)
    (hd : x.disconnectPending = (s.sequencer.racks.get r).disconnectPending) :
    (s.setRackSwitch r x).Settled := by
  have hget : ∀ k, ((s.setRackSwitch r x).sequencer.racks.get k).state =
        (s.sequencer.racks.get k).state ∧
      ((s.setRackSwitch r x).sequencer.racks.get k).faultKind =
        (s.sequencer.racks.get k).faultKind ∧
      ((s.setRackSwitch r x).sequencer.racks.get k).operation =
        (s.sequencer.racks.get k).operation ∧
      ((s.setRackSwitch r x).sequencer.racks.get k).disconnectPending =
        (s.sequencer.racks.get k).disconnectPending := fun k => by
    rw [State.setRackSwitch_sequencer, PerRack.get_set]
    split
    next hk => subst hk; exact ⟨hst, hf, ho, hd⟩
    next => exact ⟨rfl, rfl, rfl, rfl⟩
  have hany : (s.setRackSwitch r x).anyWelded = s.anyWelded := by
    simp only [State.anyWelded, hget]
  refine ⟨fun hh => ?_, ?_, fun hh => ?_⟩
  · have hgone : (s.setRackSwitch r x).containerGone .welded = s.containerGone .welded := by
      show (_ && !(s.setRackSwitch r x).anyWelded) = _
      rw [hany]
      rfl
    exact hgone.trans (h.welded hh)
  · have hslot : (s.setRackSwitch r x).sequencer.slot = s.sequencer.slot := rfl
    rw [grantable_eq_none]
    simpa only [State.rackState, hget, hslot] using (grantable_eq_none s).1 h.granted
  · have := h.hold hh
    simpa only [State.anySwitching, State.rackState, hget] using this

/-- The result of CLEAR_FAULT for one rack (R141). -/
def State.clearFaultVerdict (s : State) (r : Rack) : Result :=
  if s.rackEnabled r = false then .badIndex
  else if s.rackState r = .fault then
    if (s.sequencer.racks.get r).mainClosed = true ∨
      (s.sequencer.racks.get r).prechargeClosed = true then .wrongMode else .ok
  else if s.rackState r = .opened ∨ s.rackState r = .locked then
    if 0 < (s.sequencer.racks.get r).hardBreaks then .ok else .already
  else .wrongMode

/-- What a CLEAR_FAULT makes of a rack it names (R141). -/
def FaultCleared (x y : RackSwitch) : Prop :=
  (x.state = .opened ∨ x.state = .locked →
    (y.state = .opened ∨ y.state = .locked) ∧ y.hardBreaks = 0) ∧
  (x.state = .fault → ¬ (x.mainClosed = true ∨ x.prechargeClosed = true) →
    (y.state = .opened ∨ y.state = .locked) ∧ y.faultKind = none ∧ y.hardBreaks = 0) ∧
  (x.state = .fault → x.mainClosed = true ∨ x.prechargeClosed = true → y = x)

theorem FaultCleared.released {x y z : RackSwitch} (h : FaultCleared x y) (k : Released y z) :
    FaultCleared x z := by
  rcases k with rfl | ⟨hl, ho, hb, hf, -⟩
  · exact h
  · obtain ⟨h1, h2, h3⟩ := h
    refine ⟨fun hx => ⟨.inl ho, hb.trans (h1 hx).2⟩, fun hx hn => ⟨.inl ho, hf.trans (h2 hx hn).2.1,
      hb.trans (h2 hx hn).2.2⟩, fun hx hc => ?_⟩
    rw [h3 hx hc, hx] at hl
    cases hl

/-- A rack released before it is named is judged as it was. -/
theorem FaultCleared.of_released {x y z : RackSwitch} (h : Released x y) (k : FaultCleared y z) :
    FaultCleared x z := by
  rcases h with rfl | ⟨hl, ho, hb, hf⟩
  · exact k
  · refine ⟨fun _ => k.1 (.inl ho), fun hx => ?_, fun hx => ?_⟩ <;> rw [hl] at hx <;> cases hx

theorem bothOpen_iff (x : RackSwitch) :
    x.bothOpen = true ↔ ¬ (x.mainClosed = true ∨ x.prechargeClosed = true) := by
  simp [RackSwitch.bothOpen]

/-- One rack of a CLEAR_FAULT in a settled state: it is answered by its verdict and cleared, the other
racks are released at most, and the state is settled again. -/
theorem clearFaultOne_spec (r : Rack) (h : s.Settled) :
    (clearFaultOne r s).1 = s.clearFaultVerdict r ∧ (clearFaultOne r s).2.tables = s.tables ∧
      (clearFaultOne r s).2.Settled ∧
      (∀ k, k ≠ r → Released (s.sequencer.racks.get k)
        ((clearFaultOne r s).2.sequencer.racks.get k)) ∧
      (s.rackEnabled r = true →
        FaultCleared (s.sequencer.racks.get r) ((clearFaultOne r s).2.sequencer.racks.get r)) ∧
      (s.rackEnabled r = false → (clearFaultOne r s).2 = s) := by
  unfold clearFaultOne
  dsimp only
  split
  next hn =>
    have he : s.rackEnabled r = false := by simpa using hn
    refine ⟨by simp [State.clearFaultVerdict, he], rfl, h, fun _ _ => .inl rfl, fun hh => ?_,
      fun _ => rfl⟩
    rw [he] at hh
    cases hh
  next hn =>
    have he : s.rackEnabled r = true := by simpa using hn
    have hno : ¬ s.rackEnabled r = false := by rw [he]; decide
    have hbreaks (hst : s.rackState r = .opened ∨ s.rackState r = .locked) :
        (clearHardBreaks r s).1 = s.clearFaultVerdict r ∧ (clearHardBreaks r s).2.tables = s.tables ∧
          (clearHardBreaks r s).2.Settled ∧
          (∀ k, k ≠ r → Released (s.sequencer.racks.get k)
            ((clearHardBreaks r s).2.sequencer.racks.get k)) ∧
          (s.rackEnabled r = true → FaultCleared (s.sequencer.racks.get r)
            ((clearHardBreaks r s).2.sequencer.racks.get r)) ∧
          (s.rackEnabled r = false → (clearHardBreaks r s).2 = s) := by
      have hnf : s.rackState r ≠ .fault := by rcases hst with hst | hst <;> rw [hst] <;> decide
      have hnofault : ¬ (s.sequencer.racks.get r).state = .fault := hnf
      unfold clearHardBreaks
      dsimp only
      split
      next hz =>
        refine ⟨?_, rfl, h, fun _ _ => .inl rfl, fun _ => ⟨fun hx => ⟨hx, hz⟩,
          fun hx => absurd hx hnofault, fun hx => absurd hx hnofault⟩, fun _ => rfl⟩
        rw [State.clearFaultVerdict, if_neg hno, if_neg hnf, if_pos hst, if_neg (by omega)]
      next hz =>
        refine ⟨?_, rfl, ?_, fun k hk => .inl (PerRack.get_set_ne _ _ hk), fun _ => ?_,
          fun hh => absurd hh hno⟩
        · rw [State.clearFaultVerdict, if_neg hno, if_neg hnf, if_pos hst, if_pos (by omega)]
        · exact h.setRack rfl rfl rfl rfl
        · rw [State.setRackSwitch_sequencer, PerRack.get_set_self]
          exact ⟨fun hx => ⟨hx, rfl⟩, fun hx => absurd hx hnofault, fun hx => absurd hx hnofault⟩
    have hother (hst : s.rackState r ≠ .fault ∧ s.rackState r ≠ .opened ∧ s.rackState r ≠ .locked) :
        Result.wrongMode = s.clearFaultVerdict r ∧ s.tables = s.tables ∧ s.Settled ∧
          (∀ k, k ≠ r → Released (s.sequencer.racks.get k) (s.sequencer.racks.get k)) ∧
          (s.rackEnabled r = true →
            FaultCleared (s.sequencer.racks.get r) (s.sequencer.racks.get r)) ∧
          (s.rackEnabled r = false → s = s) := by
      obtain ⟨hf, ho, hl⟩ := hst
      refine ⟨?_, rfl, h, fun _ _ => .inl rfl, fun _ => ⟨fun hx => ?_, fun hx => absurd hx hf,
        fun hx => absurd hx hf⟩, fun _ => rfl⟩
      · rw [State.clearFaultVerdict, if_neg hno, if_neg hf,
          if_neg fun hh => hh.elim ho hl]
      · exact absurd hx fun hh => hh.elim ho hl
    cases hst : (s.sequencer.racks.get r).state with
    | fault =>
      dsimp only
      split
      next hopen =>
        have hclosed := (bothOpen_iff _).1 hopen
        have hcalm := h.calm.changeRack (r := r) (cause := .clearFault)
          (x := { s.sequencer.racks.get r with
            state := if s.latchedFor r then .locked else .opened
            faultKind := none
            hardBreaks := 0 }) (by rw [State.rackState, hst]; rfl)
          (by dsimp only; split <;> decide) rfl rfl
        generalize hx : ({ s.sequencer.racks.get r with
          state := if s.latchedFor r then .locked else .opened
          faultKind := none
          hardBreaks := 0 } : RackSwitch) = x at hcalm
        have hself := changeRack_self r x .clearFault s
        have honly := changeRack_only r x .clearFault s
        have htables := tables_bystander.changeRack r x .clearFault s
        generalize changeRack r x .clearFault s = y at hcalm hself honly htables
        refine ⟨?_, (tables_bystander.judgeContainerLatch (fun _ _ _ _ => rfl) _ _).trans htables,
          judgeWelded_settled hcalm, fun k hk => ?_, fun _ => ?_, fun hh => absurd hh hno⟩
        · rw [State.clearFaultVerdict, if_neg hno, State.rackState, hst, if_pos rfl,
            if_neg hclosed]
        · rw [← honly k hk]
          exact judgeContainerLatch_released .welded y k
        · refine FaultCleared.released ?_ (judgeContainerLatch_released .welded y r)
          have hopened : (y.sequencer.racks.get r).state = .opened ∨
              (y.sequencer.racks.get r).state = .locked := by
            rw [hself, ← hx]
            show (if s.latchedFor r then RackState.locked else .opened) = _ ∨
              (if s.latchedFor r then RackState.locked else .opened) = _
            split
            · exact .inr rfl
            · exact .inl rfl
          have hnone : (y.sequencer.racks.get r).faultKind = none ∧
              (y.sequencer.racks.get r).hardBreaks = 0 := by
            rw [hself, ← hx]
            exact ⟨rfl, rfl⟩
          exact ⟨fun _ => ⟨hopened, hnone.2⟩, fun _ _ => ⟨hopened, hnone.1, hnone.2⟩,
            fun _ hc => absurd hc hclosed⟩
      next hclosed =>
        rw [bothOpen_iff, not_not] at hclosed
        refine ⟨?_, rfl, h, fun _ _ => .inl rfl, fun _ => ⟨fun hh => ?_, fun _ hn => absurd hclosed hn,
          fun _ _ => rfl⟩, fun _ => rfl⟩
        · rw [State.clearFaultVerdict, if_neg hno, State.rackState, hst, if_pos rfl, if_pos hclosed]
        · rw [hst] at hh
          rcases hh with hh | hh <;> cases hh
    | opened => exact hbreaks (.inl hst)
    | locked => exact hbreaks (.inr hst)
    | queued | precharging | joining | connected | draining | opening =>
      exact hother (by rw [State.rackState, hst]; decide)

/-- Where the racks of a CLEAR_FAULT stand once some of them are judged. -/
structure ClearingFaults (s : State) (done : List Rack) (x : State) : Prop where
  tables : x.tables = s.tables
  settled : x.Settled
  cleared : ∀ r ∈ done, s.rackEnabled r = true →
    FaultCleared (s.sequencer.racks.get r) (x.sequencer.racks.get r)
  released : ∀ r, r ∉ done ∨ s.rackEnabled r = false →
    Released (s.sequencer.racks.get r) (x.sequencer.racks.get r)

theorem clearFaultVerdict_released {x : State} {r : Rack} (ht : x.tables = s.tables)
    (h : Released (s.sequencer.racks.get r) (x.sequencer.racks.get r)) :
    x.clearFaultVerdict r = s.clearFaultVerdict r := by
  have he : x.rackEnabled r = s.rackEnabled r := by
    simp only [State.rackEnabled, State.rackConfig, State.rackEntry, State.table, ht]
  unfold State.clearFaultVerdict State.rackState
  rw [he]
  rcases h with h | ⟨hl, ho, hb, -⟩
  · rw [h]
  · rw [hl, ho, hb]
    simp

theorem clearFaultOne_clearing {done : List Rack} {r : Rack} {x : State} (hr : r ∉ done)
    (h : ClearingFaults s done x) : (clearFaultOne r x).1 = s.clearFaultVerdict r ∧
      ClearingFaults s (done ++ [r]) (clearFaultOne r x).2 := by
  obtain ⟨hv, ht, hset, hothers, hcleared, hnone⟩ := clearFaultOne_spec r h.settled
  have hrel := h.released r (.inl hr)
  have he : x.rackEnabled r = s.rackEnabled r := by
    simp only [State.rackEnabled, State.rackConfig, State.rackEntry, State.table, h.tables]
  refine ⟨hv.trans (clearFaultVerdict_released h.tables hrel), ht.trans h.tables, hset,
    fun k hk hen => ?_, fun k hk => ?_⟩
  · by_cases hkr : k = r
    · subst hkr
      exact FaultCleared.of_released hrel (hcleared (by rw [he]; exact hen))
    · exact (h.cleared k (by simpa [hkr] using hk) hen).released (hothers k hkr)
  · by_cases hkr : k = r
    · subst hkr
      have hdis : x.rackEnabled k = false := by
        rw [he]
        exact hk.resolve_left (by simp)
      rw [hnone hdis]
      exact hrel
    · exact (h.released k (hk.imp_left fun hd hh => hd (List.mem_append_left _ hh))).trans
        (hothers k hkr)

theorem exec_clearFault (tag : Byte) (mask : RackMask) (s : State) :
    exec (.clearFault tag mask) s =
      serveMoving tag (.clearFault mask) (answerClearFault mask) s := rfl

/-- Settles O49. -/
theorem disconnectAndClearFault : Obligations.DisconnectAndClearFault := by
  unfold Obligations.DisconnectAndClearFault
  refine ⟨?disconnect, ?clear⟩
  case disconnect =>
    intro tag mask rest s x verdict ho
    refine ⟨fun hu => ?_, fun hu hm => ?_, fun hu hm => ?_⟩
    · exact (exec_disconnect tag mask s).trans (serveMoving_answered ho (if_pos hu))
    · exact (exec_disconnect tag mask s).trans
        (serveMoving_answered ho ((if_neg hu).trans (if_pos hm)))
    · obtain ⟨y, hy, hI⟩ := perRackAnswer_spec (s := s.taking rest) (one := disconnectOne)
        (verdict := (s.taking rest).disconnectVerdict) (Disconnecting (s.taking rest))
        (racksOf_nodup mask) ⟨rfl, nofun, fun _ _ => rfl⟩
        fun done r z _ hr hz => disconnectOne_disconnecting hr hz
      have hanswer : answerDisconnect mask (s.taking rest) = _ :=
        ((if_neg hu).trans (if_neg hm)).trans hy
      refine ⟨_, (exec_disconnect tag mask s).trans (serveMoving_offered ho _), ?_, fun r hr he => ?_⟩
      · rw [serveMoving_replied ho (answerDisconnect_moves (may := nothing) (.refl _) mask), hanswer]
        rfl
      · have hleaving : ((settle (takeRequest tag (.disconnect mask) (answerDisconnect mask)
            s)).sequencer.racks.get r).leaving := by
          refine rackProp_settle leaving_of_not_live leaving_fillWatch ?_
          rw [takeRequest_offered ho, hanswer]
          exact hI.leaving r hr he
        rw [rackState_eq_of_sequencer (arbitrate_sequencer _), arbitrate_sequencer]
        generalize settle (takeRequest tag (.disconnect mask) (answerDisconnect mask) s) = z
          at hleaving
        refine ⟨fun hst => ?_, fun hst => ?_, fun hst => (hleaving ?_).2⟩
        · have hst' : (z.sequencer.racks.get r).state = .queued := hst
          rcases (hleaving (by rw [hst']; rfl)).1 with h | h <;> rw [hst'] at h <;> cases h
        · have hst' : (z.sequencer.racks.get r).state = .precharging := hst
          rcases (hleaving (by rw [hst']; rfl)).1 with h | h <;> rw [hst'] at h <;> cases h
        · rcases hst with hst | hst <;> exact congrArg RackState.live hst
  case clear =>
    intro tag mask rest s x closed verdict ho hs
    have hverdict : s.clearFaultVerdict = verdict := rfl
    refine ⟨fun hm => ?_, fun hm => ?_⟩
    · have hrest : (s.answered x rest .badRequest .nothing).Settled := hs.of_same rfl rfl
      rw [exec_clearFault, serveMoving_answered ho (if_pos hm), settle_stays hrest]
    · obtain ⟨y, hy, hI⟩ := perRackAnswer_spec (s := s.taking rest) (one := clearFaultOne)
        (verdict := (s.taking rest).clearFaultVerdict) (ClearingFaults (s.taking rest))
        (racksOf_nodup mask) ⟨rfl, hs.of_same rfl rfl, nofun, fun _ _ => .inl rfl⟩
        fun done r z _ hr hz => clearFaultOne_clearing hr hz
      have hanswer : answerClearFault mask (s.taking rest) = _ := (if_neg hm).trans hy
      refine ⟨_, (exec_clearFault tag mask s).trans (serveMoving_offered ho _), ?_, ?_⟩
      · rw [serveMoving_replied ho (answerClearFault_moves (may := fun l => l = .clear .welded)
          (.refl _) rfl mask), hanswer]
        rfl
      · have hseq : (arbitrate (settle (takeRequest tag (.clearFault mask) (answerClearFault mask)
            s))).sequencer = y.sequencer := by
          rw [arbitrate_sequencer, settle_request ho (by rw [hanswer]; exact hI.settled),
            takeRequest_offered ho, hanswer]
          rfl
        generalize arbitrate (settle (takeRequest tag (.clearFault mask) (answerClearFault mask) s)) =
          t at hseq
        simp only [State.rackState, hseq]
        refine ⟨fun r hr he hst => (hI.cleared r hr he).1 hst, fun r hf => ⟨fun hr he hn =>
          (hI.cleared r hr he).2.1 hf hn, fun h => ?_⟩⟩
        have unreleased : Released (s.sequencer.racks.get r) (y.sequencer.racks.get r) →
            y.sequencer.racks.get r = s.sequencer.racks.get r := fun hrel => by
          rcases hrel with hrel | ⟨hl, -⟩
          · exact hrel
          · rw [hf] at hl
            cases hl
        by_cases hin : r ∈ racksOf mask ∧ s.rackEnabled r = true
        · rcases h with h | h | h
          · exact absurd hin.1 h
          · rw [h] at hin
            cases hin.2
          · exact (hI.cleared r hin.1 hin.2).2.2 hf h
        · refine unreleased (hI.released r ?_)
          by_cases hr : r ∈ racksOf mask
          · exact .inr (Bool.eq_false_iff.2 fun he => hin ⟨hr, he⟩)
          · exact .inl hr

end Sys2Proof.Machine

namespace Sys2Proof.Machine

variable {may : Liberty → Prop} {s t u : State}

/-! ## A rack that settling leaves alone -/

theorem workOutContainer_sequencer (s : State) : (workOutContainer s).sequencer = s.sequencer :=
  sameBut_sequencer (A := [.limits, .converter]) (by simp [sameBut_refl]) (by simp)

theorem grantable_pending {r : Rack} (h : s.grantable = some r) :
    (s.sequencer.racks.get r).disconnectPending = true := by
  unfold State.grantable at h
  split at h
  · cases h
  · have := List.find?_some h
    rw [Bool.and_eq_true] at this
    exact this.1

/-- Where no GRID table waits to swap, settling releases a LOCKED rack at most and grants a CONNECTED one
its pending disconnect. -/
theorem settle_released (h : (s.table .grid).state ≠ .committed) {r : Rack}
    (hr : (s.sequencer.racks.get r).state = .connected →
      (s.sequencer.racks.get r).disconnectPending = false) :
    Released (s.sequencer.racks.get r) ((settle s).sequencer.racks.get r) := by
  have hgrant : ∀ (n : Nat) (x : State), ((x.sequencer.racks.get r).state = .connected →
      (x.sequencer.racks.get r).disconnectPending = false) →
      (grantDisconnects n x).sequencer.racks.get r = x.sequencer.racks.get r := by
    intro n
    induction n with
    | zero => exact fun _ _ => rfl
    | succ n ih =>
      intro x hx
      unfold grantDisconnects
      split
      next k hk =>
        have hkr : r ≠ k := fun he => by
          subst he
          have hp := grantable_pending hk
          rw [hx (grantable_connected hk)] at hp
          cases hp
        have hsame : (enterDraining k .disconnect x.drainTime .disconnect (x.withSequencer
            { x.sequencer with slot := some k })).sequencer.racks.get r = x.sequencer.racks.get r :=
          enterDraining_only k .disconnect x.drainTime .disconnect (x.withSequencer
            { x.sequencer with slot := some k }) r hkr
        rw [ih _ (by rw [hsame]; exact hx), hsame]
      next => rfl
  have once (x : State) (hx : (x.table .grid).state ≠ .committed)
      (hc : (x.sequencer.racks.get r).state = .connected →
        (x.sequencer.racks.get r).disconnectPending = false) :
      Released (x.sequencer.racks.get r) ((endHold (grantDisconnects 4
        (judgeContainerLatch .welded x))).sequencer.racks.get r) := by
    have hrel := judgeContainerLatch_released .welded x r
    have htables := (tables_bystander.grantDisconnects 4 _).trans
      (tables_bystander.judgeContainerLatch (fun _ _ _ _ => rfl) .welded x)
    have hend : (endHold (grantDisconnects 4 (judgeContainerLatch .welded x))).sequencer.racks =
        (grantDisconnects 4 (judgeContainerLatch .welded x)).sequencer.racks := by
      rw [endHold_unswapped (by rw [table_congr htables]; exact hx)]
      split
      · rw [workOutContainer_sequencer]
        rfl
      · rfl
    rw [hend, hgrant]
    · exact hrel
    · intro hst
      rcases hrel with he | ⟨-, ho, -⟩
      · rw [he] at hst ⊢
        exact hc hst
      · rw [ho] at hst
        cases hst
  have hfirst := once s h hr
  refine hfirst.trans (once _ ?_ fun hst => ?_)
  · rw [table_congr (tables_bystander.settleOnce (fun _ _ _ _ => rfl) h)]
    exact h
  · rcases hfirst with he | ⟨-, ho, -⟩
    · rw [he] at hst ⊢
      exact hr hst
    · rw [ho] at hst
      cases hst

/-- A rack that is not LOCKED, and not CONNECTED with disconnect pending, stays as it is. -/
theorem settle_rack (h : (s.table .grid).state ≠ .committed) {r : Rack}
    (hl : (s.sequencer.racks.get r).state ≠ .locked)
    (hr : (s.sequencer.racks.get r).state = .connected →
      (s.sequencer.racks.get r).disconnectPending = false) :
    (settle s).sequencer.racks.get r = s.sequencer.racks.get r :=
  (settle_released h hr).resolve_right fun hh => hl hh.1

/-! ## A rack in FAULT while a cause is taken -/

theorem takeOver_only (r : Rack) (s : State) : OnlyRack r s (takeOver r s) :=
  (onlyRack_of_racks (freeSlot_racks r s)).trans (setRackSwitch_only _ _ _)

theorem lockQueued_only (r : Rack) (kind : TripKind) (s : State) :
    OnlyRack r s (lockQueued r kind s) :=
  (onlyRack_of_racks (congrArg Sequencer.racks
    (connectResult_sequencer r .abortedByTrip (dequeue r s)))).trans (changeRack_only _ _ _ _)

theorem immediateOrder_only (kind : TripKind) (r : Rack) (s : State) :
    OnlyRack r s (immediateOrder kind r s) := by
  have hresult : OnlyRack r s (connectResult r .abortedByTrip s) :=
    onlyRack_of_racks (congrArg Sequencer.racks (connectResult_sequencer _ _ _))
  unfold immediateOrder
  split
  · exact (hresult.trans (takeOver_only _ _)).trans (enterOpening_only _ _ _ _)
  · exact (hresult.trans (takeOver_only _ _)).trans (enterOpening_only _ _ _ _)
  · exact (takeOver_only _ _).trans (enterOpening_only _ _ _ _)
  · exact (takeOver_only _ _).trans (enterOpening_only _ _ _ _)
  · exact (takeOver_only _ _).trans (setRackSwitch_only _ _ _)
  · exact lockQueued_only _ _ _
  · exact changeRack_only _ _ _ _
  · exact onlyRack_of_racks rfl
  · exact onlyRack_of_racks rfl

/-- After the order of a cause, nothing more of it moves a rack. -/
theorem takeCause_racks (kind : TripKind) (named : Option Rack) (data : CauseData) (s : State) :
    (takeCause kind named data s).sequencer.racks = (order kind (namedRacks named)
      (writeRecord (recordOf kind named data s) (setLatch kind named data s))).sequencer.racks := by
  unfold takeCause
  dsimp only
  have hhand (x : State) : (handLatch x).sequencer = x.sequencer :=
    sameBut_sequencer (A := [.converter, .site, .choices]) (by simp [sameBut_refl]) (by simp)
  rw [hhand, post_sequencer]
  split
  · exact congrArg Sequencer.racks (sameBut_sequencer (A := [.converter])
      ((requestPulse_frame _ _ (by simp)).2 (sameBut_refl _ _)) (by simp))
  · rfl

/-- A cause that opens at once leaves a rack in FAULT as it is. -/
theorem takeCause_fault {kind : TripKind} (hk : kind.tripClass = .immediate) (named : Option Rack)
    (data : CauseData) {r : Rack} (hr : (s.sequencer.racks.get r).state = .fault) :
    (takeCause kind named data s).sequencer.racks.get r = s.sequencer.racks.get r := by
  rw [takeCause_racks, order, hk]
  refine forRacks_keeps (P := fun x => x.sequencer.racks.get r = s.sequencer.racks.get r)
    (fun k _ x hx => ?_) ?_
  · by_cases hkr : r = k
    · subst hkr
      have hst : x.rackState r = .fault := (congrArg RackSwitch.state hx).trans hr
      rw [immediateOrder, hst]
      exact hx
    · exact (immediateOrder_only kind k x r hkr).trans hx
  · cases named <;> rfl

/-! ## The timers of a rack (O50) -/

theorem endInFault_self (r : Rack) (kind : FaultKind) (cause : RackCause) (s : State) :
    ((endInFault r kind cause s).sequencer.racks.get r).state = .fault ∧
      ((endInFault r kind cause s).sequencer.racks.get r).faultKind = some kind ∧
      ((endInFault r kind cause s).sequencer.racks.get r).hardBreaks =
        (s.sequencer.racks.get r).hardBreaks := by
  unfold endInFault
  rw [endOperation_self]
  exact ⟨rfl, rfl, rfl⟩

/-- A rack welded at rest stands in FAULT WELDED, and the container is tripped (R124). -/
theorem weldAtRest_welded (r : Rack) (c : Contactor) (s : State) :
    ((weldAtRest r c s).sequencer.racks.get r).state = .fault ∧
      ((weldAtRest r c s).sequencer.racks.get r).faultKind = some .welded ∧
      (weldAtRest r c s).trips.container.welded = ⟨true, false⟩ ∧
      ∀ k, ((weldAtRest r c s).rackState k).conducts = false := by
  unfold weldAtRest takeWelded
  dsimp only
  generalize (if s.rackState r = .queued then connectResult r .abortedByTrip (dequeue r s) else s) = x
  obtain ⟨hst, hkind, -⟩ := endInFault_self r .welded (.watchTimer c) x
  rw [takeCause_fault (kind := .welded) rfl none _ hst]
  exact ⟨hst, hkind, takeCause_container (kind := .welded) rfl _ _,
    fun k => takeCause_conducts (kind := .welded) rfl _ _ (Rack.mem_all k)⟩

theorem failClosed_self (r : Rack) (s : State) :
    ((failClosed r s).sequencer.racks.get r).state = .fault ∧
      ((failClosed r s).sequencer.racks.get r).faultKind = some .failedToClose ∧
      ((failClosed r s).sequencer.racks.get r).hardBreaks = (s.sequencer.racks.get r).hardBreaks := by
  obtain ⟨hst, hkind, hbreaks⟩ := endInFault_self r .failedToClose (.watchTimer .main)
    (s.setRackSwitch r { s.sequencer.racks.get r with
      releaseCurrent := s.freshCurrent r
      underLoad := s.loadMark r })
  refine ⟨hst, hkind, hbreaks.trans ?_⟩
  rw [State.setRackSwitch_sequencer, PerRack.get_set_self]

theorem becomeConnected_self (r : Rack) (cause : RackCause) (s : State) :
    (becomeConnected r cause s).sequencer.racks.get r =
      { s.sequencer.racks.get r with
        state := .connected, operation := .none, timer := none }.rewatch s.now := by
  unfold becomeConnected
  dsimp only
  rw [freeSlot_racks, connectResult_sequencer, changeRack_self]

theorem exec_watchTimerExpiry (r : Rack) (c : Contactor) (s : State) :
    exec (.watchTimerExpiry r c) s = moveWhen (s.watchIsDue r c) (expireRackWatch r c) s := rfl

theorem exec_waitTimerExpiry (r : Rack) (s : State) :
    exec (.waitTimerExpiry r) s = moveWhen (s.waitIsDue r) (expireWait r) s := rfl

theorem exec_prechargeTimeout (r : Rack) (s : State) : exec (.prechargeTimeout r) s =
    moveWhen (s.operationDue r .precharging .precharge) (expirePrecharge r) s := rfl

theorem exec_closeProofExpiry (r : Rack) (s : State) : exec (.closeProofExpiry r) s =
    moveWhen (s.operationDue r .joining .closeProof) (expireCloseProof r) s := rfl

theorem exec_prechargeReleaseDelayEnd (r : Rack) (s : State) :
    exec (.prechargeReleaseDelayEnd r) s =
      moveWhen (s.operationDue r .joining .releaseDelay) (endReleaseDelay r) s := rfl

theorem exec_drainTimerExpiry (r : Rack) (s : State) : exec (.drainTimerExpiry r) s =
    moveWhen (s.operationDue r .draining .drain) (expireDrain r) s := rfl

theorem exec_openProofExpiry (r : Rack) (s : State) : exec (.openProofExpiry r) s =
    moveWhen (s.operationDue r .opening .openProof) (expireOpenProof r) s := rfl

theorem operationDue_iff {r : Rack} {st : RackState} {k : OperationTimerKind} :
    s.operationDue r st k = true ↔ s.rackState r = st ∧ ∃ m,
      (s.sequencer.racks.get r).timer = some m ∧ m.kind = k ∧ m.limit ≤ (s.now - m.since).toNat := by
  unfold State.operationDue RackSwitch.timerDue
  cases (s.sequencer.racks.get r).timer with
  | none => simp
  | some m => simp [reached_iff]

/-- Where no GRID table waits to swap, the tables of a step of the sequencer are those before it. -/
theorem tables_uncommitted (h : (s.table .grid).state ≠ .committed) (ht : t.tables = s.tables) :
    (t.table .grid).state ≠ .committed := by
  rw [table_congr ht]
  exact h

/-- A rack that a step leaves in FAULT ends the command in it. -/
theorem settle_fault (h : (s.table .grid).state ≠ .committed) {r : Rack}
    (hr : (s.sequencer.racks.get r).state = .fault) :
    (arbitrate (settle s)).sequencer.racks.get r = s.sequencer.racks.get r := by
  rw [arbitrate_sequencer]
  exact settle_rack h (by rw [hr]; decide) fun hc => by rw [hr] at hc; cases hc

theorem settle_commandedOpen {r : Rack} (h : (s.rackState r).conducts = false) :
    (arbitrate (settle s)).commandedOpen r := by
  rw [commandedOpen_iff, rackState_eq_of_sequencer (arbitrate_sequencer _)]
  exact settle_conducts h

/-- A welded rack named by the open proof trips the container (R136). -/
theorem takeWeldedOf_eq {r : Rack} (h : (s.sequencer.racks.get r).closedContactors ≠ []) :
    ∃ c n, takeWeldedOf r s = takeWelded r c (s.withChoices n) := by
  obtain ⟨-, hsome, hstate⟩ := pickFree_spec (s.sequencer.racks.get r).closedContactors s
  unfold takeWeldedOf
  split
  next c s1 he =>
    rw [he] at hstate
    rcases hstate with hstate | hstate
    · exact ⟨c, s.choices, by rw [show s1 = s from hstate]; rfl⟩
    · exact ⟨c, _, by rw [show s1 = _ from hstate]⟩
  next s1 he =>
    rw [he] at hsome
    cases hsome h

/-- Settles O50. -/
theorem rackTimersAct : Obligations.RackTimersAct := by
  unfold Obligations.RackTimersAct
  intro s r hgrid x runs
  have hruns : ∀ {st k}, x.state = st → runs k → s.operationDue r st k = true := fun hst hk =>
    operationDue_iff.2 ⟨hst, hk⟩
  refine ⟨fun c hdue => ⟨fun hst => ?_, fun hst => ?_⟩, fun hdue hst => ?_, fun hst hk => ?_,
    fun hst hk => ?_, fun hst hk hp => ?_, fun hst hk => ?_, fun hst hk hc => ?_⟩
  · have hact : expireRackWatch r c s = weldAtRest r c
        (s.setRackSwitch r ((s.sequencer.racks.get r).fillWatch c s.contactorProof)) := by
      unfold expireRackWatch
      dsimp only
      rcases hst with hst | hst | hst <;>
      · have : (s.sequencer.racks.get r).state = _ := hst
        rw [this]
    refine ⟨_, (exec_watchTimerExpiry r c s).trans (moveWhen_of hdue), ?_⟩
    have htables : (expireRackWatch r c s).tables = s.tables :=
      tables_bystander.expireRackWatch (fun _ _ _ => rfl) r c s
    have hg := tables_uncommitted hgrid htables
    rw [hact] at hg ⊢
    obtain ⟨hf, hkind, hwelded, hopen⟩ := weldAtRest_welded r c
      (s.setRackSwitch r ((s.sequencer.racks.get r).fillWatch c s.contactorProof))
    have hkept := settle_fault hg hf
    rw [State.rackState, hkept, arbitrate_trips]
    exact ⟨hf, hkind, settle_container_taken (k := .welded) hwelded,
      fun k => settle_commandedOpen (hopen k)⟩
  · refine ⟨_, (exec_watchTimerExpiry r c s).trans (moveWhen_of hdue), ?_⟩
    have hg := tables_uncommitted hgrid
      (tables_bystander.expireRackWatch (fun _ _ _ => rfl) r c s)
    cases c with
    | precharge =>
      have hact : expireRackWatch r .precharge s = takeWelded r .precharge
          (s.setRackSwitch r ((s.sequencer.racks.get r).fillWatch .precharge s.contactorProof)) := by
        unfold expireRackWatch
        dsimp only
        rcases hst with hst | hst <;>
        · have : (s.sequencer.racks.get r).state = _ := hst
          rw [this]
      refine ⟨settle_commandedOpen ?_, fun h => by cases h⟩
      rw [hact]
      exact takeCause_conducts (kind := .welded) rfl _ _ (Rack.mem_all r)
    | main =>
      have hact : expireRackWatch r .main s = failClosed r
          (s.setRackSwitch r ((s.sequencer.racks.get r).fillWatch .main s.contactorProof)) := by
        unfold expireRackWatch
        dsimp only
        rcases hst with hst | hst <;>
        · have : (s.sequencer.racks.get r).state = _ := hst
          rw [this]
      rw [hact] at hg ⊢
      obtain ⟨hf, hkind, hbreaks⟩ := failClosed_self r
        (s.setRackSwitch r ((s.sequencer.racks.get r).fillWatch .main s.contactorProof))
      have hkept := settle_fault hg hf
      refine ⟨settle_commandedOpen (congrArg RackState.conducts hf), fun _ => ?_⟩
      rw [State.rackState, hkept]
      refine ⟨hf, hkind, hbreaks.trans ?_⟩
      rw [State.setRackSwitch_sequencer, PerRack.get_set_self]
      rfl
  · refine ⟨_, (exec_waitTimerExpiry r s).trans (moveWhen_of hdue), ?_⟩
    have hg := tables_uncommitted hgrid (tables_bystander.leaveQueue r .voltageMismatch .waitTimer s)
    have hopened : ((leaveQueue r .voltageMismatch .waitTimer s).sequencer.racks.get r).state =
        .opened := leaveQueue_rackState r .voltageMismatch .waitTimer s
    have hkept := settle_rack hg (r := r) (by rw [hopened]; decide)
      fun hc => by rw [hopened] at hc; cases hc
    refine ⟨?_, fun e he => ?_⟩
    · rw [rackState_eq_of_sequencer (arbitrate_sequencer _)]
      exact (congrArg RackSwitch.state hkept).trans hopened
    · rw [arbitrate_sequencer] at he
      have hsub := (settle_moves (may := fun l => l = .clear .welded) (.refl (expireWait r s))
        rfl).queue_sublist (by simp)
      exact leaveQueue_dequeues r _ _ s e (hsub.subset he)
  · refine ⟨_, (exec_prechargeTimeout r s).trans (moveWhen_of (hruns hst hk)),
      settle_commandedOpen (enterOpening_conducts _ _ _ _), fun hq => ?_⟩
    have hlive : ((settle (expirePrecharge r s)).rackState r).live = false :=
      settle_live (enterOpening_live r (s.sequencer.racks.get r).operation .prechargeTimeout
        (connectResult r .prechargeTimeout s))
    rw [rackState_eq_of_sequencer (arbitrate_sequencer _)] at hq
    rw [hq] at hlive
    cases hlive
  · refine ⟨_, (exec_closeProofExpiry r s).trans (moveWhen_of (hruns hst hk)), ?_⟩
    have hg := tables_uncommitted hgrid ((tables_bystander.connectResult r .failedToClose _).trans
      (tables_bystander.endInFault r .failedToClose .closeProof s))
    have hself := endInFault_self r .failedToClose .closeProof s
    rw [← connectResult_sequencer r .failedToClose] at hself
    obtain ⟨hf, hkind, -⟩ := hself
    have hkept := settle_fault hg hf
    refine ⟨?_, ?_, settle_commandedOpen (congrArg RackState.conducts hf)⟩
    · exact (congrArg RackSwitch.state hkept).trans hf
    · exact (congrArg RackSwitch.faultKind hkept).trans hkind
  · refine ⟨_, (exec_prechargeReleaseDelayEnd r s).trans (moveWhen_of (hruns hst hk)), ?_⟩
    have hself := becomeConnected_self r .releaseDelay s
    have htables : (endReleaseDelay r s).tables = s.tables :=
      (tables_bystander.freeSlot _ _).trans ((tables_bystander.connectResult _ _ _).trans
        (tables_bystander.changeRack _ _ _ _))
    have hkept := settle_rack (tables_uncommitted hgrid htables) (r := r)
      (by rw [endReleaseDelay, hself]; nofun) fun _ => by rw [endReleaseDelay, hself]; exact hp
    rw [rackState_eq_of_sequencer (arbitrate_sequencer _), arbitrate_sequencer, State.rackState, hkept,
      endReleaseDelay, hself]
    exact ⟨rfl, rfl⟩
  · exact ⟨_, (exec_drainTimerExpiry r s).trans (moveWhen_of (hruns hst hk)),
      settle_commandedOpen (enterOpening_conducts _ _ _ _)⟩
  · refine ⟨_, (exec_openProofExpiry r s).trans (moveWhen_of (hruns hst hk)), ?_⟩
    obtain ⟨hf, hkind, -⟩ := endInFault_self r .welded .openProof s
    have hcontactors : ((endInFault r .welded .openProof s).sequencer.racks.get r).closedContactors ≠
        [] := by
      refine closedContactors_ne_nil ?_
      rw [Bool.eq_false_iff, ne_eq, bothOpen_iff, not_not]
      unfold endInFault
      rw [endOperation_self]
      exact hc
    obtain ⟨c, n, hact⟩ := takeWeldedOf_eq hcontactors
    have hopen : expireOpenProof r s = takeCause .welded none (.welded r c)
        ((endInFault r .welded .openProof s).withChoices n) := hact
    have hg : ((expireOpenProof r s).table .grid).state ≠ .committed := by
      refine tables_uncommitted hgrid ?_
      rw [hopen]
      exact (tables_bystander.takeCause_free (fun _ _ _ => rfl) _ _ _).trans
        (tables_bystander.endInFault r .welded .openProof s)
    have hfault := takeCause_fault (kind := .welded) rfl none (.welded r c)
      (s := (endInFault r .welded .openProof s).withChoices n) hf
    rw [hopen] at hg ⊢
    have hkept := settle_fault hg (by rw [hfault]; exact hf)
    rw [State.rackState, hkept, hfault, arbitrate_trips]
    exact ⟨hf, hkind, settle_container_taken (k := .welded)
      (takeCause_container (kind := .welded) rfl _ _)⟩

end Sys2Proof.Machine

namespace Sys2Proof.Machine

variable {may : Liberty → Prop} {s t u : State}

/-! ## The feedback readings of the racks (R123) -/

/-- The two feedback readings of a rack. -/
def RackSwitch.feedback (x : RackSwitch) : Bool × Bool := (x.mainClosed, x.prechargeClosed)

/-- No rack's feedback readings change. -/
def SameFeedback (s t : State) : Prop :=
  ∀ k, (t.sequencer.racks.get k).feedback = (s.sequencer.racks.get k).feedback

theorem SameFeedback.trans (h : SameFeedback s t) (k : SameFeedback t u) : SameFeedback s u :=
  fun r => (k r).trans (h r)

theorem sameFeedback_of_racks (h : t.sequencer.racks = s.sequencer.racks) : SameFeedback s t :=
  fun _ => by rw [h]

theorem sameFeedback_set {r : Rack} {x : RackSwitch}
    (hx : x.feedback = (s.sequencer.racks.get r).feedback)
    (h : t.sequencer.racks = s.sequencer.racks.set r x) : SameFeedback s t := fun k => by
  rw [h, PerRack.get_set]
  split
  next hk => rw [hk]; exact hx
  next => rfl

theorem changeRack_feedback {r : Rack} {x : RackSwitch} {cause : RackCause}
    (hx : x.feedback = (s.sequencer.racks.get r).feedback) :
    SameFeedback s (changeRack r x cause s) :=
  sameFeedback_set (x := x.rewatch s.now) hx (changeRack_sequencer r x cause s).1

theorem passOpenProof_feedback (r : Rack) (cause : RackCause) (s : State) :
    SameFeedback s (passOpenProof r cause s) :=
  sameFeedback_set (by rfl) (endOperation_racks r _ cause s)

theorem enterOpening_feedback (r : Rack) (op : Operation) (cause : RackCause) (s : State) :
    SameFeedback s (enterOpening r op cause s) := by
  unfold enterOpening
  dsimp only
  split
  · exact (changeRack_feedback (by rfl)).trans (passOpenProof_feedback _ _ _)
  · exact changeRack_feedback (by rfl)

theorem enterDraining_feedback (r : Rack) (op : Operation) (ms : Nat) (cause : RackCause)
    (s : State) : SameFeedback s (enterDraining r op ms cause s) := by
  unfold enterDraining
  dsimp only
  split
  · exact (changeRack_feedback (by rfl)).trans (enterOpening_feedback _ _ _ _)
  · exact changeRack_feedback (by rfl)

theorem grantDisconnects_feedback (n : Nat) (s : State) :
    SameFeedback s (grantDisconnects n s) := by
  induction n generalizing s with
  | zero => exact sameFeedback_of_racks rfl
  | succ n ih =>
    unfold grantDisconnects
    split
    next k hk =>
      exact fun r => (ih _ r).trans (enterDraining_feedback k _ _ _
        (s.withSequencer { s.sequencer with slot := some k }) r)
    next => exact sameFeedback_of_racks rfl

theorem judgeContainerLatch_feedback (kind : TripKind) (s : State) :
    SameFeedback s (judgeContainerLatch kind s) := fun r => by
  rcases judgeContainerLatch_released kind s r with h | ⟨-, -, -, -, -, hm, hp⟩
  · rw [h]
  · exact Prod.ext hm hp

/-- Settling that swaps no GRID table changes no feedback reading. -/
theorem settle_feedback (h : (s.table .grid).state ≠ .committed) : SameFeedback s (settle s) := by
  have once (x : State) (hx : (x.table .grid).state ≠ .committed) :
      SameFeedback x (endHold (grantDisconnects 4 (judgeContainerLatch .welded x))) := by
    have htables := (tables_bystander.grantDisconnects 4 _).trans
      (tables_bystander.judgeContainerLatch (fun _ _ _ _ => rfl) .welded x)
    have hgrant := (judgeContainerLatch_feedback .welded x).trans (grantDisconnects_feedback 4 _)
    rw [endHold_unswapped (by rw [table_congr htables]; exact hx)]
    split
    · refine hgrant.trans (sameFeedback_of_racks ?_)
      rw [workOutContainer_sequencer]
      rfl
    · exact hgrant
  refine (once s h).trans (once _ ?_)
  rw [table_congr (tables_bystander.settleOnce (fun _ _ _ _ => rfl) h)]
  exact h

/-! ## CONTACTOR_FEEDBACK_CHANGE (R132, R136) -/

/-- A rack with a feedback reading taken. -/
def State.read (s : State) (r : Rack) (c : Contactor) (closed : Bool) : State :=
  s.setRackSwitch r (((s.sequencer.racks.get r).setFeedback c closed).rewatch s.now)

theorem read_self (r : Rack) (c : Contactor) (closed : Bool) (s : State) :
    (s.read r c closed).sequencer.racks.get r =
      ((s.sequencer.racks.get r).setFeedback c closed).rewatch s.now :=
  PerRack.get_set_self _ _ _

/-- A feedback that changes proves a JOINING rack's main contactor, ends an OPENING rack's proof, and is
otherwise only read. -/
theorem changeFeedback_cases (r : Rack) (c : Contactor) (closed : Bool) (s : State) :
    (s.rackState r = .joining ∧ ((s.read r c closed).sequencer.racks.get r).mainClosed = true ∧
        ((s.read r c closed).sequencer.racks.get r).times .closeProof = true ∧
        changeFeedback r c closed s = mainProven r (.feedback c) (s.read r c closed)) ∨
      (s.rackState r = .opening ∧ ((s.read r c closed).sequencer.racks.get r).bothOpen = true ∧
        changeFeedback r c closed s = passOpenProof r (.feedback c) (s.read r c closed)) ∨
      (changeFeedback r c closed s = s.read r c closed ∧
        ¬ (s.rackState r = .joining ∧
          ((s.read r c closed).sequencer.racks.get r).mainClosed = true ∧
          ((s.read r c closed).sequencer.racks.get r).times .closeProof = true) ∧
        ¬ (s.rackState r = .opening ∧
          ((s.read r c closed).sequencer.racks.get r).bothOpen = true)) := by
  rw [read_self]
  have hstate : (((s.sequencer.racks.get r).setFeedback c closed).rewatch s.now).state =
      s.rackState r := by
    cases c <;> rfl
  unfold changeFeedback
  dsimp only
  rw [hstate]
  cases hst : s.rackState r with
  | joining =>
    dsimp only
    split
    next h =>
      rw [Bool.and_eq_true] at h
      exact .inl ⟨rfl, h.1, h.2, rfl⟩
    next h =>
      rw [Bool.and_eq_true] at h
      exact .inr (.inr ⟨rfl, fun hh => h hh.2, fun hh => by cases hh.1⟩)
  | opening =>
    dsimp only
    split
    next h => exact .inr (.inl ⟨rfl, h, rfl⟩)
    next h => exact .inr (.inr ⟨rfl, (fun hh => by cases hh.1), fun hh => h hh.2⟩)
  | opened | queued | precharging | connected | draining | locked | fault =>
    exact .inr (.inr ⟨rfl, (fun hh => by cases hh.1), fun hh => by cases hh.1⟩)

theorem becomeConnected_feedback (r : Rack) (cause : RackCause) (s : State) :
    SameFeedback s (becomeConnected r cause s) := by
  refine sameFeedback_set (r := r) (x := { s.sequencer.racks.get r with
    state := .connected, operation := .none, timer := none }.rewatch s.now) (by rfl) ?_
  unfold becomeConnected
  dsimp only
  rw [freeSlot_racks, connectResult_sequencer, (changeRack_sequencer _ _ _ _).1]

theorem mainProven_feedback (r : Rack) (cause : RackCause) (s : State) :
    SameFeedback s (mainProven r cause s) := by
  unfold mainProven
  dsimp only
  split
  · exact sameFeedback_set (by rfl) rfl
  · exact becomeConnected_feedback _ _ _

/-- A proven main contactor starts the precharge-release delay after a precharge (R132). -/
theorem mainProven_delayed {r : Rack} (cause : RackCause)
    (hu : (s.sequencer.racks.get r).prechargeUsed = true) (hd : s.releaseDelay ≠ 0) :
    mainProven r cause s = s.setRackSwitch r { s.sequencer.racks.get r with
      timer := some ⟨.releaseDelay, s.now, s.releaseDelay⟩ } := by
  unfold mainProven
  exact if_pos (by simp [hu, hd])

theorem mainProven_connected {r : Rack} (cause : RackCause)
    (h : (s.sequencer.racks.get r).prechargeUsed = false) :
    mainProven r cause s = becomeConnected r cause s := by
  unfold mainProven
  dsimp only
  rw [if_neg (by simp [h]), if_neg (by simp [h])]

theorem mainProven_undelayed {r : Rack} (cause : RackCause)
    (hu : (s.sequencer.racks.get r).prechargeUsed = true) (hd : s.releaseDelay = 0) :
    mainProven r cause s = becomeConnected r .releaseDelay s := by
  unfold mainProven
  dsimp only
  rw [if_neg (by simp [hd]), if_pos hu]

theorem becomeConnected_tables (r : Rack) (cause : RackCause) (s : State) :
    (becomeConnected r cause s).tables = s.tables :=
  (tables_bystander.freeSlot _ _).trans ((tables_bystander.connectResult _ _ _).trans
    (tables_bystander.changeRack _ _ _ _))

theorem mainProven_tables (r : Rack) (cause : RackCause) (s : State) :
    (mainProven r cause s).tables = s.tables := by
  unfold mainProven
  dsimp only
  split
  · rfl
  · exact becomeConnected_tables _ _ _

theorem changeFeedback_kept (r : Rack) (c : Contactor) (closed : Bool) (s : State) :
    (changeFeedback r c closed s).tables = s.tables ∧
      SameFeedback (s.read r c closed) (changeFeedback r c closed s) := by
  rcases changeFeedback_cases r c closed s with ⟨-, -, -, h⟩ | ⟨-, -, h⟩ | ⟨h, -⟩ <;> rw [h]
  · exact ⟨mainProven_tables _ _ _, mainProven_feedback _ _ _⟩
  · exact ⟨tables_bystander.endOperation _ _ _ _, passOpenProof_feedback _ _ _⟩
  · exact ⟨rfl, sameFeedback_of_racks rfl⟩

/-- A rack that becomes CONNECTED with no disconnect pending ends the command in it. -/
theorem settle_connected (h : (s.table .grid).state ≠ .committed) {r : Rack} {cause : RackCause}
    (hp : (s.sequencer.racks.get r).disconnectPending = false) :
    (arbitrate (settle (becomeConnected r cause s))).sequencer.racks.get r =
      { s.sequencer.racks.get r with
        state := .connected, operation := .none, timer := none }.rewatch s.now := by
  have hself := becomeConnected_self r cause s
  rw [arbitrate_sequencer, settle_rack (tables_uncommitted h (becomeConnected_tables r cause s))
    (by rw [hself]; nofun) fun _ => by rw [hself]; exact hp, hself]

theorem exec_contactorFeedbackChange (r : Rack) (c : Contactor) (closed : Bool) (s : State) :
    exec (.contactorFeedbackChange r c closed) s =
      .next (arbitrate (settle (changeFeedback r c closed s))) := rfl

theorem exec_prechargeAttemptExpiry (r : Rack) (s : State) :
    exec (.prechargeAttemptExpiry r) s = actWhen (s.attemptIsDue r) (dropAttempts r) s := rfl

theorem rests_iff (x : RackState) :
    x.rests = true ↔ x = .opened ∨ x = .locked ∨ x = .fault := by
  cases x <;> simp [RackState.rests]

/-- An open proof that passes ends the rack's operation, and the command leaves it at rest (R136). -/
theorem settle_proofPassed (h : (s.table .grid).state ≠ .committed) (r : Rack)
    (cause : RackCause) :
    let x := (arbitrate (settle (passOpenProof r cause s))).sequencer.racks.get r
    (x.state = .opened ∨ x.state = .locked ∨ x.state = .fault) ∧ x.operation = .none := by
  intro x
  have hself : ((passOpenProof r cause s).sequencer.racks.get r).state =
        s.proofState r (s.sequencer.racks.get r) ∧
      ((passOpenProof r cause s).sequencer.racks.get r).operation = .none := by
    unfold passOpenProof
    rw [endOperation_self]
    exact ⟨rfl, rfl⟩
  have hrests := proofState_rests s r (s.sequencer.racks.get r)
  rw [← hself.1, rests_iff] at hrests
  have htables : (passOpenProof r cause s).tables = s.tables :=
    tables_bystander.endOperation _ _ _ _
  have hreleased := settle_released (tables_uncommitted h htables) (r := r) fun hc => by
    rw [hc] at hrests
    rcases hrests with hr | hr | hr <;> cases hr
  have hx : x = (settle (passOpenProof r cause s)).sequencer.racks.get r := by
    simp only [x, arbitrate_sequencer]
  rcases hreleased with he | ⟨-, ho, -, -, hop, -, -⟩
  · rw [hx, he]
    exact ⟨hrests, hself.2⟩
  · rw [hx]
    exact ⟨.inl ho, hop.trans hself.2⟩

/-- Settles O51. -/
theorem feedbackAndAttempts : Obligations.FeedbackAndAttempts := by
  unfold Obligations.FeedbackAndAttempts
  refine ⟨fun s r c closed hgrid => ?_, fun s r ⟨a, ha, hdue⟩ => ?_⟩
  · intro x
    obtain ⟨htables, hfeedback⟩ := changeFeedback_kept r c closed s
    have hg := tables_uncommitted hgrid htables
    have hread : ((s.read r c closed).sequencer.racks.get r).feedback =
        (if c = .main then closed else x.mainClosed,
          if c = .main then x.prechargeClosed else closed) := by
      rw [read_self]
      cases c <;> rfl
    have hfinal := (((settle_feedback hg) r).trans (hfeedback r)).trans hread
    have hmain : c = .main → closed = true →
        ((s.read r c closed).sequencer.racks.get r).mainClosed = true := fun hc hcl =>
      (congrArg Prod.fst hread).trans (by rw [if_pos hc, hcl])
    have htimes : (∃ m, x.timer = some m ∧ m.kind = .closeProof) →
        ((s.read r c closed).sequencer.racks.get r).times .closeProof = true :=
      fun ⟨m, hm, hk⟩ => by
        rw [read_self]
        have htimer : (((s.sequencer.racks.get r).setFeedback c closed).rewatch s.now).timer =
            some m := by
          cases c <;> exact hm
        rw [RackSwitch.times, htimer]
        exact decide_eq_true hk
    have hproven : c = .main → closed = true → x.state = .joining →
        (∃ m, x.timer = some m ∧ m.kind = .closeProof) →
        changeFeedback r c closed s = mainProven r (.feedback c) (s.read r c closed) :=
      fun hc hcl hst ht => by
        rcases changeFeedback_cases r c closed s with ⟨-, -, -, h⟩ | ⟨h, -⟩ | ⟨-, h, -⟩
        · exact h
        · rw [show s.rackState r = .joining from hst] at h
          cases h
        · exact absurd ⟨hst, hmain hc hcl, htimes ht⟩ h
    have hsame : ((s.read r c closed).sequencer.racks.get r).disconnectPending =
          x.disconnectPending ∧
        ((s.read r c closed).sequencer.racks.get r).prechargeUsed = x.prechargeUsed ∧
        ((s.read r c closed).sequencer.racks.get r).state = x.state := by
      rw [read_self]
      cases c <;> exact ⟨rfl, rfl, rfl⟩
    obtain ⟨hpending, hused, hstate⟩ := hsame
    refine ⟨_, exec_contactorFeedbackChange r c closed s, ?_, ?_, fun hc hcl hst hu hp ht => ?_,
      fun g hg' hc hcl hst hu ht => ⟨fun hd => ?_, fun hd hp => ?_⟩, fun hst hm hpc => ?_⟩
    · rw [arbitrate_sequencer]
      exact congrArg Prod.fst hfinal
    · rw [arbitrate_sequencer]
      exact congrArg Prod.snd hfinal
    · have hact : changeFeedback r c closed s =
          becomeConnected r (.feedback c) (s.read r c closed) := by
        rw [hproven hc hcl hst ht, mainProven_connected _ (hused.trans hu)]
      rw [hact, State.rackState, settle_connected (s := s.read r c closed) hgrid
        (hpending.trans hp)]
      rfl
    · have hdelay : (s.read r c closed).releaseDelay = g.releaseDelay := by
        have : (s.read r c closed).grid = some g := hg'
        rw [State.releaseDelay, this]
      have hact : changeFeedback r c closed s = (s.read r c closed).setRackSwitch r
          { (s.read r c closed).sequencer.racks.get r with
            timer := some ⟨.releaseDelay, s.now, g.releaseDelay⟩ } := by
        rw [hproven hc hcl hst ht, mainProven_delayed _ (hused.trans hu) (by omega), hdelay]
        rfl
      have hself : (changeFeedback r c closed s).sequencer.racks.get r =
          { (s.read r c closed).sequencer.racks.get r with
            timer := some ⟨.releaseDelay, s.now, g.releaseDelay⟩ } := by
        rw [hact]
        exact PerRack.get_set_self _ _ _
      have hjoining : ((changeFeedback r c closed s).sequencer.racks.get r).state = .joining := by
        rw [hself]
        exact hstate.trans hst
      have hkept := settle_rack hg (by rw [hjoining]; decide)
        fun hh => by rw [hjoining] at hh; cases hh
      rw [State.rackState, arbitrate_sequencer, hkept]
      refine ⟨hjoining, by rw [hself], ?_⟩
      rw [RackSwitch.prechargeCommand, hjoining, hself]
      exact hused.trans hu
    · have hdelay : (s.read r c closed).releaseDelay = 0 := by
        have : (s.read r c closed).grid = some g := hg'
        rw [State.releaseDelay, this]
        exact hd
      have hact : changeFeedback r c closed s =
          becomeConnected r .releaseDelay (s.read r c closed) := by
        rw [hproven hc hcl hst ht, mainProven_undelayed _ (hused.trans hu) hdelay]
      rw [hact, State.rackState, settle_connected (s := s.read r c closed) hgrid
        (hpending.trans hp)]
      exact ⟨rfl, rfl⟩
    · have hopen : ((s.read r c closed).sequencer.racks.get r).bothOpen = true := by
        rw [arbitrate_sequencer] at hm hpc
        have hmain' := (congrArg Prod.fst (((settle_feedback hg) r).trans (hfeedback r))).symm.trans hm
        have hpre' := (congrArg Prod.snd (((settle_feedback hg) r).trans (hfeedback r))).symm.trans hpc
        simp only [RackSwitch.feedback] at hmain' hpre'
        rw [RackSwitch.bothOpen, hmain', hpre']
        rfl
      have hact : changeFeedback r c closed s =
          passOpenProof r (.feedback c) (s.read r c closed) := by
        rcases changeFeedback_cases r c closed s with ⟨h, -⟩ | ⟨-, -, h⟩ | ⟨-, -, h⟩
        · rw [show s.rackState r = .opening from hst] at h
          cases h
        · exact h
        · exact absurd ⟨hst, hopen⟩ h
      rw [hact]
      exact settle_proofPassed (s := s.read r c closed) hgrid r (.feedback c)
  · have hnow : s.attemptIsDue r = true := by
      rw [State.attemptIsDue, List.any_eq_true]
      exact ⟨a, ha, (reached_iff _ _ _).2 hdue⟩
    rw [exec_prechargeAttemptExpiry, actWhen_of hnow]
    have hfilter : (fun t => !reached s.now t 600000) =
        fun a => decide ((s.now - a).toNat < 600000) := by
      funext a
      rw [Bool.eq_iff_iff, Bool.not_eq_true', ← Bool.not_eq_true, reached_iff, decide_eq_true_eq]
      omega
    rw [dropAttempts, hfilter]
    rfl

end Sys2Proof.Machine

namespace Sys2Proof.Machine

variable {s t : State}

/-! ## Settling awaits the nodes it awaited (R148, R154) -/

theorem awaits_bystander : Bystander (·.trips.awaits) where
  limits _ _ := rfl
  sequencer _ _ := rfl
  trips _ _ _ _ h := h
  choices _ _ := rfl
  converter _ _ _ := rfl
  post e s := congrArg Trips.awaits
    (sameBut_trips (s := s) (A := [.site]) (by simp [sameBut_refl]) (by simp))
  summary _ := rfl

theorem awaits_of_racks (s : State) (x : Trips) (h : x.racks = s.trips.racks) :
    (s.withTrips x).trips.awaits = s.trips.awaits := by
  show x.awaits = s.trips.awaits
  unfold Trips.awaits
  rw [h]

theorem awaits_of_sameBut {A : List Block} (h : s.sameBut t A) (hA : Block.trips ∉ A) :
    t.trips.awaits = s.trips.awaits := congrArg Trips.awaits (sameBut_trips h hA)

theorem converterAtGridSwap_awaits (first : Bool) (s : State) :
    (converterAtGridSwap first s).trips.awaits = s.trips.awaits := by
  have hperiod : (periodDue s).trips.awaits = s.trips.awaits :=
    awaits_of_sameBut (A := [.converter]) (by simp [sameBut_refl]) (by simp)
  unfold converterAtGridSwap
  dsimp only
  split
  · exact hperiod
  · have hsilence : (silenceDue (periodDue s)).trips.awaits = s.trips.awaits :=
      (awaits_of_sameBut (A := [.limits, .converter, .site, .choices]) (by simp [sameBut_refl])
        (by simp)).trans hperiod
    unfold silentTripDue
    split
    · exact (awaits_bystander.takeCause_free awaits_of_racks .converterSilent .converterSilent
        _).trans hsilence
    · exact hsilence

theorem siteAtGridSwap_awaits (first : Bool) (s : State) :
    (siteAtGridSwap first s).trips.awaits = s.trips.awaits := by
  unfold siteAtGridSwap siteSilenceDue expireSiteSilence cancelQueue
  split
  · rfl
  · split
    · exact (forRacks_leaves (f := (·.trips.awaits))
        (fun r x => awaits_bystander.leaveQueue r _ _ x) _ _).trans (awaits_bystander.post _ _)
    · rfl

theorem swapGrid_awaits (s : State) : (swapGrid s).trips.awaits = s.trips.awaits := by
  unfold swapGrid
  dsimp only
  rw [awaits_of_sameBut (s := gridSwapped (!s.isActive .grid) (postSwapped .grid (swapBank .grid s)))
    (A := [.ring, .balance, .cooling, .tables, .site, .choices]) (by simp [sameBut_refl])
    (by simp)]
  refine (awaits_bystander.inAnyOrder (fun act ha x => ?_) _).trans (awaits_bystander.post _ _)
  simp only [List.mem_cons, List.not_mem_nil, or_false] at ha
  rcases ha with rfl | rfl | rfl | rfl
  · exact awaits_bystander.switchAtGridSwap awaits_of_racks x
  · exact awaits_bystander.workOutContainer x
  · exact converterAtGridSwap_awaits _ x
  · exact siteAtGridSwap_awaits _ x

theorem endHold_awaits (s : State) : (endHold s).trips.awaits = s.trips.awaits := by
  have hwork : (workOutContainer (s.withSequencer
      { s.sequencer with hold := false })).trips.awaits = s.trips.awaits :=
    awaits_bystander.workOutContainer _
  unfold endHold
  dsimp only
  split
  · split
    · exact (swapGrid_awaits _).trans hwork
    · exact hwork
  · rfl

theorem settle_awaits (s : State) : (settle s).trips.awaits = s.trips.awaits := by
  have hgrant (x : State) :
      (grantDisconnects 4 (judgeContainerLatch .welded x)).trips.awaits = x.trips.awaits :=
    (awaits_bystander.grantDisconnects _ _).trans
      (awaits_bystander.judgeContainerLatch (fun s x _ h => awaits_of_racks s x h) _ _)
  rw [settle, endHold_awaits, hgrant, endHold_awaits, hgrant]

end Sys2Proof.Machine

namespace Sys2Proof.Machine

variable {s t : State}

/-! ## Event replies (R18 to R21) -/

/-- The state once an accepted event reply has used up its expectation and its node has joined the
event poll list (R12, R18). -/
def State.listed (s : State) (d : RingEnd) (f : EventFrame) : State :=
  s.withRing { s.ring.setEnd d { s.ring.endOf d with expectation := none } with
    pollList := if f.eventPending ∧ f.node ∉ s.ring.pollList then s.ring.pollList ++ [f.node]
      else s.ring.pollList }

theorem listed_eq (d : RingEnd) (f : EventFrame) (s : State) :
    (if f.eventPending then pollLater f.node (setExpectation d none s)
      else setExpectation d none s) = s.listed d f := by
  have hlist (x : EndState) : (s.ring.setEnd d x).pollList = s.ring.pollList := setEnd_pollList _ _ _
  unfold State.listed
  by_cases hp : f.eventPending = true
  · rw [if_pos hp, pollLater_eq]
    unfold setExpectation
    rw [State.withRing_ring, hlist]
    by_cases hm : f.node ∈ s.ring.pollList
    · simp only [hm, hp, not_true, and_false, if_true, if_false]; rfl
    · simp only [hm, hp, not_false_eq_true, and_self, if_true, if_false]; rfl
  · rw [if_neg hp]
    simp only [hp]
    unfold setExpectation
    cases d <;> rfl

theorem entryOf_node {node : Nat} {e : SlotEntry} (h : s.entryOf node = some e) : e.node = node := by
  simpa using List.find?_some h

theorem receiveEvent_accepted {d : RingEnd} {f : EventFrame} {e : SlotEntry}
    (herr : s.eventError d f = none) (he : s.entryOf f.node = some e) :
    receiveEvent d f s = handleEvent e f.kind f.channel (s.listed d f) := by
  simp only [receiveEvent, herr, he]
  rw [listed_eq]

theorem handleEvent_nothing (e : SlotEntry) (channel : Nat) (s : State) :
    handleEvent e .nothing channel s = s := if_pos rfl

theorem handleEvent_refused {e : SlotEntry} {kind : NodeEventCode} {channel : Nat}
    (hk : kind ≠ .nothing) (hu : eventUsable e kind channel = false) (s : State) :
    handleEvent e kind channel s =
      post (.nodeEvent false e.node none kind (some channel) s.now s.ring.cycle) s := by
  unfold handleEvent
  rw [if_neg hk, if_neg (by simp [hu])]

/-- The event a usable reply is posted with. -/
def usableEvent (e : SlotEntry) (kind : NodeEventCode) (channel : Nat) (s : State) : Event :=
  .nodeEvent true e.node e.rackOf kind (if eventNamesChannel kind then some channel else none) s.now
    s.ring.cycle

theorem handleEvent_usable {e : SlotEntry} {kind : NodeEventCode} {channel : Nat}
    (hu : eventUsable e kind channel = true) (s : State) :
    handleEvent e kind channel s = inAnyOrder
      (post (usableEvent e kind channel s) :: eventActions e kind channel s.now) s := by
  have hk : kind ≠ .nothing := by rintro rfl; cases hu
  unfold handleEvent
  rw [if_neg hk, if_pos hu]
  rfl

/-! ### What the blocks do at a node event -/

/-- What a ring end expects, and the event poll list. -/
def State.listening (s : State) : EndState × EndState × List Nat :=
  (s.ring.endA, s.ring.endB, s.ring.pollList)

theorem listening_sameBut {A : List Block} (h : s.sameBut t A) (hA : Block.ring ∉ A) :
    t.listening = s.listening := by
  unfold State.listening
  rw [sameBut_ring h hA]

theorem listening_endOf (h : t.listening = s.listening) (d : RingEnd) :
    t.ring.endOf d = s.ring.endOf d := by
  simp only [State.listening, Prod.mk.injEq] at h
  obtain ⟨ha, hb, -⟩ := h
  cases d
  · exact ha
  · exact hb

theorem handMask_listening (node : Nat) (s : State) : (handMask node s).listening = s.listening := rfl

theorem resumeRecords_listening (node : Nat) (s : State) :
    (resumeRecords node s).listening = s.listening := by
  unfold resumeRecords
  split <;> rfl

theorem balanceRestart_listening (node : Nat) (s : State) :
    (balanceRestart node s).listening = s.listening := by
  unfold balanceRestart
  rw [handMask_listening, resumeRecords_listening]
  rfl

/-- What a node event does in the blocks leaves the ends and the poll list. -/
theorem eventActions_listening {e : SlotEntry} {kind : NodeEventCode} {channel : Nat}
    {stamp : PartTime} {act : State → State} (ha : act ∈ eventActions e kind channel stamp)
    (x : State) : (act x).listening = x.listening := by
  have htake (k : TripKind) (data : CauseData) :
      (takeCause k e.rackOf data x).listening = x.listening :=
    listening_sameBut (A := [.limits, .sequencer, .trips, .converter, .site, .choices])
      (by simp [sameBut_refl]) (by simp)
  cases kind with
  | nothing => cases ha
  | other _ => cases ha
  | nodeFault =>
    obtain rfl := List.mem_singleton.1 ha
    exact listening_sameBut (A := [.samples]) (by simp [sameBut_refl]) (by simp)
  | senseOpen =>
    obtain rfl := List.mem_singleton.1 ha
    exact listening_sameBut (A := [.samples]) (by simp [sameBut_refl]) (by simp)
  | bleedHot =>
    obtain rfl := List.mem_singleton.1 ha
    rfl
  | cellHwOv =>
    obtain rfl := List.mem_singleton.1 ha
    exact htake _ _
  | cellHwUv =>
    obtain rfl := List.mem_singleton.1 ha
    exact htake _ _
  | nodeRestart =>
    simp only [eventActions, List.mem_cons, List.not_mem_nil, or_false] at ha
    rcases ha with rfl | rfl | rfl | rfl
    · rfl
    · dsimp only
      split
      · exact balanceRestart_listening _ _
      · rfl
    · exact listening_sameBut (A := [.samples]) (by simp [sameBut_refl]) (by simp)
    · exact listening_sameBut (A := [.limits, .sequencer, .trips, .converter, .site, .choices])
        (by simp [sameBut_refl]) (by simp)

theorem handleEvent_listening {e : SlotEntry} {kind : NodeEventCode} {channel : Nat}
    (hu : eventUsable e kind channel = true) (s : State) :
    (handleEvent e kind channel s).listening = s.listening := by
  rw [handleEvent_usable hu]
  refine inAnyOrder_keeps (P := fun x => x.listening = s.listening) (fun _ _ h => h)
    (fun act ha x hx => ?_) rfl
  rcases List.mem_cons.1 ha with rfl | ha
  · exact (listening_sameBut (A := [.site]) (by simp [sameBut_refl]) (by simp)).trans hx
  · exact (eventActions_listening ha x).trans hx

/-! ### NODE_FAULT and NODE_RESTART (R31, R80) -/

theorem nodeFault_samples (e : SlotEntry) (channel : Nat) (s : State) :
    (handleEvent e .nodeFault channel s).samples = (nodeFaulted e.node s).samples := by
  rw [handleEvent_usable rfl]
  refine inAnyOrder_once (P := fun x => x.samples = (nodeFaulted e.node s).samples)
    (Q := fun x => x.samples = s.samples) (fun _ _ h => h) (fun _ _ h => h)
    (a := nodeFaulted e.node) (others := [post (usableEvent e .nodeFault channel s)])
    (List.Perm.swap _ _ _) (fun act ha x hx => ?_) (fun act ha x hx => ?_) (fun x hx => ?_) rfl
  · obtain rfl := List.mem_singleton.1 ha
    exact (sameBut_samples (A := [.site]) (by simp [sameBut_refl]) (by simp)).trans hx
  · obtain rfl := List.mem_singleton.1 ha
    exact (sameBut_samples (A := [.site]) (by simp [sameBut_refl]) (by simp)).trans hx
  · show ({ x.samples with nodes := _ } : Samples) = _
    rw [hx]
    rfl

theorem nodeFault_outside (e : SlotEntry) (channel : Nat) (s : State) :
    s.sameBut (handleEvent e .nodeFault channel s) [.site, .samples, .choices] := by
  rw [handleEvent_usable rfl]
  refine inAnyOrder_keeps (P := fun x => s.sameBut x [.site, .samples, .choices])
    (fun x n h => by simpa using h) (fun act ha x hx => ?_) (sameBut_refl _ _)
  simp only [eventActions, List.mem_cons, List.not_mem_nil, or_false] at ha
  rcases ha with rfl | rfl <;> simpa using hx

theorem nodeFault_postCounter (e : SlotEntry) (channel : Nat) (s : State) :
    (handleEvent e .nodeFault channel s).site.postCounter = s.site.postCounter + 1 := by
  rw [handleEvent_usable rfl]
  refine inAnyOrder_once (P := fun x => x.site.postCounter = s.site.postCounter + 1)
    (Q := fun x => x.site.postCounter = s.site.postCounter) (fun _ _ h => h) (fun _ _ h => h)
    (a := post (usableEvent e .nodeFault channel s)) (others := [nodeFaulted e.node])
    (List.Perm.refl _) (fun act ha x hx => ?_) (fun act ha x hx => ?_) (fun x hx => ?_) rfl
  · obtain rfl := List.mem_singleton.1 ha
    exact hx
  · obtain rfl := List.mem_singleton.1 ha
    exact hx
  · rw [(post_spec _ x).1, hx]

theorem nodeRestart_samples (e : SlotEntry) (channel : Nat) (s : State) :
    (handleEvent e .nodeRestart channel s).samples = (sampleRestart e.node s).samples := by
  have hothers : ∀ act ∈ [post (usableEvent e .nodeRestart channel s),
      mapRingNode e.node ({ · with confirmed := false }),
      fun s => if e.nodeKind = .cell then balanceRestart e.node s else s, restartHeard e.node],
      ∀ x, (act x).samples = x.samples := fun act ha x => by
    simp only [List.mem_cons, List.not_mem_nil, or_false] at ha
    rcases ha with rfl | rfl | rfl | rfl
    · exact sameBut_samples (A := [.site]) (by simp [sameBut_refl]) (by simp)
    · rfl
    · dsimp only
      split
      · exact sameBut_samples (A := [.ring, .balance]) (by simp [sameBut_refl]) (by simp)
      · rfl
    · exact sameBut_samples (A := [.limits, .sequencer, .trips, .converter, .site, .choices])
        (by simp [sameBut_refl]) (by simp)
  rw [handleEvent_usable rfl]
  refine inAnyOrder_once (P := fun x => x.samples = (sampleRestart e.node s).samples)
    (Q := fun x => x.samples = s.samples) (fun _ _ h => h) (fun _ _ h => h)
    (a := sampleRestart e.node) (List.perm_middle (l₁ := [_, _, _]) (l₂ := [_]))
    (fun act ha x hx => (hothers act ha x).trans hx)
    (fun act ha x hx => (hothers act ha x).trans hx) (fun x hx => ?_) rfl
  show ({ x.samples with nodes := _ } : Samples) = _
  rw [hx]
  rfl

/-- Every ring node of the number has its mask unconfirmed (R11). -/
def State.Unconfirmed (s : State) (node : Nat) : Prop :=
  ∀ n ∈ s.ring.nodes, n.node = node → n.confirmed = false

theorem unconfirmed_mapRingNode {node k : Nat} {g : RingNode → RingNode}
    (hnode : ∀ n, (g n).node = n.node) (hg : ∀ n, n.confirmed = false → (g n).confirmed = false)
    (h : s.Unconfirmed k) : (mapRingNode node g s).Unconfirmed k := by
  intro n hn hk
  obtain ⟨m, hm, rfl⟩ := List.mem_map.1 hn
  by_cases hmn : m.node = node
  · rw [if_pos hmn] at hk ⊢
    exact hg m (h m hm ((hnode m).symm.trans hk))
  · rw [if_neg hmn] at hk ⊢
    exact h m hm hk

theorem unconfirmed_restart (node : Nat) (s : State) :
    (mapRingNode node ({ · with confirmed := false }) s).Unconfirmed node := by
  intro n hn hk
  obtain ⟨m, -, rfl⟩ := List.mem_map.1 hn
  by_cases hmn : m.node = node
  · rw [if_pos hmn]
  · rw [if_neg hmn] at hk
    exact absurd hk hmn

theorem unconfirmed_handMask {k : Nat} (node : Nat) (h : s.Unconfirmed k) :
    (handMask node s).Unconfirmed k :=
  unconfirmed_mapRingNode (s := mapRecords _ s) (fun _ => rfl)
    (fun n hn => by simp [RingNode.command, hn]) h

theorem balanceRestart_eq (node : Nat) (s : State) : balanceRestart node s =
    handMask node (clearEcho node (mapRecords
      (fun b => if b.node = node && b.state = .active then b.move .idle else b) s)) := rfl

theorem clearEcho_ring (node : Nat) (s : State) : (clearEcho node s).ring = s.ring := by
  unfold clearEcho resumeRecords
  split <;> rfl

theorem unconfirmed_balanceRestart {k : Nat} (node : Nat) (h : s.Unconfirmed k) :
    (balanceRestart node s).Unconfirmed k := by
  rw [balanceRestart_eq]
  refine unconfirmed_handMask node ?_
  unfold State.Unconfirmed
  rw [clearEcho_ring]
  exact h

theorem echoClear_balanceRestart (node : Nat) (s : State) :
    (balanceRestart node s).EchoClear node := by
  rw [balanceRestart_eq]
  exact clearEcho_clears node _

theorem nodeRestart_unconfirmed (e : SlotEntry) (channel : Nat) (s : State) :
    (handleEvent e .nodeRestart channel s).Unconfirmed e.node := by
  rw [handleEvent_usable rfl]
  refine inAnyOrder_reaches (P := fun x => x.Unconfirmed e.node) (Q := fun _ => True)
    (fun _ _ h => h) (fun _ _ h => h) (a := mapRingNode e.node ({ · with confirmed := false }))
    (by simp [eventActions]) (fun _ _ _ h => h) (fun act ha x hx => ?_)
    (fun x _ => unconfirmed_restart e.node x) trivial
  simp only [eventActions, List.mem_cons, List.not_mem_nil, or_false] at ha
  rcases ha with rfl | rfl | rfl | rfl | rfl
  · unfold State.Unconfirmed
    rw [sameBut_ring (s := x) (A := [.site]) (by simp [sameBut_refl]) (by simp)]
    exact hx
  · exact unconfirmed_restart e.node x
  · dsimp only
    split
    · exact unconfirmed_balanceRestart e.node hx
    · exact hx
  · exact hx
  · unfold State.Unconfirmed
    rw [sameBut_ring (s := x) (A := [.limits, .sequencer, .trips, .converter, .site, .choices])
      (by simp [sameBut_refl]) (by simp)]
    exact hx

theorem nodeRestart_echoClear {e : SlotEntry} (hcell : e.nodeKind = .cell) (channel : Nat)
    (s : State) : (handleEvent e .nodeRestart channel s).EchoClear e.node := by
  rw [handleEvent_usable rfl]
  refine inAnyOrder_reaches (P := fun x => x.EchoClear e.node) (Q := fun _ => True)
    (fun _ _ h => h) (fun _ _ h => h)
    (a := fun s => if e.nodeKind = .cell then balanceRestart e.node s else s)
    (by simp [eventActions]) (fun _ _ _ h => h) (fun act ha x hx => ?_)
    (fun x _ => by rw [if_pos hcell]; exact echoClear_balanceRestart e.node x) trivial
  simp only [eventActions, List.mem_cons, List.not_mem_nil, or_false] at ha
  rcases ha with rfl | rfl | rfl | rfl | rfl
  · unfold State.EchoClear
    rw [sameBut_balance (s := x) (A := [.site]) (by simp [sameBut_refl]) (by simp)]
    exact hx
  · exact hx
  · dsimp only
    rw [if_pos hcell]
    exact echoClear_balanceRestart e.node x
  · exact hx
  · unfold State.EchoClear
    rw [sameBut_balance (s := x) (A := [.limits, .sequencer, .trips, .converter, .site, .choices])
      (by simp [sameBut_refl]) (by simp)]
    exact hx

end Sys2Proof.Machine

namespace Sys2Proof.Machine

variable {s t : State}

/-! ### SENSE_OPEN (R31) -/

theorem refreshBlindOf_nodes (o : Option Rack) (s : State) :
    (refreshBlindOf o s).samples.nodes = s.samples.nodes := by
  cases o with
  | none => rfl
  | some r =>
    simp only [refreshBlindOf, refreshBlind]
    split <;> rfl

theorem invalidate_nodes (r : Record) (s : State) :
    (invalidate r s).samples.nodes = s.samples.nodes := refreshBlindOf_nodes _ _

theorem senseOpen_samples (h : t.samples = s.samples) (node channel : Nat) :
    t.senseOpen node channel = s.senseOpen node channel := by
  unfold State.senseOpen State.sampleNode
  rw [h]

theorem senseOpened_stands {e : SlotEntry} {channel : Nat}
    (h : s.senseOpen e.node channel = true) : senseOpened e channel s = s := if_pos h

/-- The nodes with the sense-open mark of a channel of one of them set. -/
def markOpen (node channel : Nat) (ns : List SampleNode) : List SampleNode :=
  ns.map fun n =>
    if n.node = node then { n with senseOpen := n.senseOpen ||| (1#20 <<< channel) } else n

theorem senseOpened_sets {e : SlotEntry} {channel : Nat}
    (h : s.senseOpen e.node channel = false) :
    (senseOpened e channel s).samples.nodes = markOpen e.node channel s.samples.nodes ∧
      (senseOpened e channel s).record e.node channel =
        (s.record e.node channel).map fun r => { r with quality := .invalid } := by
  unfold senseOpened
  rw [if_neg (by simp [h])]
  dsimp only
  have hsame (x : State) (hx : x.samples.records = s.samples.records) :
      x.record e.node channel = s.record e.node channel := by
    unfold State.record
    rw [hx]
  have hmark := hsame (mapSampleNode e.node
    (fun n => { n with senseOpen := n.senseOpen ||| (1#20 <<< channel) }) s) rfl
  cases hr : s.record e.node channel with
  | none =>
    rw [hmark, hr]
    exact ⟨rfl, hmark.trans hr⟩
  | some r =>
    rw [hmark, hr]
    exact ⟨invalidate_nodes r _, record_invalidate (hmark.trans hr)⟩

theorem markOpen_marks {node channel : Nat} {ns : List SampleNode} {n : SampleNode}
    (h : n ∈ markOpen node channel ns) (hn : n.node = node) (hc : channel < 20) :
    n.senseOpen.getLsbD channel = true := by
  obtain ⟨m, -, rfl⟩ := List.mem_map.1 h
  by_cases hm : m.node = node
  · rw [if_pos hm]
    simp [hc]
  · rw [if_neg hm] at hn
    exact absurd hn hm

/-- What becomes of the samples at a SENSE_OPEN is what the sample processor does. -/
theorem senseOpen_once {e : SlotEntry} {channel : Nat} {P : State → Prop}
    (hu : eventUsable e .senseOpen channel = true)
    (hP : ∀ x y, y.samples = x.samples → P x → P y)
    (h : ∀ x, x.samples = s.samples → P (senseOpened e channel x)) :
    P (handleEvent e .senseOpen channel s) := by
  have hpost (x : State) : (post (usableEvent e .senseOpen channel s) x).samples = x.samples :=
    sameBut_samples (A := [.site]) (by simp [sameBut_refl]) (by simp)
  rw [handleEvent_usable hu]
  refine inAnyOrder_once (P := P) (Q := fun x => x.samples = s.samples)
    (fun x n hx => hP x _ rfl hx) (fun _ _ h => h)
    (a := senseOpened e channel) (others := [post (usableEvent e .senseOpen channel s)])
    (List.Perm.swap _ _ _) (fun act ha x hx => ?_) (fun act ha x hx => ?_) h rfl
  · obtain rfl := List.mem_singleton.1 ha
    exact (hpost x).trans hx
  · obtain rfl := List.mem_singleton.1 ha
    exact hP x _ (hpost x) hx

theorem senseOpen_stands {e : SlotEntry} {channel : Nat}
    (hu : eventUsable e .senseOpen channel = true) (h : s.senseOpen e.node channel = true) :
    (handleEvent e .senseOpen channel s).samples = s.samples := by
  refine senseOpen_once (P := fun x => x.samples = s.samples) hu (fun x y hy hx => hy.trans hx)
    fun x hx => ?_
  rw [senseOpened_stands ((senseOpen_samples hx _ _).trans h)]
  exact hx

theorem senseOpen_sets {e : SlotEntry} {channel : Nat}
    (hu : eventUsable e .senseOpen channel = true) (h : s.senseOpen e.node channel = false) :
    (handleEvent e .senseOpen channel s).samples.nodes = markOpen e.node channel s.samples.nodes ∧
      (handleEvent e .senseOpen channel s).record e.node channel =
        (s.record e.node channel).map fun r => { r with quality := .invalid } := by
  refine senseOpen_once (P := fun x => x.samples.nodes = markOpen e.node channel s.samples.nodes ∧
    x.record e.node channel =
      (s.record e.node channel).map fun r => { r with quality := .invalid }) hu
    (fun x y hy hx => ?_) fun x hx => ?_
  · rw [record_congr hy, hy]
    exact hx
  · rw [← hx, ← record_congr hx]
    exact senseOpened_sets ((senseOpen_samples hx _ _).trans h)

/-! ### BLEED_HOT (R79) -/

theorem coolDownTime_tables (h : t.tables = s.tables) (e : SlotEntry) :
    t.coolDownTime e = s.coolDownTime e := by
  have hentry : t.rackEntry = s.rackEntry := funext fun r => by
    simp only [State.rackEntry, State.table, h]
  rw [State.coolDownTime, hentry]
  rfl

/-- A node whose cool-down has begun now, with no record left IDLE or ACTIVE. -/
def State.CoolsDown (s : State) (node : Nat) (timer : CoolDown) : Prop :=
  (∀ n ∈ s.balance.nodes, n.node = node → n.coolDown = some timer) ∧
  ∀ b ∈ s.balance.records, b.node = node → b.state ≠ .idle ∧ b.state ≠ .active

theorem bleedHot_coolsDown (e : SlotEntry) (s : State) :
    (bleedHot e s).CoolsDown e.node ⟨s.now, s.coolDownTime e⟩ := by
  refine ⟨fun n hn hk => ?_, fun b hb hk => ?_⟩
  · obtain ⟨m, -, rfl⟩ := List.mem_map.1 (show n ∈ s.balance.nodes.map _ from hn)
    by_cases hm : m.node = e.node
    · rw [if_pos hm]
    · rw [if_neg hm] at hk
      exact absurd hk hm
  · have hb : b ∈ (bleedHot e s).balance.records := hb
    unfold bleedHot handMask suspendRecords mapRingNode mapRecords mapBalanceNode at hb
    simp only [State.withRing_balance, State.withBalance_balance, List.map_map, List.mem_map,
      Function.comp_apply] at hb
    obtain ⟨m, -, rfl⟩ := hb
    by_cases hm : m.node = e.node <;> cases hst : m.state <;>
      simp_all [BalanceRecord.move]

theorem bleedHot_event {e : SlotEntry} (hcell : e.nodeKind = .cell) (channel : Nat) (s : State) :
    (handleEvent e .bleedHot channel s).CoolsDown e.node ⟨s.now, s.coolDownTime e⟩ := by
  have hpost (x : State) : x.sameBut (post (usableEvent e .bleedHot channel s) x) [.site] := by
    simp [sameBut_refl]
  rw [handleEvent_usable (by simp [eventUsable, hcell])]
  refine inAnyOrder_once (P := fun x => x.CoolsDown e.node ⟨s.now, s.coolDownTime e⟩)
    (Q := fun x => x.now = s.now ∧ x.tables = s.tables) (fun _ _ h => h) (fun _ _ h => h)
    (a := bleedHot e) (others := [post (usableEvent e .bleedHot channel s)])
    (List.Perm.swap _ _ _) (fun act ha x hx => ?_) (fun act ha x hx => ?_) (fun x hx => ?_)
    ⟨rfl, rfl⟩
  · obtain rfl := List.mem_singleton.1 ha
    rw [sameBut_now (hpost x) (by simp), sameBut_tables (hpost x) (by simp)]
    exact hx
  · obtain rfl := List.mem_singleton.1 ha
    unfold State.CoolsDown
    rw [sameBut_balance (hpost x) (by simp)]
    exact hx
  · obtain ⟨hnow, htables⟩ := hx
    rw [← hnow, ← coolDownTime_tables htables]
    exact bleedHot_coolsDown e x

/-! ### CELL_HW_OV and CELL_HW_UV (R146, R148) -/

theorem awaitNode_mem (node : Nat) (xs : List Awaited) : ⟨node, false⟩ ∈ awaitNode node xs := by
  unfold awaitNode
  split
  next h =>
    obtain ⟨a, ha, hn⟩ := List.any_eq_true.1 h
    refine List.mem_map.2 ⟨a, ha, ?_⟩
    rw [if_pos (of_decide_eq_true hn)]
    rw [← of_decide_eq_true hn]
  next => simp

/-- A state in which a hardware trip of a node has been taken for a rack. -/
structure State.HwTaken (s : State) (r : Rack) (kind : TripKind) (node : Nat) : Prop where
  latch : (s.trips.racks.get r).latch kind = ⟨true, false⟩
  ov : kind = .nodeHwOv → ⟨node, false⟩ ∈ (s.trips.racks.get r).ovAwaited
  uv : kind = .nodeHwUv → ⟨node, false⟩ ∈ (s.trips.racks.get r).uvAwaited
  live : (s.rackState r).live = false
  conducts : kind.tripClass = .immediate → (s.rackState r).conducts = false

theorem State.HwTaken.of_same {r : Rack} {kind : TripKind} {node : Nat} (h : s.HwTaken r kind node)
    (htrips : t.trips = s.trips) (hseq : t.sequencer = s.sequencer) : t.HwTaken r kind node := by
  have hst : t.rackState r = s.rackState r := rackState_eq_of_sequencer hseq r
  obtain ⟨h1, h2, h3, h4, h5⟩ := h
  exact ⟨by rwa [htrips], by rwa [htrips], by rwa [htrips], by rwa [hst], by rwa [hst]⟩

theorem takeCause_hwTaken {kind : TripKind} (hk : kind = .nodeHwOv ∨ kind = .nodeHwUv) (r : Rack)
    (node channel : Nat) (stamp : PartTime) (s : State) :
    (takeCause kind (some r) (.nodeHw node channel stamp) s).HwTaken r kind node := by
  have hcont : kind.isContainer = false := by rcases hk with rfl | rfl <;> rfl
  have hmem : r ∈ namedRacks (some r) := List.mem_singleton.2 rfl
  have hawaits := congrFun (awaits_bystander.takeCause kind (some r) (.nodeHw node channel stamp) s) r
  have hset : (writeRecord (recordOf kind (some r) (.nodeHw node channel stamp) s)
      (setLatch kind (some r) (.nodeHw node channel stamp) s)).trips.racks.get r =
      ((s.trips.racks.get r).put kind .taken).await kind (.nodeHw node channel stamp) :=
    PerRack.get_set_self _ _ _
  have hov := congrArg Prod.fst hawaits
  have huv := congrArg Prod.snd hawaits
  simp only [Trips.awaits, hset] at hov huv
  refine ⟨takeCause_rack hcont r _ s, ?_, ?_, takeCause_live kind _ _ _ hmem,
    fun hclass => takeCause_conducts hclass _ _ hmem⟩
  · rintro rfl
    rw [hov]
    exact awaitNode_mem node _
  · rintro rfl
    rw [huv]
    exact awaitNode_mem node _

theorem State.HwTaken.settle {r : Rack} {kind : TripKind} {node : Nat} (h : s.HwTaken r kind node) :
    (settle s).HwTaken r kind node := by
  have hawaits := congrFun (settle_awaits s) r
  have hov : ((Machine.settle s).trips.racks.get r).ovAwaited = _ := congrArg Prod.fst hawaits
  have huv : ((Machine.settle s).trips.racks.get r).uvAwaited = _ := congrArg Prod.snd hawaits
  obtain ⟨h1, h2, h3, h4, h5⟩ := h
  refine ⟨settle_rack_taken h1, fun hk => ?_, fun hk => ?_, settle_live h4,
    fun hk => settle_conducts (h5 hk)⟩
  · rw [hov]
    exact h2 hk
  · rw [huv]
    exact h3 hk

theorem inAnyOrder_hwTaken {e : Event} {r : Rack} {kind : TripKind}
    (hk : kind = .nodeHwOv ∨ kind = .nodeHwUv) (node channel : Nat) (stamp : PartTime) (s : State) :
    (inAnyOrder [post e, takeCause kind (some r) (.nodeHw node channel stamp)] s).HwTaken r kind
      node := by
  refine inAnyOrder_reaches (P := fun x => x.HwTaken r kind node) (Q := fun _ => True)
    (fun x n h => h.of_same rfl rfl) (fun _ _ h => h)
    (a := takeCause kind (some r) (.nodeHw node channel stamp))
    (by simp) (fun _ _ _ h => h) (fun act ha x hx => ?_)
    (fun x _ => takeCause_hwTaken hk r node channel stamp x) trivial
  simp only [List.mem_cons, List.not_mem_nil, or_false] at ha
  rcases ha with rfl | rfl
  · exact hx.of_same (sameBut_trips (A := [.site]) (by simp [sameBut_refl]) (by simp))
      (sameBut_sequencer (A := [.site]) (by simp [sameBut_refl]) (by simp))
  · exact takeCause_hwTaken hk r node channel stamp x

end Sys2Proof.Machine

namespace Sys2Proof.Machine

variable {s t : State}

theorem listed_cycle (d : RingEnd) (f : EventFrame) (s : State) :
    (s.listed d f).ring.cycle = s.ring.cycle := by cases d <;> rfl

/-- A usable event reply leaves what it listed (R12, R18). -/
theorem eventReply_usable {d : RingEnd} {f : EventFrame} {e : SlotEntry}
    (herr : s.eventError d f = none) (he : s.entryOf f.node = some e)
    (hu : eventUsable e f.kind f.channel = true) :
    exec (.eventReply d f) s =
        .next (arbitrate (settle (handleEvent e f.kind f.channel (s.listed d f)))) ∧
      (arbitrate (settle (handleEvent e f.kind f.channel (s.listed d f)))).ring.endOf d =
        { s.ring.endOf d with expectation := none } ∧
      (arbitrate (settle (handleEvent e f.kind f.channel (s.listed d f)))).ring.pollList =
        (s.listed d f).ring.pollList := by
  have hlisten := handleEvent_listening hu (s.listed d f)
  refine ⟨by rw [exec_eventReply, receiveEvent_accepted herr he], ?_, ?_⟩
  · rw [arbitrate_ring, settle_endOf, listening_endOf hlisten]
    exact setEnd_endOf _ _ _
  · rw [arbitrate_ring, settle_pollList]
    exact congrArg (·.2.2) hlisten

/-- Settles O25. -/
theorem eventRepliesAreTaken : Obligations.EventRepliesAreTaken := by
  unfold Obligations.EventRepliesAreTaken
  intro d f e s herr hentry ring listed cellChannel usable
  have hlisted : listed = s.listed d f := rfl
  have hnode : e.node = f.node := entryOf_node hentry
  have husable : eventUsable e f.kind f.channel = true ↔ usable := by
    simp only [usable, cellChannel]
    cases f.kind <;> simp [eventUsable]
  clear_value listed usable
  subst hlisted
  have hexec : exec (.eventReply d f) s =
      .next (arbitrate (settle (handleEvent e f.kind f.channel (s.listed d f)))) := by
    rw [exec_eventReply, receiveEvent_accepted herr hentry]
  refine ⟨fun hk => ?_, fun hk hu => ?_, fun hu => ?_⟩
  · rw [hexec, hk, handleEvent_nothing]
  · rw [hexec, handleEvent_refused hk (by simpa [← husable] using hu), hnode,
      listed_cycle]
    rfl
  · have hu := husable.2 hu
    obtain ⟨-, hend, hpoll⟩ := eventReply_usable herr hentry hu
    refine ⟨_, hexec, by rw [hend], hpoll, fun hk => ?_, fun hk hs => ?_, fun hk => ?_,
      fun hk hopen => ?_, fun hk hopen => ?_, fun hk => ?_, fun r hr => ?_⟩
    · rw [arbitrate_samples, settle_samples, hk, nodeFault_samples, hnode]
      rfl
    · have hside := nodeFault_outside e f.channel (s.listed d f)
      have hseq := sameBut_sequencer hside (by simp)
      have htrips := sameBut_trips hside (by simp)
      have hsettled : (handleEvent e .nodeFault f.channel (s.listed d f)).Settled :=
        hs.of_same hseq (congrArg (·.container.welded) htrips)
      rw [hk, settle_stays hsettled]
      exact ⟨(arbitrate_ring _).trans (sameBut_ring hside (by simp)),
        (arbitrate_postCounter _).trans (nodeFault_postCounter _ _ _)⟩
    · rw [arbitrate_samples, settle_samples, arbitrate_ring, settle_nodes, arbitrate_balance,
        settle_balance, hk, nodeRestart_samples, ← hnode]
      exact ⟨rfl, nodeRestart_unconfirmed e f.channel _,
        fun hcell => nodeRestart_echoClear hcell f.channel _⟩
    · rw [arbitrate_samples, settle_samples]
      rw [hk] at hu ⊢
      exact senseOpen_stands hu (by rw [hnode]; exact hopen)
    · rw [record_congr (arbitrate_samples _), record_congr (settle_samples _),
        arbitrate_samples, settle_samples]
      rw [hk] at hu ⊢
      obtain ⟨hnodes, hrecord⟩ :=
        senseOpen_sets (s := s.listed d f) hu (by rw [hnode]; exact hopen)
      rw [hnode] at hnodes hrecord
      rw [hnodes]
      exact ⟨fun n hn hk hc => markOpen_marks hn hk hc, hrecord⟩
    · rw [arbitrate_balance, settle_balance]
      rw [hk] at hu ⊢
      rw [← hnode]
      exact bleedHot_event (by simpa [eventUsable] using hu) f.channel (s.listed d f)
    · have htaken {kind : TripKind} (hk : kind = .nodeHwOv ∨ kind = .nodeHwUv) (ev : Event) :=
        (inAnyOrder_hwTaken (e := ev) (r := r) hk e.node f.channel (s.listed d f).now
          (s.listed d f)).settle
      have hstate (x : State) : (arbitrate x).rackState r = x.rackState r :=
        rackState_eq_of_sequencer (arbitrate_sequencer x) r
      refine ⟨fun hk => ?_, fun hk => ?_⟩
      · rw [hk] at hu ⊢
        rw [handleEvent_usable hu, arbitrate_trips, commandedOpen_iff, hstate, ← hnode]
        simp only [eventActions, hr]
        obtain ⟨hlatch, hov, -, -, hconducts⟩ := htaken (.inl rfl) (usableEvent e .cellHwOv f.channel
          (s.listed d f))
        exact ⟨hlatch, hov rfl, hconducts rfl⟩
      · rw [hk] at hu ⊢
        rw [handleEvent_usable hu, arbitrate_trips, hstate, ← hnode]
        simp only [eventActions, hr]
        obtain ⟨hlatch, -, huv, hlive, -⟩ := htaken (.inr rfl) (usableEvent e .cellHwUv f.channel
          (s.listed d f))
        refine ⟨hlatch, huv rfl, fun h => ?_⟩
        rw [h] at hlive
        cases hlive

end Sys2Proof.Machine

namespace Sys2Proof.Machine

variable {s t : State}

/-! ## What handing masks and going to RUN leave of the ring -/

/-- A ring node but for its masks (R11). -/
def RingNode.linkPart (n : RingNode) : RingNode :=
  { n with commanded := 0#16, confirmed := false, echoed := none }

/-- The ring but for the length of the cycle and the masks of its nodes. -/
def State.bus (s : State) : Ring :=
  { s.ring with cycleLength := 0, nodes := s.ring.nodes.map RingNode.linkPart }

theorem bus_steady (h : t.steady = s.steady) : t.bus = s.bus := by
  have hring : { t.ring with cycleLength := 0 } = { s.ring with cycleLength := 0 } :=
    congrArg (·.1) h
  have := congrArg (fun x : Ring => { x with nodes := x.nodes.map RingNode.linkPart }) hring
  exact this

theorem bus_sameBut {A : List Block} (h : s.sameBut t A) (hr : Block.ring ∉ A) : t.bus = s.bus := by
  unfold State.bus
  rw [sameBut_ring h hr]

theorem bus_endOf (h : t.bus = s.bus) (d : RingEnd) : t.ring.endOf d = s.ring.endOf d := by
  cases d
  · exact (congrArg Ring.endA h : t.bus.endA = s.bus.endA)
  · exact (congrArg Ring.endB h : t.bus.endB = s.bus.endB)

theorem bus_pollList (h : t.bus = s.bus) : t.ring.pollList = s.ring.pollList :=
  (congrArg Ring.pollList h : t.bus.pollList = s.bus.pollList)

theorem ringNode_linkPart (node : Nat) (s : State) :
    (s.ringNode node).map RingNode.linkPart = s.bus.nodes.find? fun n => n.node = node := by
  show (s.ring.nodes.find? _).map _ = (s.ring.nodes.map RingNode.linkPart).find? _
  rw [List.find?_map]
  rfl

/-- A node of the ring, but for its masks. -/
theorem bus_ringNode (h : t.bus = s.bus) {node : Nat} {n : RingNode}
    (hn : s.ringNode node = some n) :
    ∃ m, t.ringNode node = some m ∧ m.linkPart = n.linkPart := by
  have hmap := ringNode_linkPart node t
  rw [h, ← ringNode_linkPart, hn] at hmap
  exact Option.map_eq_some_iff.1 hmap

theorem mapRingNode_bus {g : RingNode → RingNode} (node : Nat)
    (hg : ∀ n, (g n).linkPart = n.linkPart) (s : State) : (mapRingNode node g s).bus = s.bus := by
  have hnodes : (s.ring.nodes.map fun n => if n.node = node then g n else n).map
      RingNode.linkPart = s.ring.nodes.map RingNode.linkPart := by
    rw [List.map_map]
    refine List.map_congr_left fun n _ => ?_
    by_cases hn : n.node = node
    · simp only [Function.comp_apply, if_pos hn, hg]
    · simp only [Function.comp_apply, if_neg hn]
  unfold State.bus mapRingNode
  rw [State.withRing_ring]
  dsimp only
  rw [hnodes]

theorem handMask_bus (node : Nat) (s : State) : (handMask node s).bus = s.bus :=
  (mapRingNode_bus (g := (·.command (activeMask s.balance.records node))) node (fun _ => rfl)
    _).trans rfl

theorem handMasks_bus (nodes : List Nat) (s : State) : (handMasks nodes s).bus = s.bus := by
  induction nodes generalizing s with
  | nil => rfl
  | cons n nodes ih => exact (ih _).trans (handMask_bus n s)

theorem moveRecords_bus (g : BalanceRecord → BalanceRecord) (s : State) :
    (moveRecords g s).bus = s.bus := handMasks_bus _ _

theorem endActive_bus (named : BalanceRecord → Bool) (s : State) :
    (endActive named s).bus = s.bus := moveRecords_bus _ s

theorem refreshAllowance_bus (s : State) : (refreshAllowance s).bus = s.bus := by
  unfold refreshAllowance boundActive
  dsimp only
  split
  · rfl
  · split
    · rfl
    · exact endActive_bus _ _

theorem resolveVentilation_bus (s : State) : (resolveVentilation s).bus = s.bus := by
  unfold resolveVentilation
  dsimp only
  split
  · rfl
  · exact (refreshAllowance_bus _).trans rfl

theorem leaveStandby_bus (cause : ModeCause) (s : State) : (leaveStandby cause s).bus = s.bus :=
  bus_steady (leaveStandby_steady cause s)

theorem inAnyOrder_bus {acts : List (State → State)} (h : ∀ act ∈ acts, ∀ x, (act x).bus = x.bus)
    (s : State) : (inAnyOrder acts s).bus = s.bus :=
  inAnyOrder_keeps (P := fun x => x.bus = s.bus) (fun _ _ h => h)
    (fun act ha x hx => (h act ha x).trans hx) rfl

/-! ### The plant notice (R43, R116) -/

theorem withdrawConnects_bus (s : State) : (withdrawConnects s).bus = s.bus :=
  bus_sameBut (A := [.limits, .sequencer, .trips, .converter, .site, .choices])
    (by simp [sameBut_refl]) (by simp)

theorem siteAtStage_bus (before after : FireStage) (cause : StageCause) (s : State) :
    (siteAtStage before after cause s).bus = s.bus := by
  have hpost : (produceContainerSummary (post (.fireStage before after cause) s)).bus = s.bus :=
    bus_sameBut (A := [.site]) (by simp [sameBut_refl]) (by simp)
  unfold siteAtStage
  dsimp only
  split
  · exact (leaveStandby_bus _ _).trans hpost
  · exact hpost

theorem handStage_bus (before after : FireStage) (cause : StageCause) (s : State) :
    (handStage before after cause s).bus = s.bus := by
  refine inAnyOrder_bus (fun act ha x => ?_) s
  simp only [List.mem_cons, List.not_mem_nil, or_false] at ha
  rcases ha with rfl | rfl | rfl | rfl | rfl | rfl | rfl
  · exact (refreshAllowance_bus _).trans (resolveVentilation_bus x)
  · dsimp only
    split
    · exact endActive_bus _ x
    · rfl
  · exact bus_sameBut (A := [.limits, .converter]) (by simp [sameBut_refl]) (by simp)
  · dsimp only
    split
    · exact withdrawConnects_bus x
    · rfl
  · exact bus_sameBut (A := [.limits, .sequencer, .trips, .converter, .site, .choices])
      (by simp [sameBut_refl]) (by simp)
  · exact bus_sameBut (A := [.converter]) (by simp [sameBut_refl]) (by simp)
  · exact siteAtStage_bus _ _ _ x

theorem moveStage_bus (after : FireStage) (cause : StageCause) (s : State) :
    (moveStage after cause s).bus = s.bus := by
  unfold moveStage
  dsimp only
  split
  · rfl
  · exact (handStage_bus _ _ _ _).trans rfl

theorem countdownAtOnce_bus (s : State) : (countdownAtOnce s).bus = s.bus := by
  unfold countdownAtOnce
  split
  · exact moveStage_bus _ _ s
  · rfl

theorem pickFree_bus {α : Type} (xs : List α) (s : State) : (pickFree xs s).2.bus = s.bus :=
  bus_sameBut (A := [.choices]) (pickFree_sameBut xs s) (by simp)

theorem moveStageFor_bus (after : FireStage) (causes : List StageCause) (s : State) :
    (moveStageFor after causes s).bus = s.bus := by
  have hpick := pickFree_bus causes s
  unfold moveStageFor
  split
  next c x h => rw [h] at hpick; exact (moveStage_bus _ _ _).trans hpick
  next x h => rw [h] at hpick; exact hpick

theorem judgeStage_bus (s : State) : (judgeStage s).bus = s.bus := by
  have hfor (after : FireStage) (causes : List StageCause) :
      (countdownAtOnce (moveStageFor after causes s)).bus = s.bus :=
    (countdownAtOnce_bus _).trans (moveStageFor_bus _ _ s)
  unfold judgeStage
  split
  · split
    · exact hfor _ _
    · split
      · exact moveStageFor_bus _ _ s
      · rfl
  · split
    · exact hfor _ _
    · split
      · exact moveStage_bus _ _ s
      · rfl
  · rfl
  · rfl
  · rfl

theorem handGas_bus (before after : GasState) (channel : GasChannel) (v : Int) (stamp : PartTime)
    (s : State) : (handGas before after channel v stamp s).bus = s.bus := by
  refine inAnyOrder_bus (fun act ha x => ?_) s
  simp only [List.mem_cons, List.not_mem_nil, or_false] at ha
  rcases ha with rfl | rfl | rfl | rfl | rfl
  · exact resolveVentilation_bus x
  · dsimp only
    split
    · exact endActive_bus _ x
    · rfl
  · dsimp only
    split
    · exact withdrawConnects_bus x
    · rfl
  · refine bus_sameBut (A := [.limits, .sequencer, .trips, .converter, .site, .choices]) ?_ (by simp)
    split <;> simp [sameBut_refl]
  · dsimp only
    split
    · exact (leaveStandby_bus _ _).trans rfl
    · rfl

theorem gasChanged_bus (channel : GasChannel) (v : Int) (stamp : PartTime) (s : State) :
    (gasChanged channel v stamp s).bus = s.bus := by
  unfold gasChanged
  dsimp only
  split
  · rfl
  · rw [handGas_bus, judgeStage_bus]
    exact bus_sameBut (A := [.fire, .site]) (by simp [sameBut_refl]) (by simp)

theorem plantNotice_bus (node : Nat) (s : State) : (plantNotice node s).bus = s.bus := by
  refine (inAnyOrder_bus (fun act ha x => ?_) _).trans rfl
  simp only [List.mem_cons, List.not_mem_nil, or_false] at ha
  rcases ha with rfl | rfl
  · unfold judgeH2
    split
    · exact (gasChanged_bus _ _ _ _).trans rfl
    · rfl
  · unfold judgeCo
    split
    · exact (gasChanged_bus _ _ _ _).trans rfl
    · rfl

end Sys2Proof.Machine

namespace Sys2Proof.Machine

variable {s t : State}

/-! ## Filing a code (R30) -/

theorem steady_inAnyOrder {acts : List (State → State)}
    (h : ∀ act ∈ acts, ∀ x, (act x).steady = x.steady) (s : State) :
    (inAnyOrder acts s).steady = s.steady :=
  inAnyOrder_keeps (P := fun x => x.steady = s.steady) (fun _ _ h => h)
    (fun act ha x hx => (h act ha x).trans hx) rfl

theorem post_steady (e : Event) (s : State) : (post e s).steady = s.steady :=
  steady_sameBut (A := [.site]) (by simp [sameBut_refl]) (by simp) (by simp) (by simp)

theorem takeCause_steady (kind : TripKind) (r : Option Rack) (data : CauseData) (s : State) :
    (takeCause kind r data s).steady = s.steady :=
  steady_sameBut (A := [.limits, .sequencer, .trips, .converter, .site, .choices])
    (by simp [sameBut_refl]) (by simp) (by simp) (by simp)

/-- A change of level takes the part to RUN at most, and moves no mask and no output. -/
theorem levelChanged_steady (rec : Record) (side : LevelSide) (before after : Level) (s : State) :
    (levelChanged rec side before after s).steady = s.steady := by
  unfold levelChanged
  dsimp only
  refine steady_inAnyOrder (fun act ha x => ?_) s
  rcases List.mem_cons.1 ha with rfl | ha
  · exact post_steady _ x
  · cases after with
    | normal => cases ha
    | warn =>
      obtain rfl := List.mem_singleton.1 (mem_ite_nil ha)
      exact leaveStandby_steady _ x
    | trip =>
      dsimp only at ha
      split at ha
      · obtain rfl := List.mem_singleton.1 ha
        exact takeCause_steady _ _ _ x
      · cases ha

theorem sideChange_steady (rec : Record) (side : LevelSide) (before after : Option SideState)
    (s : State) : (sideChange rec side before after s).steady = s.steady := by
  unfold sideChange
  split
  · split
    · rfl
    · exact levelChanged_steady _ _ _ _ s
  · rfl

theorem announceSides_steady (before after : Record) (s : State) :
    (announceSides before after s).steady = s.steady :=
  (sideChange_steady _ _ _ _ _).trans (sideChange_steady _ _ _ _ s)

/-- A record after a valid code was filed in it (R30). -/
def Record.filed (set : Option LimitSet) (r : Record) (v : Int) (range : Bool) (stamp : PartTime) :
    Record :=
  match set with
  | some l => (r.file v range stamp).judged l
  | none => r.file v range stamp

theorem filed_key (set : Option LimitSet) (r : Record) (v : Int) (range : Bool)
    (stamp : PartTime) : (r.filed set v range stamp).node = r.node ∧
      (r.filed set v range stamp).channel = r.channel ∧
      (r.filed set v range stamp).rack = r.rack := by
  cases set <;> exact ⟨rfl, rfl, rfl⟩

theorem fileValue_eq (r : Record) (v : Int) (range : Bool) (stamp : PartTime) (s : State) :
    fileValue r v range stamp s = announceSides r (r.filed (s.limitSetOf r) v range stamp)
      (refreshBlindOf r.rack
        (mapRecord r.node r.channel (fun _ => r.filed (s.limitSetOf r) v range stamp) s)) := rfl

theorem refreshBlindOf_records (o : Option Rack) (s : State) :
    (refreshBlindOf o s).samples.records = s.samples.records := by
  cases o with
  | none => rfl
  | some r =>
    simp only [refreshBlindOf, refreshBlind]
    split <;> rfl

/-- What filing a code does with the samples: one record changes, and BLIND of its rack follows. -/
theorem fileCode_samples (e : SlotEntry) (stamp : PartTime) (channel : Nat) (code : Code)
    (s : State) : (fileCode e stamp channel code s).samples = s.samples ∨
      ∃ o g, (fileCode e stamp channel code s).samples =
        (refreshBlindOf o (mapRecord e.node channel g s)).samples := by
  unfold fileCode
  split
  · exact .inl rfl
  next r hr =>
    obtain ⟨hnode, hchannel⟩ := record_key hr
    split
    · exact .inl rfl
    · refine .inr ⟨r.rack, ({ · with quality := .invalid }), ?_⟩
      rw [invalidate, hnode, hchannel]
    next v range _ =>
      split
      · exact .inl rfl
      · refine .inr ⟨r.rack, fun _ => r.filed (s.limitSetOf r) v range stamp, ?_⟩
        rw [fileValue_eq, announceSides_samples, hnode, hchannel]

theorem fileCode_nodes (e : SlotEntry) (stamp : PartTime) (channel : Nat) (code : Code)
    (s : State) : (fileCode e stamp channel code s).samples.nodes = s.samples.nodes := by
  rcases fileCode_samples e stamp channel code s with h | ⟨o, g, h⟩
  · rw [h]
  · rw [h, refreshBlindOf_nodes]
    rfl

theorem fileCode_tables (e : SlotEntry) (stamp : PartTime) (channel : Nat) (code : Code)
    (s : State) : (fileCode e stamp channel code s).tables = s.tables :=
  sameBut_tables (A := [.ring, .samples, .limits, .balance, .cooling, .sequencer, .trips,
    .converter, .site, .choices]) (by simp [sameBut_refl]) (by simp)

theorem fileCode_steady (e : SlotEntry) (stamp : PartTime) (channel : Nat) (code : Code)
    (s : State) : (fileCode e stamp channel code s).steady = s.steady := by
  have hblind (o : Option Rack) (x : State) : (refreshBlindOf o x).steady = x.steady :=
    steady_sameBut (A := [.samples]) (by simp [sameBut_refl]) (by simp) (by simp) (by simp)
  unfold fileCode
  split
  · rfl
  · split
    · rfl
    · exact (hblind _ _).trans rfl
    · split
      · rfl
      · rw [fileValue_eq, announceSides_steady, hblind]
        rfl

/-! ### What filing reads (R30) -/

/-- Two states in which the filing of codes finds and leaves the same records. -/
structure State.FilesAs (t s : State) : Prop where
  records : t.samples.records = s.samples.records
  tables : t.tables = s.tables
  senseOpen : t.senseOpen = s.senseOpen

theorem State.FilesAs.refl (s : State) : s.FilesAs s := ⟨rfl, rfl, rfl⟩

theorem convert_congr (h : t.tables = s.tables) : t.convert = s.convert := by
  funext e channel code
  simp only [State.convert, State.table, h]

theorem senseOpen_nodes (h : t.samples.nodes = s.samples.nodes) : t.senseOpen = s.senseOpen := by
  funext node channel
  unfold State.senseOpen State.sampleNode
  rw [h]

theorem State.FilesAs.record (h : t.FilesAs s) : t.record = s.record := by
  funext node channel
  unfold State.record
  rw [h.records]

theorem fileCode_records (h : t.FilesAs s) (e : SlotEntry) (stamp : PartTime) (channel : Nat)
    (code : Code) : (fileCode e stamp channel code t).samples.records =
      (fileCode e stamp channel code s).samples.records := by
  unfold fileCode
  rw [h.record, convert_congr h.tables, h.senseOpen]
  split
  · exact h.records
  next r _ =>
    split
    · exact h.records
    · unfold invalidate
      rw [refreshBlindOf_records, refreshBlindOf_records]
      simp only [mapRecord, State.withSamples_samples, h.records]
    · split
      · exact h.records
      · rw [fileValue_eq, fileValue_eq, announceSides_samples, announceSides_samples,
          refreshBlindOf_records, refreshBlindOf_records, limitSetOf_congr h.tables]
        simp only [mapRecord, State.withSamples_samples, h.records]

theorem State.FilesAs.fileCode (h : t.FilesAs s) (e : SlotEntry) (stamp : PartTime)
    (channel : Nat) (code : Code) :
    (fileCode e stamp channel code t).FilesAs (fileCode e stamp channel code s) where
  records := fileCode_records h e stamp channel code
  tables := by rw [fileCode_tables, fileCode_tables, h.tables]
  senseOpen := by
    rw [senseOpen_nodes (fileCode_nodes e stamp channel code t),
      senseOpen_nodes (fileCode_nodes e stamp channel code s), h.senseOpen]

/-- The codes of a reply filed one after another (R25). -/
def fileCodes (e : SlotEntry) (stamp : PartTime) (codes : List (Nat × Code)) (s : State) : State :=
  codes.foldl (fun acc x => Machine.fileCode e stamp x.1 x.2 acc) s

theorem State.FilesAs.fileCodes (h : t.FilesAs s) (e : SlotEntry) (stamp : PartTime)
    (codes : List (Nat × Code)) : (fileCodes e stamp codes t).FilesAs (fileCodes e stamp codes s) := by
  induction codes generalizing s t with
  | nil => exact h
  | cons x xs ih => exact ih (h.fileCode e stamp x.1 x.2)

theorem fileCodes_keeps {α : Type} {f : State → α} (e : SlotEntry) (stamp : PartTime)
    (h : ∀ c code x, f (fileCode e stamp c code x) = f x) (codes : List (Nat × Code)) (s : State) :
    f (fileCodes e stamp codes s) = f s := by
  induction codes generalizing s with
  | nil => rfl
  | cons x xs ih => exact (ih _).trans (h x.1 x.2 s)

end Sys2Proof.Machine

namespace Sys2Proof.Machine

variable {s t : State}

/-! ## Taking a slot outcome (R25, R26, R39) -/

theorem sampleNode_mapSampleNode {node : Nat} {g : SampleNode → SampleNode}
    (hg : ∀ n, (g n).node = n.node) (s : State) :
    (mapSampleNode node g s).sampleNode node = (s.sampleNode node).map g :=
  find?_map_at hg node s.samples.nodes

/-- The node's empty-slot count cleared, and a junction node's sample marked taken (R25). -/
def startFiling (e : SlotEntry) (s : State) : State :=
  let s1 := mapSampleNode e.node ({ · with emptySlots := 0 }) s
  match e.nodeKind, e.rackOf with
  | .junction, some r => s1.setRackSamples r { s1.samples.racks.get r with junctionTaken := true }
  | _, _ => s1

/-- The node's empty-slot count raised (R25). -/
def emptySlot (e : SlotEntry) (s : State) : State :=
  mapSampleNode e.node (fun n => { n with emptySlots := countUp 255 n.emptySlots }) s

theorem takeCodes_filed {e : SlotEntry} {n : SampleNode} (hn : s.sampleNode e.node = some n)
    (hf : n.faulted = false) (codes : List (Nat × Code)) (stamp : PartTime) :
    takeCodes e (.sample codes stamp) s = fileCodes e stamp codes (startFiling e s) := by
  simp only [takeCodes, hn, hf]
  rfl

theorem takeCodes_faulted {e : SlotEntry} {n : SampleNode} (hn : s.sampleNode e.node = some n)
    (hf : n.faulted = true) (codes : List (Nat × Code)) (stamp : PartTime) :
    takeCodes e (.sample codes stamp) s = emptySlot e s := by
  simp only [takeCodes, hn, hf]
  rfl

theorem takeCodes_miss (e : SlotEntry) (s : State) : takeCodes e .miss s = emptySlot e s := rfl

theorem takeCodes_unknown {e : SlotEntry} (hn : s.sampleNode e.node = none)
    (codes : List (Nat × Code)) (stamp : PartTime) :
    takeCodes e (.sample codes stamp) s = s := by
  simp only [takeCodes, hn]

/-- What the taking of an outcome can be (R25). -/
theorem takeCodes_cases (e : SlotEntry) (o : SlotOutcome) (s : State) :
    takeCodes e o s = s ∨ takeCodes e o s = emptySlot e s ∨
      ∃ codes stamp, takeCodes e o s = fileCodes e stamp codes (startFiling e s) := by
  cases o with
  | servedFaulted => exact .inr (.inl rfl)
  | miss => exact .inr (.inl rfl)
  | sample codes stamp =>
    cases hn : s.sampleNode e.node with
    | none => exact .inl (takeCodes_unknown hn codes stamp)
    | some n =>
      cases hf : n.faulted with
      | true => exact .inr (.inl (takeCodes_faulted hn hf codes stamp))
      | false => exact .inr (.inr ⟨codes, stamp, takeCodes_filed hn hf codes stamp⟩)

theorem startFiling_racks (e : SlotEntry) (s : State) :
    (startFiling e s).samples.racks = s.samples.racks ∨
      ∃ r, e.rackOf = some r ∧ (startFiling e s).samples.racks =
        s.samples.racks.set r { s.samples.racks.get r with junctionTaken := true } := by
  unfold startFiling
  dsimp only
  split
  next r _ hr => exact .inr ⟨r, hr, rfl⟩
  next => exact .inl rfl

/-- Starting to file changes the samples alone, and neither a record nor a mark of them. -/
theorem startFiling_eq (e : SlotEntry) (s : State) : ∃ racks, startFiling e s = s.withSamples
    { s.samples with
      nodes := s.samples.nodes.map fun n => if n.node = e.node then { n with emptySlots := 0 } else n
      racks := racks } := by
  unfold startFiling
  dsimp only
  split
  · exact ⟨_, rfl⟩
  · exact ⟨_, rfl⟩

theorem startFiling_steady (e : SlotEntry) (s : State) : (startFiling e s).steady = s.steady := by
  obtain ⟨racks, h⟩ := startFiling_eq e s
  rw [h]
  rfl

theorem startFiling_tables (e : SlotEntry) (s : State) : (startFiling e s).tables = s.tables := by
  obtain ⟨racks, h⟩ := startFiling_eq e s
  rw [h]
  rfl

theorem startFiling_filesAs (e : SlotEntry) (s : State) : (startFiling e s).FilesAs s := by
  obtain ⟨racks, h⟩ := startFiling_eq e s
  refine ⟨by rw [h]; rfl, startFiling_tables e s, ?_⟩
  have hmap : ∀ node, (startFiling e s).sampleNode node =
      (s.sampleNode node).map fun n => if n.node = e.node then { n with emptySlots := 0 } else n := by
    intro node
    rw [h]
    simp only [State.sampleNode, State.withSamples_samples]
    rw [List.find?_map]
    congr 2
    funext n
    by_cases hn : n.node = e.node <;> simp [hn]
  funext node channel
  unfold State.senseOpen
  rw [hmap]
  cases s.sampleNode node with
  | none => rfl
  | some n => by_cases hn : n.node = e.node <;> simp [hn]

theorem startFiling_sampleNode (e : SlotEntry) (s : State) :
    (startFiling e s).sampleNode e.node =
      (s.sampleNode e.node).map ({ · with emptySlots := 0 }) := by
  obtain ⟨racks, h⟩ := startFiling_eq e s
  rw [h]
  exact sampleNode_mapSampleNode (g := ({ · with emptySlots := 0 })) (fun _ => rfl) s

theorem takeCodes_steady (e : SlotEntry) (o : SlotOutcome) (s : State) :
    (takeCodes e o s).steady = s.steady := by
  rcases takeCodes_cases e o s with h | h | ⟨codes, stamp, h⟩
  · rw [h]
  · rw [h]; rfl
  · rw [h, fileCodes_keeps (f := State.steady) e stamp (fun c code => fileCode_steady e stamp c code),
      startFiling_steady]

theorem takeCodes_tables (e : SlotEntry) (o : SlotOutcome) (s : State) :
    (takeCodes e o s).tables = s.tables := by
  rcases takeCodes_cases e o s with h | h | ⟨codes, stamp, h⟩
  · rw [h]
  · rw [h]; rfl
  · rw [h, fileCodes_keeps (f := (·.tables)) e stamp (fun c code => fileCode_tables e stamp c code),
      startFiling_tables]

/-! ### Staleness (R26) -/

/-- The records of a node that is stale by its link or by its empty slots (R26). -/
def staleRecords (node : Nat) (stale : Prop) [Decidable stale] (rs : List Record) : List Record :=
  rs.map fun r =>
    if stale ∧ r.node = node ∧ (r.quality = .fresh ∨ r.quality = .range) then
      { r with quality := .stale } else r

theorem staleRecords_not {node : Nat} {stale : Prop} [Decidable stale] (h : ¬ stale)
    (rs : List Record) : staleRecords node stale rs = rs := by
  unfold staleRecords
  simp only [h, false_and, if_false]
  exact List.map_id'' (fun _ => rfl) rs

/-- The empty-slot count of a node, 0 for one without a state (R25). -/
def State.empties (s : State) (node : Nat) : Nat :=
  match s.sampleNode node with
  | some n => n.emptySlots
  | none => 0

/-- A node found stale after an outcome, by its link or its empty slots (R26). -/
def State.foundStale (s : State) (e : SlotEntry) (link : LinkState) : Bool :=
  decide (link = .stale) || decide (s.staleThreshold ≤ s.empties e.node)

/-- The mark of a node found stale, and its fresh records STALE (R26). -/
def markStale (e : SlotEntry) (stale : Bool) (s : State) : State :=
  let s1 := mapSampleNode e.node ({ · with countsStale := stale }) s
  if stale then
    s1.withSamples
      { s1.samples with
        records := s1.samples.records.map fun r =>
          if r.node = e.node && r.quality.isFresh then { r with quality := .stale } else r }
  else s1

theorem checkStale_eq (e : SlotEntry) (link : LinkState) (s : State) :
    checkStale e link s = refreshBlindOf e.rackOf (markStale e (s.foundStale e link) s) := rfl

theorem empties_of {node : Nat} {n : SampleNode} (h : s.sampleNode node = some n) :
    s.empties node = n.emptySlots := by
  unfold State.empties
  rw [h]

theorem markStale_records (e : SlotEntry) (stale : Bool) (s : State) :
    (markStale e stale s).samples.records =
      staleRecords e.node (stale = true) s.samples.records := by
  cases stale with
  | false => exact (staleRecords_not Bool.false_ne_true _).symm
  | true =>
    refine List.map_congr_left fun r _ => ?_
    simp only [true_and, Bool.and_eq_true, decide_eq_true_eq, isFresh_iff]

theorem checkStale_records {e : SlotEntry} {link : LinkState} {n : SampleNode}
    (hn : s.sampleNode e.node = some n) : (checkStale e link s).samples.records =
      staleRecords e.node (link = .stale ∨ s.staleThreshold ≤ n.emptySlots) s.samples.records := by
  rw [checkStale_eq, refreshBlindOf_records, markStale_records, State.foundStale, empties_of hn]
  simp only [Bool.or_eq_true, decide_eq_true_eq]

/-! ### Trace reports, the set complete and the plant notice -/

theorem traceCode_samples (e : SlotEntry) (stamp : PartTime) (channel : Nat) (code : Code)
    (s : State) : ∃ trace, (traceCode e stamp channel code s).samples =
      { s.samples with trace := trace } := by
  have hq (x : TraceReport) : (queueTrace x s).samples = s.samples :=
    sameBut_samples (A := [.site]) (by simp [sameBut_refl]) (by simp)
  have hset (i : Nat) (x : Option TraceEntry) (y : TraceReport) : ∃ trace,
      (setTrace i x (queueTrace y s)).samples = { s.samples with trace := trace } :=
    ⟨s.samples.trace.set i x, by rw [setTrace, State.withSamples_samples, hq]⟩
  unfold traceCode
  split
  · exact ⟨_, rfl⟩
  · dsimp only
    split
    · exact ⟨s.samples.trace, hq _⟩
    · split
      · rw [sameBut_samples (A := [.site]) (post_sameBut _ _) (by simp)]
        exact hset _ _ _
      · exact hset _ _ _

theorem traceOutcome_samples (e : SlotEntry) (o : SlotOutcome) (s : State) :
    ∃ trace, (traceOutcome e o s).samples = { s.samples with trace := trace } := by
  cases o with
  | servedFaulted => exact ⟨_, rfl⟩
  | miss => exact ⟨_, rfl⟩
  | sample codes stamp =>
    show ∃ trace, (codes.foldl _ s).samples = _
    induction codes generalizing s with
    | nil => exact ⟨_, rfl⟩
    | cons x xs ih =>
      obtain ⟨trace, h⟩ := ih (traceCode e stamp x.1 x.2 s)
      obtain ⟨before, hx⟩ := traceCode_samples e stamp x.1 x.2 s
      refine ⟨trace, h.trans ?_⟩
      rw [hx]

/-- The rack of a complete set before it is posted (R39, R40, R41). -/
def completedSet (r : Rack) (s : State) : State :=
  (prepareSet r s).setRackSamples r { (prepareSet r s).samples.racks.get r with hadSet := true }

theorem rackSetComplete_eq (r : Rack) (s : State) :
    rackSetComplete r s = postSetComplete r (completedSet r s) := rfl

theorem postSetComplete_outside (r : Rack) (s : State) : s.sameBut (postSetComplete r s)
    [.ring, .limits, .balance, .sequencer, .trips, .converter, .site, .choices] := by
  simp [sameBut_refl]

theorem postSetComplete_bus (r : Rack) (s : State) : (postSetComplete r s).bus = s.bus := by
  refine inAnyOrder_bus (fun act ha x => ?_) s
  have hbalance : (balanceSetComplete r x).bus = x.bus := by
    unfold balanceSetComplete
    dsimp only
    rw [handMasks_bus]
    refine bus_sameBut (A := [.balance, .site]) ?_ (by simp)
    split <;> simp [sameBut_refl]
  rcases List.mem_append.1 ha with ha | ha
  · simp only [List.mem_cons, List.not_mem_nil, or_false] at ha
    rcases ha with rfl | rfl | rfl | rfl
    · exact bus_sameBut (A := [.limits, .converter, .site]) (by simp [sameBut_refl]) (by simp)
    · exact hbalance
    · exact bus_sameBut (A := [.limits, .sequencer, .trips, .converter, .site, .choices])
        (by simp [sameBut_refl]) (by simp)
    · exact bus_sameBut (A := [.limits, .sequencer, .trips, .converter, .site, .choices])
        (by simp [sameBut_refl]) (by simp)
  · obtain rfl := List.mem_singleton.1 (mem_ite_nil ha)
    exact bus_sameBut (A := [.site, .limits]) (by simp [sameBut_refl]) (by simp)

theorem completedSet_outside (r : Rack) (s : State) : s.sameBut (completedSet r s) [.samples] := by
  unfold completedSet
  simp [sameBut_refl]

theorem checkMismatch_records (r : Rack) (s : State) :
    (checkMismatch r s).samples.records = s.samples.records := by
  unfold checkMismatch
  split
  · exact (refreshBlindOf_records (some r) _).trans rfl
  · rfl

theorem completedSet_records (r : Rack) (s : State) :
    (completedSet r s).samples.records = s.samples.records :=
  (checkMismatch_records r _).trans rfl

/-! ### The outcome as a whole -/

/-- The state once the codes, the staleness and the trace of an outcome are done. -/
def tracedOutcome (e : SlotEntry) (o : SlotOutcome) (link : LinkState) (s : State) : State :=
  traceOutcome e o (checkStale e link (takeCodes e o s))

/-- What an outcome comes to: a rack set complete, a plant notice or neither. -/
theorem takeOutcome_cases (e : SlotEntry) (o : SlotOutcome) (link : LinkState) (s : State) :
    takeOutcome e o link s = tracedOutcome e o link s ∨
      (∃ r, takeOutcome e o link s =
        postSetComplete r (completedSet r (tracedOutcome e o link s))) ∨
      takeOutcome e o link s = plantNotice e.node (tracedOutcome e o link s) := by
  unfold takeOutcome
  dsimp only
  split
  next r _ =>
    split
    · exact .inr (.inl ⟨r, rfl⟩)
    · exact .inl rfl
  next =>
    split
    · exact .inr (.inr rfl)
    · exact .inl rfl

theorem tracedOutcome_bus (e : SlotEntry) (o : SlotOutcome) (link : LinkState) (s : State) :
    (tracedOutcome e o link s).bus = s.bus :=
  (bus_sameBut (s := takeCodes e o s) (A := [.samples, .site])
    (by unfold tracedOutcome; simp [sameBut_refl]) (by simp)).trans
    (bus_steady (takeCodes_steady e o s))

theorem tracedOutcome_tables (e : SlotEntry) (o : SlotOutcome) (link : LinkState) (s : State) :
    (tracedOutcome e o link s).tables = s.tables :=
  (sameBut_tables (s := takeCodes e o s) (A := [.samples, .site])
    (by unfold tracedOutcome; simp [sameBut_refl]) (by simp)).trans (takeCodes_tables e o s)

theorem tracedOutcome_records (e : SlotEntry) (o : SlotOutcome) (link : LinkState) (s : State) :
    (tracedOutcome e o link s).samples.records =
      (checkStale e link (takeCodes e o s)).samples.records := by
  obtain ⟨trace, h⟩ := traceOutcome_samples e o (checkStale e link (takeCodes e o s))
  unfold tracedOutcome
  rw [h]

theorem takeOutcome_bus (e : SlotEntry) (o : SlotOutcome) (link : LinkState) (s : State) :
    (takeOutcome e o link s).bus = s.bus := by
  have htraced := tracedOutcome_bus e o link s
  rcases takeOutcome_cases e o link s with h | ⟨r, h⟩ | h
  · rw [h, htraced]
  · rw [h, postSetComplete_bus, bus_sameBut (completedSet_outside r _) (by simp), htraced]
  · rw [h, plantNotice_bus, htraced]

theorem takeOutcome_records (e : SlotEntry) (o : SlotOutcome) (link : LinkState) (s : State) :
    (takeOutcome e o link s).samples.records =
      (checkStale e link (takeCodes e o s)).samples.records := by
  have htraced := tracedOutcome_records e o link s
  rcases takeOutcome_cases e o link s with h | ⟨r, h⟩ | h
  · rw [h, htraced]
  · rw [h, sameBut_samples (postSetComplete_outside r _) (by simp), completedSet_records, htraced]
  · rw [h, sameBut_samples (s := tracedOutcome e o link s) (A := [.ring, .limits, .balance, .cooling,
      .fire, .sequencer, .trips, .converter, .site, .choices]) (by simp [sameBut_refl]) (by simp),
      htraced]

end Sys2Proof.Machine

namespace Sys2Proof.Machine

variable {s t : State}

/-! ## A reply or a miss ends a poll slot (R12, R15, R16) -/

theorem slotHeader_congr (h : t.tables = s.tables) : t.slotHeader = s.slotHeader := by
  simp only [State.slotHeader, State.table, h]

theorem staleThreshold_congr (h : t.tables = s.tables) : t.staleThreshold = s.staleThreshold := by
  rw [State.staleThreshold, slotHeader_congr h]
  rfl

theorem settle_bus (s : State) : (settle s).bus = s.bus := bus_steady (settle_steady s)

theorem concluded_bus (s : State) : (arbitrate (settle s)).bus = s.bus := by
  unfold State.bus
  rw [arbitrate_ring]
  exact settle_bus s

/-- The records once a code list has been filed for a node that is not faulted (R25, R30). -/
theorem takeOutcome_filed {e : SlotEntry} {n : SampleNode} {x : State} (h : x.FilesAs s)
    (hn : x.sampleNode e.node = some n) (hf : n.faulted = false) (hs : 1 ≤ s.staleThreshold)
    (codes : List (Nat × Code)) (stamp : PartTime) :
    (takeOutcome e (.sample codes stamp) .online x).samples.records =
      (fileCodes e stamp codes s).samples.records := by
  have hfiled := ((startFiling_filesAs e x).fileCodes e stamp codes)
  have hnode : (fileCodes e stamp codes (startFiling e x)).sampleNode e.node =
      some { n with emptySlots := 0 } := by
    unfold State.sampleNode
    rw [fileCodes_keeps (f := (·.samples.nodes)) e stamp
      (fun c code => fileCode_nodes e stamp c code)]
    exact (startFiling_sampleNode e x).trans (by rw [hn]; rfl)
  rw [takeOutcome_records, takeCodes_filed hn hf, checkStale_records hnode,
    staleThreshold_congr (hfiled.tables.trans ((h.fileCodes e stamp codes).tables.trans
      (fileCodes_keeps (f := (·.tables)) e stamp (fun c code => fileCode_tables e stamp c code) codes s))),
    staleRecords_not (by simp only [reduceCtorEq, false_or]; omega), hfiled.records]
  exact (h.fileCodes e stamp codes).records

/-- The records once an outcome without codes has been taken (R26). -/
theorem takeOutcome_empty {e : SlotEntry} {n : SampleNode} {o : SlotOutcome} {link : LinkState}
    {x : State} (h : x.samples = s.samples) (ht : x.tables = s.tables)
    (hn : s.sampleNode e.node = some n) (ho : takeCodes e o x = emptySlot e x) :
    (takeOutcome e o link x).samples.records = staleRecords e.node
      (link = .stale ∨ s.staleThreshold ≤ min 255 (n.emptySlots + 1)) s.samples.records := by
  have hx : x.sampleNode e.node = some n := (congrFun (sampleNode_congr h) _).trans hn
  have hnode : (emptySlot e x).sampleNode e.node =
      some { n with emptySlots := countUp 255 n.emptySlots } :=
    (sampleNode_mapSampleNode
      (g := fun n => { n with emptySlots := countUp 255 n.emptySlots }) (fun _ => rfl) x).trans
      (by rw [hx]; rfl)
  have hst : (emptySlot e x).staleThreshold = s.staleThreshold :=
    staleThreshold_congr (s := s) ht
  rw [takeOutcome_records, ho, checkStale_records hnode, hst]
  simp only [countUp_eq_min]
  show staleRecords _ _ x.samples.records = _
  rw [h]

/-! ### A sample reply (R12, R16, R18) -/

theorem ringNode_mapRingNode {node : Nat} {g : RingNode → RingNode} (hg : ∀ n, (g n).node = n.node)
    (s : State) : (mapRingNode node g s).ringNode node = (s.ringNode node).map g :=
  find?_map_at hg node s.ring.nodes

theorem setEnd_nodes (r : Ring) (d : RingEnd) (x : EndState) : (r.setEnd d x).nodes = r.nodes := by
  cases d <;> rfl

theorem echoCheck_bus (node : Nat) (applied commanded : CellMask) (s : State) :
    (echoCheck node applied commanded s).bus = s.bus := by
  unfold echoCheck
  dsimp only
  split
  · rfl
  · split
    · rfl
    · split
      · rfl
      · split
        · exact (handMask_bus _ _).trans rfl
        · rfl

theorem takeEcho_bus (e : SlotEntry) (applied : CellMask) (s : State) :
    (takeEcho e applied s).bus = s.bus := by
  unfold takeEcho
  dsimp only
  split
  · rw [echoCheck_bus]
    exact mapRingNode_bus (g := (·.echo applied)) e.node (fun _ => rfl) s
  · rfl

/-- The state once an accepted sample reply has marked its node and its end (R12, R16, R18). -/
def State.replied (s : State) (d : RingEnd) (f : SampleFrame) (e : SlotEntry) : State :=
  let s2 := takeEcho e f.applied
    (setExpectation d none (mapRingNode e.node RingNode.answered s))
  if f.eventPending then pollLater e.node s2 else s2

theorem acceptSample_eq (d : RingEnd) (f : SampleFrame) (e : SlotEntry) (s : State) :
    acceptSample d f e s = takeOutcome e (outcomeOf s e f) .online (s.replied d f e) := rfl

theorem receiveSample_accepted {d : RingEnd} {f : SampleFrame} {e : SlotEntry}
    (herr : s.sampleError d f = none) (he : s.entryOf f.node = some e) :
    receiveSample d f s = acceptSample d f e s := by
  simp only [receiveSample, herr, he]

theorem replied_outside (d : RingEnd) (f : SampleFrame) (e : SlotEntry) (s : State) :
    s.sameBut (s.replied d f e) [.ring, .balance] := by
  unfold State.replied
  dsimp only
  split <;> simp [sameBut_refl]

theorem replied_ring {f : SampleFrame} {e : SlotEntry} {n : RingNode}
    (hn : s.ringNode e.node = some n) (d : RingEnd) :
    ((s.replied d f e).ring.endOf d).expectation = none ∧
      (s.replied d f e).ring.pollList =
        (if f.eventPending ∧ e.node ∉ s.ring.pollList then s.ring.pollList ++ [e.node]
          else s.ring.pollList) ∧
      ∃ m, (s.replied d f e).ringNode e.node = some m ∧ m.linkPart = n.answered.linkPart := by
  have hbus := takeEcho_bus e f.applied
    (setExpectation d none (mapRingNode e.node RingNode.answered s))
  have hend := bus_endOf hbus d
  have hpoll := bus_pollList hbus
  have hmapped : (setExpectation d none (mapRingNode e.node RingNode.answered s)).ringNode e.node =
      some n.answered := by
    have := ringNode_mapRingNode (node := e.node) (g := RingNode.answered) (fun _ => rfl) s
    rw [hn] at this
    unfold setExpectation State.ringNode
    rw [State.withRing_ring, setEnd_nodes]
    exact this
  obtain ⟨m, hm, hpart⟩ := bus_ringNode hbus hmapped
  have hexpect : ((takeEcho e f.applied (setExpectation d none
      (mapRingNode e.node RingNode.answered s))).ring.endOf d).expectation = none := by
    rw [hend]
    unfold setExpectation
    rw [State.withRing_ring, setEnd_endOf]
  have hlist : (takeEcho e f.applied (setExpectation d none
      (mapRingNode e.node RingNode.answered s))).ring.pollList = s.ring.pollList := by
    rw [hpoll]
    unfold setExpectation
    rw [State.withRing_ring, setEnd_pollList]
    rfl
  unfold State.replied
  dsimp only
  generalize takeEcho e f.applied _ = x at hm hexpect hlist ⊢
  by_cases hp : f.eventPending = true
  · rw [if_pos hp, pollLater_eq]
    refine ⟨?_, ?_, m, hm, hpart⟩
    · cases d <;> exact hexpect
    · show (if e.node ∈ x.ring.pollList then x.ring.pollList else x.ring.pollList ++ [e.node]) = _
      rw [hlist]
      by_cases hmem : e.node ∈ s.ring.pollList <;> simp [hmem, hp]
  · rw [if_neg hp]
    exact ⟨hexpect, by simp [hp, hlist], m, hm, hpart⟩

/-- A reply of a node without a fault hands its codes, of a faulted one none (R25). -/
theorem outcomeOf_sound {f : SampleFrame} (h : f.nodeFault = false) (e : SlotEntry) (s : State) :
    outcomeOf s e f = .sample ((e.replyChannels s.ring.cycle).zip f.codes) s.now := by
  simp only [outcomeOf, h]
  rfl

theorem outcomeOf_faulted {f : SampleFrame} (h : f.nodeFault = true) (e : SlotEntry) (s : State) :
    outcomeOf s e f = .servedFaulted := if_pos h

theorem acceptSample_filed {d : RingEnd} {f : SampleFrame} {e : SlotEntry} {y : SampleNode}
    (hy : s.sampleNode e.node = some y) (hs : 1 ≤ s.staleThreshold) (hf : f.nodeFault = false)
    (hy' : y.faulted = false) : (acceptSample d f e s).samples.records =
      (fileCodes e s.now ((e.replyChannels s.ring.cycle).zip f.codes) s).samples.records := by
  have hout := replied_outside d f e s
  have hsamples := sameBut_samples hout (by simp)
  rw [acceptSample_eq, outcomeOf_sound hf]
  exact takeOutcome_filed
    ⟨congrArg (·.records) hsamples, sameBut_tables hout (by simp), senseOpen_nodes (congrArg (·.nodes) hsamples)⟩
    ((congrFun (sampleNode_congr hsamples) _).trans hy) hy' hs _ _

theorem acceptSample_faulted {d : RingEnd} {f : SampleFrame} {e : SlotEntry} {y : SampleNode}
    (hy : s.sampleNode e.node = some y) (hf : f.nodeFault = true ∨ y.faulted = true) :
    (acceptSample d f e s).samples.records = staleRecords e.node
      (s.staleThreshold ≤ min 255 (y.emptySlots + 1)) s.samples.records := by
  have hout := replied_outside d f e s
  have hsamples := sameBut_samples hout (by simp)
  have hempty : takeCodes e (outcomeOf s e f) (s.replied d f e) = emptySlot e (s.replied d f e) := by
    cases hflag : f.nodeFault with
    | true => rw [outcomeOf_faulted hflag]; rfl
    | false =>
      rw [outcomeOf_sound hflag]
      exact takeCodes_faulted ((congrFun (sampleNode_congr hsamples) _).trans hy)
        (hf.resolve_left (by simp [hflag])) _ _
  rw [acceptSample_eq, takeOutcome_empty hsamples (sameBut_tables hout (by simp)) hy hempty]
  simp only [reduceCtorEq, false_or]

/-! ### One code (R30) -/

theorem record_mapRecord_at {node channel : Nat} {f : Record → Record}
    (hf : ∀ r, (f r).node = node ∧ (f r).channel = channel) (s : State) :
    (mapRecord node channel f s).record node channel = (s.record node channel).map f := by
  simp only [State.record, mapRecord, State.withSamples_samples]
  induction s.samples.records with
  | nil => rfl
  | cons r rs ih =>
    obtain ⟨hnode, hchannel⟩ := hf r
    by_cases hr : r.node = node ∧ r.channel = channel
    · simp [hr, hnode, hchannel]
    · simpa [hr] using ih

theorem record_mapRecord_ne {node channel : Nat} {f : Record → Record}
    (hf : ∀ r, (f r).node = node ∧ (f r).channel = channel ∨
      (f r).node = r.node ∧ (f r).channel = r.channel) {k c : Nat} (hk : k ≠ node ∨ c ≠ channel)
    (s : State) : (mapRecord node channel f s).record k c = s.record k c := by
  simp only [State.record, mapRecord, State.withSamples_samples]
  induction s.samples.records with
  | nil => rfl
  | cons r rs ih =>
    by_cases hr : r.node = node ∧ r.channel = channel
    · have hother : ¬ (node = k ∧ channel = c) := by
        rintro ⟨rfl, rfl⟩
        rcases hk with h | h <;> exact h rfl
      have hmapped : (f r).node = node ∧ (f r).channel = channel := by
        rcases hf r with h | h
        · exact h
        · exact ⟨h.1.trans hr.1, h.2.trans hr.2⟩
      simpa [hr, hmapped, hother] using ih
    · rw [List.map_cons, if_neg (by simpa using hr)]
      by_cases hkey : r.node = k ∧ r.channel = c
      · rw [List.find?_cons_of_pos (by simpa using hkey),
          List.find?_cons_of_pos (by simpa using hkey)]
      · rw [List.find?_cons_of_neg (by simpa using hkey),
          List.find?_cons_of_neg (by simpa using hkey)]
        exact ih

end Sys2Proof.Machine

namespace Sys2Proof.Machine

variable {s t : State}

theorem fileCode_open {e : SlotEntry} {channel : Nat} {code : Code} {v : Int} {range : Bool}
    (hc : s.convert e channel code = .value v range) (ho : s.senseOpen e.node channel = true)
    (stamp : PartTime) : fileCode e stamp channel code s = s := by
  unfold fileCode
  split
  · rfl
  · simp only [hc, ho, if_true]

theorem fileCode_value {e : SlotEntry} {channel : Nat} {code : Code} {v : Int} {range : Bool}
    {r : Record} (hr : s.record e.node channel = some r)
    (hc : s.convert e channel code = .value v range) (ho : s.senseOpen e.node channel = false)
    (stamp : PartTime) : fileCode e stamp channel code s = fileValue r v range stamp s := by
  simp only [fileCode, hr, hc, ho, Bool.false_eq_true, if_false]

theorem fileValue_record (r : Record) (v : Int) (range : Bool) (stamp : PartTime) (s : State) :
    (fileValue r v range stamp s).record = (mapRecord r.node r.channel
      (fun _ => r.filed (s.limitSetOf r) v range stamp) s).record := by
  rw [fileValue_eq, record_congr (announceSides_samples _ _ _)]
  funext node channel
  exact refreshBlindOf_record _ _ _ _

theorem invalidate_record (r : Record) (s : State) : (invalidate r s).record =
    (mapRecord r.node r.channel ({ · with quality := .invalid }) s).record := by
  funext node channel
  exact refreshBlindOf_record _ _ _ _

/-- A filed record written out (R30). -/
theorem filed_eq (set : Option LimitSet) (r : Record) (v : Int) (range : Bool) (stamp : PartTime) :
    r.filed set v range stamp =
      { r with
        value := some v
        stamp := some stamp
        quality := if range then .range else .fresh
        minimum := some (r.minimum.elim v (min · v))
        maximum := some (r.maximum.elim v (max · v))
        high := set.elim r.high fun l => r.high.map (·.judge l r.kind.highSide v)
        low := set.elim r.low fun l => r.low.map (·.judge l r.kind.lowSide v) } := by
  obtain ⟨rack, node, channel, kind, value, st, quality, minimum, maximum, high, low⟩ := r
  cases set <;> cases minimum <;> cases maximum <;> rfl

theorem fileValue_self {r : Record} {node channel : Nat} (hr : s.record node channel = some r)
    (v : Int) (range : Bool) (stamp : PartTime) :
    (fileValue r v range stamp s).record node channel =
      some (r.filed (s.limitSetOf r) v range stamp) := by
  obtain ⟨rfl, rfl⟩ := record_key hr
  obtain ⟨hnode, hchannel, -⟩ := filed_key (s.limitSetOf r) r v range stamp
  rw [fileValue_record, record_mapRecord_at (f := fun _ => r.filed (s.limitSetOf r) v range stamp)
    fun _ => ⟨hnode, hchannel⟩, hr]
  rfl

theorem fileCode_other {e : SlotEntry} {node channel c : Nat} (code : Code)
    (h : node ≠ e.node ∨ c ≠ channel) (stamp : PartTime) (s : State) :
    (fileCode e stamp channel code s).record node c = s.record node c := by
  unfold fileCode
  split
  · rfl
  next r hr =>
    obtain ⟨hnode, hchannel⟩ := record_key hr
    rw [← hnode, ← hchannel] at h
    split
    · rfl
    · rw [invalidate_record]
      exact record_mapRecord_ne (f := ({ · with quality := .invalid })) (fun _ => .inr ⟨rfl, rfl⟩) h s
    next v range _ =>
      split
      · rfl
      · obtain ⟨hn, hc, -⟩ := filed_key (s.limitSetOf r) r v range stamp
        rw [fileValue_record]
        exact record_mapRecord_ne (f := fun _ => r.filed (s.limitSetOf r) v range stamp)
          (fun _ => .inl ⟨hn, hc⟩) h s

theorem linkPart_eq {m n : RingNode} (h : m.linkPart = n.linkPart) :
    m.side = n.side ∧ m.miss = n.miss ∧ m.sideMiss = n.sideMiss ∧ m.link = n.link ∧
      m.heard = n.heard :=
  ⟨(congrArg RingNode.side h : m.linkPart.side = n.linkPart.side),
    (congrArg RingNode.miss h : m.linkPart.miss = n.linkPart.miss),
    (congrArg RingNode.sideMiss h : m.linkPart.sideMiss = n.linkPart.sideMiss),
    (congrArg RingNode.link h : m.linkPart.link = n.linkPart.link),
    (congrArg RingNode.heard h : m.linkPart.heard = n.linkPart.heard)⟩

/-- Settles O22. -/
theorem acceptedReplyMarksNode : Obligations.AcceptedReplyMarksNode := by
  unfold Obligations.AcceptedReplyMarksNode
  refine ⟨fun d f e n s herr he hn => ?_, fun e stamp channel code r s hr => ?_⟩
  case refine_1 =>
    have hnode : e.node = f.node := entryOf_node he
    obtain ⟨hexpect, hpoll, m, hm, hpart⟩ := replied_ring (f := f) hn d
    have hbus : (arbitrate (settle (acceptSample d f e s))).bus = (s.replied d f e).bus := by
      rw [concluded_bus, acceptSample_eq, takeOutcome_bus]
    obtain ⟨k, hk, hkpart⟩ := bus_ringNode hbus hm
    obtain ⟨hside, hmiss, hsideMiss, hlink, hheard⟩ := linkPart_eq (hkpart.trans hpart)
    refine ⟨_, k, by rw [exec_sampleReply, receiveSample_accepted herr he], hk, hmiss, hsideMiss,
      hlink, hheard, hside, ?_, ?_, fun y hy hs => ⟨fun hf hy' => ?_, fun hf => ?_⟩⟩
    · rw [bus_endOf hbus]
      exact hexpect
    · rw [bus_pollList hbus, hpoll, hnode]
    · rw [arbitrate_samples, settle_samples]
      exact acceptSample_filed hy hs hf hy'
    · rw [arbitrate_samples, settle_samples]
      exact acceptSample_faulted hy hf
  case refine_2 =>
    refine ⟨fun v range hc => ⟨fun ho => fileCode_open hc ho stamp, fun ho => ?_⟩, fun hc => ?_,
      fun node c h => fileCode_other code h stamp s⟩
    · rw [fileCode_value hr hc ho, fileValue_self hr, filed_eq]
      rfl
    · rw [fileCode_of_convert_invalid stamp hr hc]
      exact record_invalidate hr

end Sys2Proof.Machine

namespace Sys2Proof.Machine

variable {s t : State}

/-! ## A slot that ends (R15 to R17) -/

theorem setPhase_bus (p : Phase) (h : t.bus = s.bus) : (setPhase p t).bus = (setPhase p s).bus :=
  congrArg (fun x : Ring => { x with phase := p }) h

/-- The state once a missed slot has been marked at its end and at its node (R13, R15 to R17). -/
def State.missedBy (s : State) (e : SlotEntry) : State :=
  mapRingNode e.node (·.missed e.sidePolicy s.staleThreshold) (markEnded (s.sideOf e.node) s)

/-- The link state of a node, ONLINE for one the ring does not know (R16). -/
def State.linkAt (s : State) (node : Nat) : LinkState :=
  match s.ringNode node with
  | some n => n.link
  | none => .online

theorem takeMiss_eq (e : SlotEntry) (s : State) : takeMiss e s =
    takeOutcome e .miss ((s.missedBy e).linkAt e.node) (s.missedBy e) := rfl

theorem missedBy_outside (e : SlotEntry) (s : State) : s.sameBut (s.missedBy e) [.ring] := by
  unfold State.missedBy
  simp [sameBut_refl]

theorem missedBy_node {e : SlotEntry} {n : RingNode} (hn : s.ringNode e.node = some n) :
    (s.missedBy e).ringNode e.node = some (n.missed e.sidePolicy s.staleThreshold) := by
  have hmarked : (markEnded (s.sideOf e.node) s).ringNode e.node = some n := by
    unfold markEnded setExpectation State.ringNode
    rw [State.withRing_ring, setEnd_nodes]
    exact hn
  exact (ringNode_mapRingNode (g := (·.missed e.sidePolicy s.staleThreshold)) (fun _ => rfl)
    (markEnded (s.sideOf e.node) s)).trans (by rw [hmarked]; rfl)

theorem mapRingNode_endOf (node : Nat) (g : RingNode → RingNode) (s : State) (d : RingEnd) :
    (mapRingNode node g s).ring.endOf d = s.ring.endOf d := by
  cases d <;> rfl

theorem missedBy_endOf (e : SlotEntry) (s : State) :
    ((s.missedBy e).ring.endOf (s.sideOf e.node)).expectation =
      (s.ring.endOf (s.sideOf e.node)).expectation.map ({ · with ended := true }) := by
  unfold State.missedBy
  rw [mapRingNode_endOf, markEnded, setExpectation, State.withRing_ring, setEnd_endOf]

theorem linkAt_of {node : Nat} {n : RingNode} (h : s.ringNode node = some n) :
    s.linkAt node = n.link := by
  unfold State.linkAt
  rw [h]

/-- What a miss makes of a node (R15, R16, R17). -/
theorem missed_spec (n : RingNode) (policy : SidePolicy) (threshold : Nat) :
    (n.missed policy threshold).miss = (if n.miss < 255 then n.miss + 1 else 255) ∧
      (n.missed policy threshold).link =
        (if (n.missed policy threshold).miss < threshold then .retrying else .stale) ∧
      (n.missed policy threshold).heard = n.heard ∧
      (policy = .auto ∧ 1 ≤ n.sideMiss → (n.missed policy threshold).side = otherEnd n.side ∧
        (n.missed policy threshold).sideMiss = 0) ∧
      (¬ (policy = .auto ∧ 1 ≤ n.sideMiss) → (n.missed policy threshold).side = n.side ∧
        (n.missed policy threshold).sideMiss = if n.sideMiss < 2 then n.sideMiss + 1 else 2) := by
  have hmiss : (n.missed policy threshold).miss = if n.miss < 255 then n.miss + 1 else 255 := by
    show countUp 255 n.miss = _
    rw [countUp_eq_min]
    split <;> omega
  have hside : countUp 2 n.sideMiss = if n.sideMiss < 2 then n.sideMiss + 1 else 2 := by
    rw [countUp_eq_min]
    split <;> omega
  have hmoves : (policy = .auto && decide (countUp 2 n.sideMiss = 2)) = true ↔
      policy = .auto ∧ 1 ≤ n.sideMiss := by
    rw [Bool.and_eq_true, decide_eq_true_eq, decide_eq_true_eq, countUp_eq_min]
    refine and_congr_right fun _ => ?_
    omega
  refine ⟨hmiss, ?_, rfl, fun h => ?_, fun h => ?_⟩
  · have hpos : (n.missed policy threshold).miss ≠ 0 := by
      rw [hmiss]
      split <;> omega
    exact if_neg hpos
  · exact ⟨if_pos (hmoves.2 h), if_pos (hmoves.2 h)⟩
  · exact ⟨if_neg (mt hmoves.1 h), (if_neg (mt hmoves.1 h)).trans hside⟩

theorem endSlot_answered {k : Nat} {e : SlotEntry} (hp : s.ring.phase = .slot k)
    (he : s.entries[k]? = some e) (h : s.unanswered (s.sideOf e.node) e.node = false) :
    endSlot s = setPhase (phaseAfter (k + 1) s.entries.length) s := by
  simp [endSlot, presentSlot_eq hp he, h]

theorem endSlot_unanswered {k : Nat} {e : SlotEntry} (hp : s.ring.phase = .slot k)
    (he : s.entries[k]? = some e) (h : s.unanswered (s.sideOf e.node) e.node = true) :
    endSlot s =
      setPhase (phaseAfter (k + 1) (takeMiss e s).entries.length) (takeMiss e s) := by
  simp [endSlot, presentSlot_eq hp he, h]

theorem exec_pollSlotEnd_of {k : Nat} {e : SlotEntry} (hp : s.ring.phase = .slot k)
    (he : s.entries[k]? = some e) :
    exec .pollSlotEnd s = .next (arbitrate (settle (endSlot s))) := by
  rw [exec_pollSlotEnd, moveWhen_of (by simp [presentSlot_eq hp he])]

theorem takeMiss_records {e : SlotEntry} {y : SampleNode} (hy : s.sampleNode e.node = some y) :
    (takeMiss e s).samples.records = staleRecords e.node
      ((s.missedBy e).linkAt e.node = .stale ∨ s.staleThreshold ≤ min 255 (y.emptySlots + 1))
      s.samples.records :=
  takeOutcome_empty (sameBut_samples (missedBy_outside e s) (by simp))
    (sameBut_tables (missedBy_outside e s) (by simp)) hy (takeCodes_miss e _)

/-- Settles O23. -/
theorem slotEndTakesMiss : Obligations.SlotEndTakesMiss := by
  unfold Obligations.SlotEndTakesMiss
  intro s k e n hp he hn
  have hexec := exec_pollSlotEnd_of hp he
  rw [← sideOf_eq hn]
  refine ⟨fun h => ?_, fun h => ?_⟩
  · rw [endSlot_unanswered hp he h] at hexec
    generalize phaseAfter _ _ = p at hexec
    have hbus : (arbitrate (settle (setPhase p (takeMiss e s)))).bus =
        (setPhase p (s.missedBy e)).bus := by
      rw [concluded_bus]
      exact setPhase_bus p (by rw [takeMiss_eq, takeOutcome_bus])
    obtain ⟨m, hm, hpart⟩ := bus_ringNode (node := e.node) hbus (missedBy_node hn)
    obtain ⟨hside, hmiss, hsideMiss, hlink, hheard⟩ := linkPart_eq hpart
    obtain ⟨smiss, slink, sheard, smoves, sstays⟩ :=
      missed_spec n e.sidePolicy s.staleThreshold
    refine ⟨_, m, hexec, hm, hmiss.trans smiss, by rw [hlink, hmiss]; exact slink,
      hheard.trans sheard, fun hm => ?_, fun hm => ?_, ?_, fun y hy => ?_⟩
    · obtain ⟨h1, h2⟩ := smoves hm
      exact ⟨hside.trans (h1.trans (by rw [sideOf_eq hn])), hsideMiss.trans h2⟩
    · obtain ⟨h1, h2⟩ := sstays hm
      exact ⟨hside.trans (h1.trans (sideOf_eq hn).symm), hsideMiss.trans h2⟩
    · rw [bus_endOf hbus]
      have hphase : (setPhase p (s.missedBy e)).ring.endOf (s.sideOf e.node) =
          (s.missedBy e).ring.endOf (s.sideOf e.node) := by
        cases s.sideOf e.node <;> rfl
      rw [hphase]
      exact missedBy_endOf e s
    · rw [arbitrate_samples, settle_samples]
      have hrecords := takeMiss_records hy
      rw [linkAt_of (missedBy_node hn), ← hlink] at hrecords
      exact hrecords
  · rw [hexec, endSlot_answered hp he h]
    rfl

end Sys2Proof.Machine

namespace Sys2Proof.Machine

variable {s t : State}

/-! ## The aggregates of a rack (R40) -/

/-- A record that gives a fresh value. -/
def Record.gives (r : Record) : Bool :=
  decide ((r.quality = .fresh ∨ r.quality = .range) ∧ r.value.isSome)

theorem freshValue_of_gives {r : Record} (h : r.gives = true) : r.freshValue = r.value := by
  rw [Record.gives, decide_eq_true_eq] at h
  exact if_pos ((isFresh_iff _).2 h.1)

theorem freshValue_of_not_gives {r : Record} (h : r.gives = false) : r.freshValue = none := by
  rw [Record.gives, decide_eq_false_iff_not, ← isFresh_iff, not_and] at h
  unfold Record.freshValue
  split
  next hf =>
    cases hv : r.value with
    | none => rfl
    | some v => exact absurd (by rw [hv]; rfl) (h hf)
  next => rfl

theorem value_of_gives {r : Record} (h : r.gives = true) : ∃ v, r.value = some v := by
  rw [Record.gives, decide_eq_true_eq] at h
  exact Option.isSome_iff_exists.1 h.2

theorem filterMap_freshValue (rs : List Record) :
    rs.filterMap Record.freshValue = (rs.filter Record.gives).filterMap (·.value) := by
  rw [List.filterMap_filter]
  refine List.filterMap_congr fun r _ => ?_
  cases h : r.gives with
  | true => simp only [if_true, freshValue_of_gives h]
  | false => simp only [Bool.false_eq_true, if_false, freshValue_of_not_gives h]

/-- A channel found among records: the first of them at which no other is beyond it. -/
structure FirstOf (worse : Int → Int → Prop) (found : Option AtChannel) (xs : List Record) :
    Prop where
  absent : found = none ↔ xs = []
  first : ∀ m, found = some m → ∃ before x after, xs = before ++ x :: after ∧
    x.node = m.node ∧ x.channel = m.channel ∧ x.value = some m.value ∧
    (∀ y ∈ before, ∀ v, y.value = some v → worse v m.value ∧ v ≠ m.value) ∧
    (∀ y ∈ after, ∀ v, y.value = some v → worse v m.value)

/-- An order of values and the test of a better one that picks its first extreme. -/
structure Extremal (worse : Int → Int → Prop) (better : Int → Int → Bool) : Prop where
  refl : ∀ v, worse v v
  keeps : ∀ v b, better v b = false → worse v b
  beats : ∀ w v b, worse w b → better v b = true → worse w v ∧ w ≠ v

theorem extremal_max : Extremal (· ≤ ·) (fun a b => decide (b < a)) where
  refl := le_refl
  keeps v b h := by simpa using h
  beats w v b hw h := by
    have := of_decide_eq_true h
    omega

theorem extremal_min : Extremal (· ≥ ·) (fun a b => decide (a < b)) where
  refl := le_refl
  keeps v b h := by simpa using h
  beats w v b hw h := by
    have := of_decide_eq_true h
    omega

section
variable {worse : Int → Int → Prop} {better : Int → Int → Bool}

/-- What one more record makes of the extreme found. -/
def betterOf (better : Int → Int → Bool) (best : Option AtChannel) (r : Record) :
    Option AtChannel :=
  match r.freshValue, best with
  | some v, some b => if better v b.value then some ⟨v, r.node, r.channel⟩ else some b
  | some v, none => some ⟨v, r.node, r.channel⟩
  | none, b => b

theorem extreme_append (rs : List Record) (r : Record) :
    extreme better (rs ++ [r]) = betterOf better (extreme better rs) r := by
  unfold extreme
  rw [List.foldl_append]
  rfl

theorem firstOf_last {xs : List Record} {r : Record} {v : Int} (hv : r.value = some v)
    (h : ∀ y ∈ xs, ∀ w, y.value = some w → worse w v ∧ w ≠ v) :
    FirstOf worse (some ⟨v, r.node, r.channel⟩) (xs ++ [r]) where
  absent := by simp
  first m hm := by
    obtain rfl := Option.some.inj hm
    exact ⟨xs, r, [], rfl, rfl, rfl, hv, h, fun y hy => by cases hy⟩

theorem FirstOf.step (hx : Extremal worse better) {best : Option AtChannel} {xs : List Record}
    (h : FirstOf worse best xs) {r : Record} {v : Int} (hr : r.freshValue = some v)
    (hv : r.value = some v) : FirstOf worse (betterOf better best r) (xs ++ [r]) := by
  cases best with
  | none =>
    have hb : betterOf better none r = some ⟨v, r.node, r.channel⟩ := by simp only [betterOf, hr]
    rw [hb, h.absent.1 rfl]
    exact firstOf_last hv fun y hy => by cases hy
  | some b =>
    have hb : betterOf better (some b) r =
        if better v b.value then some ⟨v, r.node, r.channel⟩ else some b := by
      simp only [betterOf, hr]
    obtain ⟨before, x, after, rfl, hnode, hchannel, hvalue, hbefore, hafter⟩ := h.first b rfl
    rw [hb]
    cases hbet : better v b.value with
    | true =>
      refine firstOf_last hv fun y hy w hw => hx.beats w v b.value ?_ hbet
      rcases List.mem_append.1 hy with hy | hy
      · exact (hbefore y hy w hw).1
      · rcases List.mem_cons.1 hy with rfl | hy
        · obtain rfl := Option.some.inj (hvalue.symm.trans hw)
          exact hx.refl _
        · exact hafter y hy w hw
    | false =>
      refine ⟨by simp, fun m hm => ?_⟩
      obtain rfl := Option.some.inj hm
      refine ⟨before, x, after ++ [r], by simp, hnode, hchannel, hvalue, hbefore, fun y hy w hw => ?_⟩
      rcases List.mem_append.1 hy with hy | hy
      · exact hafter y hy w hw
      · obtain rfl := List.mem_singleton.1 hy
        obtain rfl := Option.some.inj (hv.symm.trans hw)
        exact hx.keeps _ _ hbet

/-- The extreme of records is the first of those that give the value beyond which none is. -/
theorem extreme_firstOf (hx : Extremal worse better) (rs : List Record) :
    FirstOf worse (extreme better rs) (rs.filter Record.gives) := by
  induction rs using List.reverseRecOn with
  | nil => exact ⟨by simp [extreme], fun m hm => by cases hm⟩
  | append_singleton rs r ih =>
    rw [extreme_append, List.filter_append]
    cases hg : r.gives with
    | true =>
      obtain ⟨v, hv⟩ := value_of_gives hg
      rw [List.filter_cons_of_pos hg, List.filter_nil]
      exact ih.step hx ((freshValue_of_gives hg).trans hv) hv
    | false =>
      have hb : betterOf better (extreme better rs) r = extreme better rs := by
        simp only [betterOf, freshValue_of_not_gives hg]
      rw [List.filter_cons_of_neg (by simp [hg]), List.filter_nil, List.append_nil, hb]
      exact ih

end

/-- The records of a rack of a kind that give a value, in one test. -/
theorem filter_gives (rs : List Record) (k : RecordKind) :
    (rs.filter fun x => x.kind = k).filter Record.gives = rs.filter fun x =>
      decide (x.kind = k ∧ (x.quality = .fresh ∨ x.quality = .range) ∧ x.value.isSome) := by
  rw [List.filter_filter]
  refine List.filter_congr fun x _ => ?_
  rw [Record.gives, ← Bool.decide_and]
  exact decide_eq_decide.2 ⟨fun ⟨h, hk⟩ => ⟨hk, h⟩, fun ⟨hk, h⟩ => ⟨h, hk⟩⟩

/-! ## BLIND and MISMATCH (R41, R42) -/

theorem refreshBlind_self (r : Rack) (s : State) : (refreshBlind r s).samples.racks.get r =
    { s.samples.racks.get r with
      blind := s.blindCondition r
      blindTimer := if s.blindCondition r = (s.samples.racks.get r).blind
        then (s.samples.racks.get r).blindTimer
        else if s.blindCondition r && s.rackEnabled r then .running s.now else .stopped } := by
  unfold refreshBlind
  dsimp only
  by_cases h : s.blindCondition r = (s.samples.racks.get r).blind
  · rw [if_pos h, if_pos h, h]
  · rw [if_neg h, if_neg h]
    exact PerRack.get_set_self _ _ _

theorem blindCondition_iff (s : State) (r : Rack) : s.blindCondition r = true ↔
    (∃ c ∈ s.samples.records, c.rack = some r ∧ (c.quality = .stale ∨ c.quality = .invalid)) ∨
      (∃ j, s.junctionOf r = some j ∧ s.nodeStale j.node = true) ∨
      (s.samples.racks.get r).mismatch = true := by
  have hrecords : ((s.rackRecords r).any fun x => !x.quality.isFresh) = true ↔
      ∃ c ∈ s.samples.records, c.rack = some r ∧ (c.quality = .stale ∨ c.quality = .invalid) := by
    simp only [List.any_eq_true, State.rackRecords, List.mem_filter, decide_eq_true_eq, and_assoc]
    refine exists_congr fun c => and_congr_right fun _ => and_congr_right fun _ => ?_
    cases c.quality <;> simp [Quality.isFresh]
  rw [State.blindCondition, Bool.or_eq_true, Bool.or_eq_true, hrecords, or_assoc]
  refine or_congr_right (or_congr_left ?_)
  cases s.junctionOf r <;> simp

theorem blindCondition_congr {r : Rack} (hr : t.samples.records = s.samples.records)
    (hn : t.samples.nodes = s.samples.nodes) (hj : t.junctionOf r = s.junctionOf r)
    (hm : (t.samples.racks.get r).mismatch = (s.samples.racks.get r).mismatch) :
    t.blindCondition r = s.blindCondition r := by
  have hstale : t.nodeStale = s.nodeStale := by
    funext node
    unfold State.nodeStale State.sampleNode
    rw [hn]
  unfold State.blindCondition State.rackRecords
  rw [hr, hj, hm, hstale]

theorem compare_spec (x : RackSamples) (above : Bool) :
    (x.compare above).beyondRun = (if above = true then min 3 (x.beyondRun + 1) else 0) ∧
      (x.compare above).withinRun = (if above = true then 0 else min 3 (x.withinRun + 1)) ∧
      (x.compare above).mismatch = (if (x.compare above).beyondRun = 3 then true
        else if (x.compare above).withinRun = 3 then false else x.mismatch) := by
  cases above <;> simp [RackSamples.compare, countUp_eq_min]

theorem checkMismatch_unjudged {r : Rack} (h : s.rackConfig r = none ∨ s.mismatchDifference r = none) :
    checkMismatch r s = s := by
  unfold checkMismatch
  split
  next e d he hd => rcases h with h | h <;> simp_all
  next => rfl

theorem checkMismatch_judged {r : Rack} {e : RackEntry} {d : Nat} (he : s.rackConfig r = some e)
    (hd : s.mismatchDifference r = some d) : checkMismatch r s = refreshBlind r
      (s.setRackSamples r ((s.samples.racks.get r).compare (decide (e.mismatchLimit < d)))) := by
  simp only [checkMismatch, he, hd]

theorem mismatchDifference_eq {r : Rack} {j : SlotEntry} {v : Record} {w sum : Int}
    (hj : s.junctionOf r = some j) (hv : s.record j.node 1 = some v) (hw : v.value = some w)
    (hsum : (s.samples.racks.get r).aggregates.vsum = some sum) :
    s.mismatchDifference r =
      if (v.quality = .fresh ∨ v.quality = .range) ∧ ∀ x ∈ s.samples.records,
          x.rack = some r → x.kind = .cellVoltage → x.quality = .fresh ∨ x.quality = .range
      then some (Int.fdiv sum 100 - w).natAbs else none := by
  have hall : (((s.rackRecords r).filter fun x => x.kind = .cellVoltage).all
      fun x => x.quality.isFresh) = true ↔ ∀ x ∈ s.samples.records,
        x.rack = some r → x.kind = .cellVoltage → x.quality = .fresh ∨ x.quality = .range := by
    simp only [List.all_eq_true, State.rackRecords, List.mem_filter, decide_eq_true_eq, isFresh_iff,
      and_imp]
  have hvalue : ((s.junctionOf r).bind fun e => (s.record e.node 1).bind Record.freshValue) =
      if v.quality = .fresh ∨ v.quality = .range then some w else none := by
    rw [hj, Option.bind_some, hv, Option.bind_some, Record.freshValue, hw]
    simp only [isFresh_iff]
  unfold State.mismatchDifference
  dsimp only
  rw [hvalue, hsum]
  by_cases hf : v.quality = .fresh ∨ v.quality = .range
  · by_cases ha : ∀ x ∈ s.samples.records,
        x.rack = some r → x.kind = .cellVoltage → x.quality = .fresh ∨ x.quality = .range
    · rw [if_pos (hall.2 ha), if_pos hf, if_pos ⟨hf, ha⟩, ← floorDiv_eq_fdiv _ (by decide)]
    · rw [if_neg (mt hall.1 ha)]
      exact (if_neg fun h => ha h.2).symm
  · rw [if_neg hf]
    refine Eq.trans ?_ (if_neg fun h => hf h.1).symm
    split <;> rfl

theorem mismatchDifference_congr {r : Rack} (hr : t.samples.records = s.samples.records)
    (hj : t.junctionOf r = s.junctionOf r)
    (ha : (t.samples.racks.get r).aggregates = (s.samples.racks.get r).aggregates) :
    t.mismatchDifference r = s.mismatchDifference r := by
  have hrec : t.record = s.record := by
    funext node channel
    unfold State.record
    rw [hr]
  unfold State.mismatchDifference State.rackRecords
  rw [hr, hj, ha, hrec]

theorem aggregatesOf_congr {r : Rack} (hr : t.samples.records = s.samples.records)
    (hj : t.junctionOf r = s.junctionOf r) : t.aggregatesOf r = s.aggregatesOf r := by
  have hread : t.reading r = s.reading r := by
    funext channel
    unfold State.reading State.record
    rw [hr, hj]
  unfold State.aggregatesOf State.rackRecords
  rw [hr, hread]

end Sys2Proof.Machine

namespace Sys2Proof.Machine

variable {s t : State}

/-! ## The rack set complete (R39) -/

theorem junctionOf_slot (h : t.table .slot = s.table .slot) : t.junctionOf = s.junctionOf := by
  funext r
  unfold State.junctionOf State.entries
  rw [h]

theorem junctionOf_congr (h : t.tables = s.tables) : t.junctionOf = s.junctionOf :=
  junctionOf_slot (table_congr h _)

theorem rackConfig_rack (h : t.table .rack = s.table .rack) : t.rackConfig = s.rackConfig := by
  funext r
  unfold State.rackConfig State.rackEntry
  rw [h]

/-- The MISMATCH runs and flag (R41). -/
def RackSamples.tally (x : RackSamples) : Nat × Nat × Bool := (x.beyondRun, x.withinRun, x.mismatch)

theorem refreshBlindOf_tally (o : Option Rack) (k : Rack) (s : State) :
    ((refreshBlindOf o s).samples.racks.get k).tally = (s.samples.racks.get k).tally := by
  cases o with
  | none => rfl
  | some r =>
    by_cases hk : k = r
    · subst hk
      show ((refreshBlind k s).samples.racks.get k).tally = _
      rw [refreshBlind_self]
      rfl
    · unfold refreshBlindOf refreshBlind
      dsimp only
      split
      · rfl
      · exact congrArg RackSamples.tally (PerRack.get_set_ne _ _ hk)

theorem fileCode_tally (k : Rack) (e : SlotEntry) (stamp : PartTime) (channel : Nat) (code : Code)
    (s : State) : ((fileCode e stamp channel code s).samples.racks.get k).tally =
      (s.samples.racks.get k).tally := by
  rcases fileCode_samples e stamp channel code s with h | ⟨o, g, h⟩
  · rw [h]
  · rw [h, refreshBlindOf_tally]
    rfl

theorem startFiling_tally (k : Rack) (e : SlotEntry) (s : State) :
    ((startFiling e s).samples.racks.get k).tally = (s.samples.racks.get k).tally := by
  rcases startFiling_racks e s with h | ⟨r, -, h⟩
  · rw [h]
  · rw [h, PerRack.get_set]
    split
    next hk => subst hk; rfl
    next => rfl

theorem takeCodes_tally (k : Rack) (e : SlotEntry) (o : SlotOutcome) (s : State) :
    ((takeCodes e o s).samples.racks.get k).tally = (s.samples.racks.get k).tally := by
  rcases takeCodes_cases e o s with h | h | ⟨codes, stamp, h⟩
  · rw [h]
  · rw [h]; rfl
  · rw [h, fileCodes_keeps (f := fun x => (x.samples.racks.get k).tally) e stamp
      (fun c code => fileCode_tally k e stamp c code), startFiling_tally]

theorem markStale_racks (e : SlotEntry) (stale : Bool) (s : State) :
    (markStale e stale s).samples.racks = s.samples.racks := by
  cases stale <;> rfl

theorem tracedOutcome_tally (k : Rack) (e : SlotEntry) (o : SlotOutcome) (link : LinkState)
    (s : State) : ((tracedOutcome e o link s).samples.racks.get k).tally =
      (s.samples.racks.get k).tally := by
  obtain ⟨trace, h⟩ := traceOutcome_samples e o (checkStale e link (takeCodes e o s))
  unfold tracedOutcome
  rw [h]
  show ((checkStale e link (takeCodes e o s)).samples.racks.get k).tally = _
  rw [checkStale_eq, refreshBlindOf_tally, markStale_racks, takeCodes_tally]

theorem refreshBlind_condition (r : Rack) (s : State) :
    (refreshBlind r s).blindCondition r = s.blindCondition r :=
  blindCondition_congr (refreshBlindOf_records (some r) s) (refreshBlindOf_nodes (some r) s)
    (congrFun (junctionOf_congr (sameBut_tables (A := [.samples]) (by simp [sameBut_refl])
      (by simp))) r) (congrArg (·.2.2) (refreshBlindOf_tally (some r) r s))

/-- BLIND has been worked out again once an outcome of the rack is taken (R42). -/
theorem tracedOutcome_blind {e : SlotEntry} {r : Rack} (he : e.rackOf = some r) (o : SlotOutcome)
    (link : LinkState) (s : State) :
    ((tracedOutcome e o link s).samples.racks.get r).blind =
      (tracedOutcome e o link s).blindCondition r := by
  have hchecked : ((checkStale e link (takeCodes e o s)).samples.racks.get r).blind =
      (checkStale e link (takeCodes e o s)).blindCondition r := by
    rw [checkStale_eq, he]
    show ((refreshBlind r _).samples.racks.get r).blind = (refreshBlind r _).blindCondition r
    rw [refreshBlind_condition, refreshBlind_self]
  obtain ⟨trace, h⟩ := traceOutcome_samples e o (checkStale e link (takeCodes e o s))
  have htables : (tracedOutcome e o link s).tables =
      (checkStale e link (takeCodes e o s)).tables :=
    sameBut_tables (A := [.samples, .site]) (by unfold tracedOutcome; simp [sameBut_refl]) (by simp)
  have hz : (tracedOutcome e o link s).samples =
      { (checkStale e link (takeCodes e o s)).samples with trace := trace } := h
  rw [blindCondition_congr (s := checkStale e link (takeCodes e o s)) (by rw [hz]) (by rw [hz])
    (congrFun (junctionOf_congr htables) r) (by rw [hz]), ← hchecked, hz]

/-! ### What is worked out of a complete set (R40 to R42) -/

/-- The rack with its aggregates, before MISMATCH is judged. -/
def aggregated (r : Rack) (s : State) : State :=
  s.setRackSamples r { s.samples.racks.get r with aggregates := s.aggregatesOf r }

theorem aggregated_self (r : Rack) (s : State) : (aggregated r s).samples.racks.get r =
    { s.samples.racks.get r with aggregates := s.aggregatesOf r } := PerRack.get_set_self _ _ _

theorem completedSet_self (r : Rack) (s : State) : (completedSet r s).samples.racks.get r =
    { (checkMismatch r (aggregated r s)).samples.racks.get r with hadSet := true } :=
  PerRack.get_set_self _ _ _

theorem checkMismatch_nodes (r : Rack) (s : State) :
    (checkMismatch r s).samples.nodes = s.samples.nodes := by
  unfold checkMismatch
  split
  · exact (refreshBlindOf_nodes (some r) _).trans rfl
  · rfl

theorem checkMismatch_aggregates (r : Rack) (s : State) :
    ((checkMismatch r s).samples.racks.get r).aggregates =
      (s.samples.racks.get r).aggregates := by
  unfold checkMismatch
  split
  · rw [refreshBlind_self]
    show ((s.setRackSamples r ((s.samples.racks.get r).compare _)).samples.racks.get r).aggregates = _
    exact (congrArg RackSamples.aggregates (PerRack.get_set_self _ _ _)).trans rfl
  · rfl

theorem completedSet_tables (r : Rack) (s : State) : (completedSet r s).tables = s.tables :=
  sameBut_tables (completedSet_outside r s) (by simp)

theorem completedSet_nodes (r : Rack) (s : State) :
    (completedSet r s).samples.nodes = s.samples.nodes := checkMismatch_nodes r _

theorem completedSet_aggregates (r : Rack) (s : State) :
    ((completedSet r s).samples.racks.get r).aggregates = s.aggregatesOf r := by
  rw [completedSet_self]
  show ((checkMismatch r (aggregated r s)).samples.racks.get r).aggregates = _
  rw [checkMismatch_aggregates, aggregated_self]

theorem completedSet_difference (r : Rack) (s : State) :
    (completedSet r s).mismatchDifference r = (aggregated r s).mismatchDifference r :=
  mismatchDifference_congr (completedSet_records r s)
    (congrFun (junctionOf_congr (completedSet_tables r s)) r)
    (by rw [completedSet_aggregates, aggregated_self])

/-- A set that is not judged leaves MISMATCH, and BLIND as it was worked out (R41). -/
theorem completedSet_unjudged {r : Rack} (hb : (s.samples.racks.get r).blind = s.blindCondition r)
    (h : s.rackConfig r = none ∨ (completedSet r s).mismatchDifference r = none) :
    ((completedSet r s).samples.racks.get r).tally = (s.samples.racks.get r).tally ∧
      ((completedSet r s).samples.racks.get r).blind = (completedSet r s).blindCondition r := by
  rw [completedSet_difference] at h
  have hself : (completedSet r s).samples.racks.get r =
      { s.samples.racks.get r with aggregates := s.aggregatesOf r, hadSet := true } := by
    rw [completedSet_self, checkMismatch_unjudged h, aggregated_self]
  refine ⟨by rw [hself]; rfl, ?_⟩
  rw [blindCondition_congr (completedSet_records r s) (completedSet_nodes r s)
    (congrFun (junctionOf_congr (completedSet_tables r s)) r) (by rw [hself]), ← hb, hself]

/-- A set that is judged moves MISMATCH by its difference, and BLIND with it (R41, R42). -/
theorem completedSet_judged {r : Rack} {j : RackEntry} {d : Nat} (hj : s.rackConfig r = some j)
    (h : (completedSet r s).mismatchDifference r = some d) :
    ((completedSet r s).samples.racks.get r).tally =
        ((s.samples.racks.get r).compare (decide (j.mismatchLimit < d))).tally ∧
      ((completedSet r s).samples.racks.get r).blind = (completedSet r s).blindCondition r := by
  rw [completedSet_difference] at h
  have hself := completedSet_self r s
  rw [checkMismatch_judged (s := aggregated r s) (r := r) hj h] at hself
  have hcond := congrArg RackSamples.blind hself
  have hcompared : ((aggregated r s).setRackSamples r
      (((aggregated r s).samples.racks.get r).compare (decide (j.mismatchLimit < d)))).samples.racks.get
        r = ((aggregated r s).samples.racks.get r).compare (decide (j.mismatchLimit < d)) :=
    PerRack.get_set_self _ _ _
  have htally : ((completedSet r s).samples.racks.get r).tally =
      ((s.samples.racks.get r).compare (decide (j.mismatchLimit < d))).tally := by
    rw [hself, refreshBlind_self, hcompared, aggregated_self]
    rfl
  refine ⟨htally, ?_⟩
  rw [hcond, refreshBlind_self]
  refine (blindCondition_congr (s := (aggregated r s).setRackSamples r
    (((aggregated r s).samples.racks.get r).compare (decide (j.mismatchLimit < d))))
    (completedSet_records r s) (completedSet_nodes r s)
    (congrFun (junctionOf_congr (completedSet_tables r s)) r) ?_).symm
  rw [hcompared, aggregated_self]
  exact congrArg (·.2.2) htally

theorem completedSet_blind {r : Rack} (hb : (s.samples.racks.get r).blind = s.blindCondition r) :
    ((completedSet r s).samples.racks.get r).blind = (completedSet r s).blindCondition r := by
  cases hj : s.rackConfig r with
  | none => exact (completedSet_unjudged hb (.inl hj)).2
  | some j =>
    cases hd : (completedSet r s).mismatchDifference r with
    | none => exact (completedSet_unjudged hb (.inr hd)).2
    | some d => exact (completedSet_judged hj hd).2

theorem takeOutcome_last {e : SlotEntry} {r : Rack} (he : e.rackOf = some r)
    (hlast : (s.entries.filter fun j => j.rackOf = some r).getLast? = some e) (o : SlotOutcome)
    (link : LinkState) : takeOutcome e o link s =
      postSetComplete r (completedSet r (tracedOutcome e o link s)) := by
  have hl : (tracedOutcome e o link s).lastOfRack e r = true := by
    unfold State.lastOfRack
    rw [entries_congr (tracedOutcome_tables e o link s), hlast]
    exact decide_eq_true rfl
  unfold takeOutcome
  simp only [he]
  exact if_pos hl

end Sys2Proof.Machine

namespace Sys2Proof.Machine

variable {s t : State}

/-! ## The blind timer and the sets of a rack (R39 to R42, R148) -/

theorem rackSetComplete_aggregates (r : Rack) (s : State) :
    ((rackSetComplete r s).samples.racks.get r).aggregates = s.aggregatesOf r := by
  rw [rackSetComplete_eq, sameBut_samples (postSetComplete_outside r _) (by simp),
    completedSet_aggregates]

/-- MISMATCH and its runs after a judged set (R41). -/
theorem tally_compare {x y : RackSamples} {limit d : Nat}
    (h : y.tally = (x.compare (decide (limit < d))).tally) :
    y.beyondRun = (if limit < d then min 3 (x.beyondRun + 1) else 0) ∧
      y.withinRun = (if limit < d then 0 else min 3 (x.withinRun + 1)) ∧
      y.mismatch = (if y.beyondRun = 3 then true else if y.withinRun = 3 then false
        else x.mismatch) := by
  simp only [RackSamples.tally, Prod.mk.injEq] at h
  obtain ⟨hbeyond, hwithin, hmismatch⟩ := h
  obtain ⟨h1, h2, h3⟩ := compare_spec x (decide (limit < d))
  simp only [decide_eq_true_eq] at h1 h2
  exact ⟨hbeyond.trans h1, hwithin.trans h2, by rw [hmismatch, hbeyond, hwithin]; exact h3⟩

theorem refreshBlind_settled {r : Rack} (h : (s.samples.racks.get r).blind = s.blindCondition r) :
    refreshBlind r s = s := if_pos h.symm

/-- What R39 to R42 leave in the rack of a set that has just been completed; `z` is the state that the
outcome of its last slot left. -/
theorem completed_spec {r : Rack} {z : State}
    (hb : (z.samples.racks.get r).blind = z.blindCondition r)
    (ht : t.samples = (completedSet r z).samples) (hslot : t.table .slot = z.table .slot) :
    (t.samples.racks.get r).hadSet = true ∧
      (t.samples.racks.get r).aggregates = t.aggregatesOf r ∧
      (t.samples.racks.get r).blind = t.blindCondition r ∧
      (z.rackConfig r = none ∨ t.mismatchDifference r = none →
        (t.samples.racks.get r).tally = (z.samples.racks.get r).tally) ∧
      ∀ j d, z.rackConfig r = some j → t.mismatchDifference r = some d →
        (t.samples.racks.get r).tally =
          ((z.samples.racks.get r).compare (decide (j.mismatchLimit < d))).tally := by
  have hz := congrFun (junctionOf_congr (completedSet_tables r z)) r
  have hj : t.junctionOf r = (completedSet r z).junctionOf r :=
    (congrFun (junctionOf_slot hslot) r).trans hz.symm
  have hdiff : t.mismatchDifference r = (completedSet r z).mismatchDifference r :=
    mismatchDifference_congr (by rw [ht]) hj (by rw [ht])
  have hagg : t.aggregatesOf r = z.aggregatesOf r :=
    (aggregatesOf_congr (by rw [ht]) hj).trans (aggregatesOf_congr (completedSet_records r z) hz)
  have hcond : t.blindCondition r = (completedSet r z).blindCondition r :=
    blindCondition_congr (by rw [ht]) (by rw [ht]) hj (by rw [ht])
  rw [hdiff, hagg, hcond, ht]
  exact ⟨by rw [completedSet_self], completedSet_aggregates r z, completedSet_blind hb,
    fun h => (completedSet_unjudged hb h).1, fun j d h hd => (completedSet_judged h hd).1⟩

/-- The command brings the outcome of the slot of an entry: it misses, or its reply is accepted (R39). -/
def State.endsSlot (s : State) (c : Instr) (e : SlotEntry) : Prop :=
  (c = .pollSlotEnd ∧ (∃ k, s.ring.phase = .slot k ∧ s.entries[k]? = some e) ∧
      s.unanswered (s.sideOf e.node) e.node = true) ∨
    ∃ d f, c = .sampleReply d f ∧ s.sampleError d f = none ∧ s.entryOf f.node = some e

/-- A command that ends a slot is the taking of its outcome, settled. -/
theorem endsSlot_taken {c : Instr} {e : SlotEntry} (h : s.endsSlot c e) :
    ∃ o link x y, x.samples = s.samples ∧ x.tables = s.tables ∧
      exec c s = .next (arbitrate (settle y)) ∧
      y.samples = (takeOutcome e o link x).samples ∧ y.tables = (takeOutcome e o link x).tables := by
  rcases h with ⟨rfl, ⟨k, hp, he⟩, hu⟩ | ⟨d, f, rfl, herr, he⟩
  · refine ⟨.miss, (s.missedBy e).linkAt e.node, s.missedBy e, endSlot s,
      sameBut_samples (missedBy_outside e s) (by simp),
      sameBut_tables (missedBy_outside e s) (by simp), exec_pollSlotEnd_of hp he, ?_, ?_⟩
    · rw [endSlot_unanswered hp he hu, ← takeMiss_eq]
      rfl
    · rw [endSlot_unanswered hp he hu, ← takeMiss_eq]
      rfl
  · exact ⟨outcomeOf s e f, .online, s.replied d f e, acceptSample d f e s,
      sameBut_samples (replied_outside d f e s) (by simp),
      sameBut_tables (replied_outside d f e s) (by simp),
      by rw [exec_sampleReply, receiveSample_accepted herr he], rfl, rfl⟩

/-- What the end of a rack's last slot leaves of it: the set is complete (R39 to R42). -/
theorem lastSlot_completed {c : Instr} {e : SlotEntry} {r : Rack} (hc : s.endsSlot c e)
    (he : e.rackOf = some r)
    (hlast : (s.entries.filter fun j => j.rackOf = some r).getLast? = some e) :
    ∃ t, exec c s = .next t ∧ t.table .slot = s.table .slot ∧
      (t.samples.racks.get r).hadSet = true ∧
      (t.samples.racks.get r).aggregates = t.aggregatesOf r ∧
      (t.samples.racks.get r).blind = t.blindCondition r ∧
      (s.rackConfig r = none ∨ t.mismatchDifference r = none →
        (t.samples.racks.get r).tally = (s.samples.racks.get r).tally) ∧
      ∀ j d, s.rackConfig r = some j → t.mismatchDifference r = some d →
        (t.samples.racks.get r).tally =
          ((s.samples.racks.get r).compare (decide (j.mismatchLimit < d))).tally := by
  obtain ⟨o, link, x, y, hsamples, htables, hexec, hys, hyt⟩ := endsSlot_taken hc
  have htaken : takeOutcome e o link x =
      postSetComplete r (completedSet r (tracedOutcome e o link x)) :=
    takeOutcome_last he (by rw [entries_congr htables]; exact hlast) o link
  have hztables : (tracedOutcome e o link x).tables = s.tables :=
    (tracedOutcome_tables e o link x).trans htables
  have hts : (arbitrate (settle y)).samples =
      (completedSet r (tracedOutcome e o link x)).samples := by
    rw [arbitrate_samples, settle_samples, hys, htaken,
      sameBut_samples (postSetComplete_outside r _) (by simp)]
  have hytables : y.tables = s.tables := by
    rw [hyt, htaken, sameBut_tables (postSetComplete_outside r _) (by simp), completedSet_tables,
      hztables]
  have htable {n : TableName} (h : n ≠ .grid) : (arbitrate (settle y)).table n = s.table n :=
    (table_congr (arbitrate_tables _) n).trans ((settle_table_ne h y).trans (table_congr hytables n))
  have hslot := htable (n := .slot) (by decide)
  have htally : ((tracedOutcome e o link x).samples.racks.get r).tally =
      (s.samples.racks.get r).tally := by
    rw [tracedOutcome_tally, hsamples]
  have hconfig : (tracedOutcome e o link x).rackConfig r = s.rackConfig r :=
    congrFun (rackConfig_rack (table_congr hztables _)) r
  obtain ⟨hset, hagg, hblind, hstays, hmoves⟩ := completed_spec (t := arbitrate (settle y))
    (tracedOutcome_blind he o link x) hts (hslot.trans (table_congr hztables _).symm)
  rw [hconfig] at hstays hmoves
  refine ⟨_, hexec, hslot, hset, hagg, hblind, fun h => (hstays h).trans htally,
    fun j d hj hd => (hmoves j d hj hd).trans ?_⟩
  simp only [RackSamples.tally, Prod.mk.injEq] at htally
  obtain ⟨h1, h2, h3⟩ := htally
  simp only [RackSamples.tally, RackSamples.compare, h1, h2, h3]

/-- The blind timer at its time sets the latch and takes its rack off the bus (R42, R148). -/
theorem blindTimer_trips {r : Rack} {e : RackEntry} (he : s.rackConfig r = some e)
    (hdue : (s.samples.racks.get r).blindTimer.due s.now (e.blindTime * 1000) = true) :
    ∃ t, exec (.blindTimerExpiry r) s = .next t ∧
      t.samples = { s.samples with
        racks := s.samples.racks.set r
          { s.samples.racks.get r with blindTimer := .full (e.blindTime * 1000) } } ∧
      (t.trips.racks.get r).blind = ⟨true, false⟩ ∧ t.rackState r ≠ .connected := by
  have hnow : s.blindIsDue r = true := by
    rw [State.blindIsDue, he]
    exact hdue
  have hexec : exec (.blindTimerExpiry r) s =
      .next (arbitrate (settle (expireBlind r e.blindTime s))) := by
    rw [exec_blindTimerExpiry, moveWhen_of hnow, State.blindTime, he]
  have hlive := settle_live (takeCause_live .blind (some r) _ _ (List.mem_singleton.2 rfl) :
    ((expireBlind r e.blindTime s).rackState r).live = false)
  refine ⟨_, hexec, ?_, ?_, ?_⟩
  · rw [arbitrate_samples, settle_samples]
    exact sameBut_samples (A := [.limits, .sequencer, .trips, .converter, .site, .choices])
      (s := s.setRackSamples r
        { s.samples.racks.get r with blindTimer := .full (e.blindTime * 1000) })
      (by unfold expireBlind; simp [sameBut_refl]) (by simp)
  · rw [arbitrate_trips]
    exact settle_rack_taken (k := .blind) (takeCause_rack (kind := .blind) rfl r _ _)
  · rw [rackState_eq_of_sequencer (arbitrate_sequencer _)]
    exact (rackState_of_not_live hlive).2.2.2

/-- Settles O28. -/
theorem blindTimerTripsRack : Obligations.BlindTimerTripsRack := by
  unfold Obligations.BlindTimerTripsRack
  refine ⟨?timer, ?aggregates, ?mismatch, ?difference, ?blind, ?complete⟩
  case timer =>
    exact fun s r e he hdue => blindTimer_trips he hdue
  case aggregates =>
    intro s r a records fresh volts firstOf
    have ha : a = s.aggregatesOf r := rackSetComplete_aggregates r s
    have hfirst {worse : Int → Int → Prop} {better : Int → Int → Bool} (hx : Extremal worse better)
        (k : RecordKind) : firstOf (extreme better (records.filter fun x => x.kind = k)) k worse := by
      have h := extreme_firstOf hx (records.filter fun x => x.kind = k)
      rw [filter_gives] at h
      exact ⟨h.absent, h.first⟩
    have hvolts : (records.filter fun x => x.kind = .cellVoltage).filterMap Record.freshValue =
        volts := by
      rw [filterMap_freshValue, filter_gives]
    have hsum : a.vsum = if volts.length = 0 then none else some volts.sum := by
      rw [ha, ← hvolts]
      rfl
    have hmean : a.vmean = if volts.length = 0 then none
        else some (floorDiv volts.sum volts.length) := by
      rw [ha, ← hvolts]
      rfl
    refine ⟨?_, ?_, ?_, ?_, ?_, fun h => ?_, fun h => ?_, ?_, ?_⟩
    · rw [ha]; exact hfirst extremal_max .cellVoltage
    · rw [ha]; exact hfirst extremal_min .cellVoltage
    · rw [ha]; exact hfirst extremal_max .cellTemperature
    · rw [ha]; exact hfirst extremal_min .cellTemperature
    · rw [ha, ← hvolts]
      rfl
    · rw [hsum, hmean, h]
      exact ⟨rfl, rfl⟩
    · have hn : volts.length ≠ 0 := mt List.length_eq_zero_iff.1 h
      rw [hsum, hmean, if_neg hn, if_neg hn, floorDiv_eq_fdiv _ (Int.natCast_nonneg _)]
      exact ⟨rfl, rfl⟩
    · rw [ha, List.countP_eq_length_filter]
      rfl
    · rw [ha, List.countP_eq_length_filter]
      rfl
  case mismatch =>
    intro s r e he x y
    refine ⟨fun hd => ?_, fun d hd => tally_compare ?_⟩
    · show ((checkMismatch r s).samples.racks.get r) = _
      rw [checkMismatch_unjudged (.inr hd)]
    · show ((checkMismatch r s).samples.racks.get r).tally = _
      rw [checkMismatch_judged he hd]
      exact (refreshBlindOf_tally (some r) r _).trans
        (congrArg RackSamples.tally (PerRack.get_set_self _ _ _))
  case difference =>
    exact fun s r j v w sum hj hv hw hsum => mismatchDifference_eq hj hv hw hsum
  case blind =>
    intro s r x y
    have hy : y = _ := refreshBlind_self r s
    have hb : y.blind = s.blindCondition r := by rw [hy]
    refine ⟨by rw [hb]; exact blindCondition_iff s r, ?_⟩
    rw [hb, hy]
    simp only [Bool.and_eq_true]
    rfl
  case complete =>
    intro c s e r hc he hlast
    obtain ⟨t, hexec, hslot, hset, hagg, hblind, hstays, hmoves⟩ := lastSlot_completed hc he hlast
    refine ⟨t, hexec, hset, hagg, ?_, refreshBlind_settled hblind, fun h => ?_,
      fun j d hj hd => tally_compare (hmoves j d hj hd)⟩
    · rw [hblind, blindCondition_iff, congrFun (junctionOf_slot hslot) r]
    · simpa only [RackSamples.tally, Prod.mk.injEq] using hstays h

end Sys2Proof.Machine
